-- ==== Sys2Proof/Word.lean ====
section
/-! DEFINITION. The byte that travels on both ports. Everything wider is kept as the number it stands for. -/

namespace Sys2Proof

/-- One byte of a POS link frame, of the content window, of a pixel channel or of asset memory. -/
abbrev Byte := BitVec 8

end Sys2Proof
end

