-- ==== Sys2Proof/Machine/Bytes.lean ====
section
/-! DEFINITION. Byte orders and fields: big-endian on the POS link and in the digest, little-endian in the
content window (00_scope.md, "Byte layouts"), and the two check codes of R31 and R158. -/

namespace Sys2Proof.Machine

/-- The byte at a position as a number; a position beyond the end reads 0. -/
def byteAt (l : List Byte) (i : Nat) : Nat := (l.getD i 0).toNat

/-- The big-endian number in `n` bytes from position `i`. -/
def beAt (l : List Byte) (i : Nat) : Nat → Nat
  | 0 => 0
  | n + 1 => beAt l i n * 256 + byteAt l (i + n)

/-- The little-endian number in `n` bytes from position `i`. -/
def leAt (l : List Byte) (i : Nat) : Nat → Nat
  | 0 => 0
  | n + 1 => byteAt l i + 256 * leAt l (i + 1) n

/-- A number as one byte. -/
def byteOf (v : Nat) : Byte := BitVec.ofNat 8 v

/-- A number in `n` bytes, least significant first. -/
def leBytes : Nat → Nat → List Byte
  | 0, _ => []
  | n + 1, v => byteOf v :: leBytes n (v / 256)

/-- A number in `n` bytes, most significant first. -/
def beBytes (n v : Nat) : List Byte := (leBytes n v).reverse

/-- A truth value as a byte, 01h for true. -/
def flagByte (b : Bool) : Byte := if b then 1 else 0

/-- `n` bytes of zeros. -/
def zeros (n : Nat) : List Byte := List.replicate n 0

/-- One bit of the reflected CRC-32 of R31 (polynomial EDB88320h in reflected form). -/
def crc32Bit (c : BitVec 32) : BitVec 32 :=
  if c.getLsbD 0 then (c >>> 1) ^^^ 0xEDB88320#32 else c >>> 1

/-- One byte of the CRC-32 of R31, least significant bit first. -/
def crc32Byte (c : BitVec 32) (b : Byte) : BitVec 32 :=
  crc32Bit (crc32Bit (crc32Bit (crc32Bit (crc32Bit (crc32Bit (crc32Bit (crc32Bit
    (c ^^^ b.setWidth 32))))))))

/-- The CRC-32 of R31: initial value FFFFFFFFh, final XOR FFFFFFFFh. -/
def crc32 (l : List Byte) : BitVec 32 := l.foldl crc32Byte 0xFFFFFFFF#32 ^^^ 0xFFFFFFFF#32

/-- One bit of the CRC-16 of R158 (polynomial 1021h, not reflected). -/
def crc16Bit (c : BitVec 16) : BitVec 16 :=
  if c.getLsbD 15 then (c <<< 1) ^^^ 0x1021#16 else c <<< 1

/-- One byte of the CRC-16 of R158, most significant bit first. -/
def crc16Byte (c : BitVec 16) (b : Byte) : BitVec 16 :=
  crc16Bit (crc16Bit (crc16Bit (crc16Bit (crc16Bit (crc16Bit (crc16Bit (crc16Bit
    (c ^^^ (b.setWidth 16 <<< 8)))))))))

/-- The CRC-16 of R158: initial value FFFFh, no final XOR. -/
def crc16 (l : List Byte) : BitVec 16 := l.foldl crc16Byte 0xFFFF#16

end Sys2Proof.Machine
end

