-- ==== Sys2Proof/Machine/Records.lean ====
section
/-! DEFINITION. The records the part keeps and the NV price array stores: items, promotions, pricing rules
and the daypart schedule (Chapters 1 and 3), with the conditions that make each one valid, and the slot and
journal words of the array (Chapter 4). -/

namespace Sys2Proof.Machine

/-- One of the four pricing periods of the day. -/
abbrev Daypart := Fin 4

/-- A daypart from its number. -/
def daypartOf (n : Nat) : Option Daypart := if h : n < 4 then some ⟨n, h⟩ else none

/-- The largest price, 999,999 minor units (R1). -/
def maxPrice : Nat := 999999

/-- The body of an item record (R1): four prices with their presence, and the promotion named. -/
structure ItemBody where
  price : Vector (Option Nat) 4
  promo : Option Nat
deriving DecidableEq, Repr

/-- R1: a code that an item may bear. -/
def validCode (code : Nat) : Bool := decide (1 ≤ code) && decide (code ≤ 65534)

/-- R1: a present price lies in 0..999,999. -/
def validPrice (p : Option Nat) : Bool := p.all (fun v => decide (v ≤ maxPrice))

/-- R1: the conditions on a body. -/
def ItemBody.valid (b : ItemBody) : Bool :=
  (b.price[0].isSome || b.price[1].isSome || b.price[2].isSome || b.price[3].isSome)
    && validPrice b.price[0] && validPrice b.price[1] && validPrice b.price[2] && validPrice b.price[3]
    && b.promo.all (fun i => decide (i < 32))

/-- The kinds of promotion (1.2). -/
inductive PromoKind where
  | percent
  | amount
  | fixed
deriving DecidableEq, Repr

/-- A promotion record (1.2). -/
structure Promotion where
  enabled : Bool
  kind : PromoKind
  value : Nat
  mask : BitVec 4
deriving DecidableEq, Repr

/-- R4: the value lies in the range of its kind. -/
def PromoKind.inRange (k : PromoKind) (v : Nat) : Bool :=
  match k with
  | .percent => decide (1 ≤ v) && decide (v ≤ 90)
  | .amount => decide (1 ≤ v) && decide (v ≤ maxPrice)
  | .fixed => decide (v ≤ maxPrice)

/-- R4: the ranges every promotion record satisfies. -/
def Promotion.valid (p : Promotion) : Bool := p.kind.inRange p.value && !decide (p.mask = 0)

/-- R5: the default promotion. -/
def Promotion.standard : Promotion := { enabled := false, kind := .percent, value := 1, mask := 15 }

/-- How tax enters a shown price (1.3). -/
inductive TaxMode where
  | exclusive
  | inclusive
deriving DecidableEq, Repr

/-- How a price is rounded to the step (1.3). -/
inductive RoundingMode where
  | nearest
  | up
  | down
deriving DecidableEq, Repr

/-- The pricing rules record (1.3). `twoDigits` says whether the minor digits are 2 or 0. -/
structure Rules where
  taxMode : TaxMode
  taxRate : Nat
  step : Nat
  rounding : RoundingMode
  twoDigits : Bool
  defaultDaypart : Daypart
deriving DecidableEq, Repr

/-- R6: the rounding steps. -/
def roundingSteps : List Nat := [1, 2, 5, 10, 25, 50, 100]

/-- R6: every field holds one of its listed values. -/
def Rules.valid (r : Rules) : Bool := decide (r.taxRate ≤ 2500) && roundingSteps.contains r.step

/-- The defaults of 1.3. -/
def Rules.standard : Rules :=
  { taxMode := .exclusive, taxRate := 0, step := 1, rounding := .nearest, twoDigits := true, defaultDaypart := 0 }

/-- One entry of the daypart schedule (R43). -/
structure ScheduleEntry where
  start : Nat
  daypart : Daypart
deriving DecidableEq, Repr

/-- R43: start minutes strictly rising above `low`, each below 1440. -/
def startsRising : Option Nat → List ScheduleEntry → Bool
  | _, [] => true
  | low, e :: rest =>
    decide (e.start < 1440) && low.all (fun l => decide (l < e.start)) && startsRising (some e.start) rest

/-- R43: 1..4 entries in strictly increasing order of start minute. -/
def scheduleValid (es : List ScheduleEntry) : Bool :=
  decide (1 ≤ es.length) && decide (es.length ≤ 4) && startsRising none es

/-- R43: the default schedule, one entry at minute 0 with the rules' default daypart. -/
def standardSchedule (r : Rules) : List ScheduleEntry := [{ start := 0, daypart := r.defaultDaypart }]

/-- An NV slot, 0..545 (R51). -/
abbrev SlotId := Fin 546

/-- A table index of an item, 0..511 (R2). -/
abbrev ItemIndex := Fin 512

/-- R2: the slot of an item is its table index. -/
def itemSlot (i : ItemIndex) : SlotId := ⟨i.val, by omega⟩

/-- R6: the slot of the rules record. -/
def rulesSlot : SlotId := 512

/-- R4: the slot of a promotion is 513 plus its index. -/
def promoSlot (i : Fin 32) : SlotId := ⟨513 + i.val, by omega⟩

/-- R43: the slot of the schedule. -/
def scheduleSlot : SlotId := 545

/-- What a slot backs (R51). -/
inductive SlotKind where
  | item (i : ItemIndex)
  | rules
  | promo (i : Fin 32)
  | schedule
deriving DecidableEq, Repr

/-- R51: the position a slot backs. -/
def slotKind (n : SlotId) : SlotKind :=
  if h : n.val < 512 then .item ⟨n.val, h⟩
  else if n.val = 512 then .rules
  else if h : n.val - 513 < 32 then .promo ⟨n.val - 513, h⟩
  else .schedule

/-- What the tag and data of a slot say (R51). `unknown` is a tag that names no record. -/
inductive SlotRecord where
  | unknown
  | item (code : Nat) (body : ItemBody)
  | rules (r : Rules)
  | promo (index : Nat) (p : Promotion)
  | schedule (entries : List ScheduleEntry)
deriving DecidableEq, Repr, Inhabited

/-- How one 72-bit word decodes (R52). -/
inductive WordClass where
  | erased
  | clean
  | sec
  | ded
deriving DecidableEq, Repr, Inhabited

/-- A slot of the array: how each of its three words decodes, and the record they hold together. The
source gives neither the check matrix nor the bit layout of the words, so a word is held as its class
(log entry 4). -/
structure NvSlot where
  word0 : WordClass
  word1 : WordClass
  word2 : WordClass
  record : SlotRecord
deriving DecidableEq, Repr, Inhabited

/-- A slot whose three words hold the erased pattern (R51). -/
def NvSlot.erased : NvSlot := { word0 := .erased, word1 := .erased, word2 := .erased, record := .unknown }

/-- A slot just programmed from a record (R51). -/
def NvSlot.programmed (r : SlotRecord) : NvSlot := { word0 := .clean, word1 := .clean, word2 := .clean, record := r }

/-- The result of reading a whole slot (R52). -/
inductive SlotRead where
  | erased
  | clean
  | sec
  | ded
deriving DecidableEq, Repr

/-- R52: the classing of a slot from its words. -/
def NvSlot.read (s : NvSlot) : SlotRead :=
  let ws := [s.word0, s.word1, s.word2]
  if ws.all (fun w => decide (w = .erased)) then .erased
  else if ws.any (fun w => decide (w = .ded) || decide (w = .erased)) then .ded
  else if ws.any (fun w => decide (w = .sec)) then .sec
  else .clean

/-- R52: the contents fit the position and satisfy the conditions of their kind. -/
def SlotRecord.validFor (k : SlotKind) (r : SlotRecord) : Bool :=
  match k, r with
  | .item _, .item code body => validCode code && body.valid
  | .rules, .rules r => r.valid
  | .promo i, .promo j p => decide (i.val = j) && p.valid
  | .schedule, .schedule es => scheduleValid es
  | _, _ => false

/-- The journal word: how it decodes, and the number it names (R54). -/
structure Journal where
  word : WordClass
  slot : Nat
deriving DecidableEq, Repr

/-- The journal when it names no slot (R51). -/
def Journal.erased : Journal := { word := .erased, slot := 0 }

/-- The journal programmed with a slot number (R60). -/
def Journal.names (n : SlotId) : Journal := { word := .clean, slot := n.val }

end Sys2Proof.Machine
end

