-- ==== Sys2Proof/Syntax.lean ====
section
/-! DEFINITION. The commands of the block: one constructor of `Instr` per row of spec/opcode_table.json.
The table gives its rows no operands; a row's operands here are what its rule says the step carries:
the payload of a POS request as it stands in the frame (Table 12-2), the fields of a content command as
they stand in the command record (Table 12-6) with the value written to the go word, the offset and bytes
of a window access, and, for a step the part takes by itself, what only the physical world decides
(a sensor code, the words an array operation meets, bodies upset since the last step). -/

namespace Sys2Proof

open Sys2Proof.Machine

/-- Whether an accepted frame carries this unit's address or address 0 (R158). -/
inductive Addressing where
  | addressed
  | broadcast
deriving DecidableEq, Repr

/-- The two paths on which CHECK_TEST is taken (R141). -/
inductive TestPath where
  | posLink (addressing : Addressing) (payload : List Byte)
  | contentPort (go : BitVec 32)
deriving DecidableEq, Repr

namespace Machine

/-- An upset of the compose stage's datapath at one tile (9.5): the price and clamped cause that its arithmetic then gives
in place of the right ones, and the glyph string that its string former then gives in place of the price's string. None
where that part of the datapath works. -/
structure ComposeUpset where
  price : Option (Nat × Bool)
  glyphs : Option (List Nat)
deriving DecidableEq, Repr

/-- A datapath that works. -/
def ComposeUpset.clear : ComposeUpset := { price := none, glyphs := none }

/-- What upsets do to one layer of the compose stage: the bodies upset since the last step (1.6), and what an upset
makes of the datapath at the layer (9.5). -/
structure LayerUpsets where
  bodies : List ItemIndex
  datapath : ComposeUpset
deriving DecidableEq, Repr

/-- The fields of ASSET_OPEN (Table 12-6). -/
structure OpenForm where
  handle : BitVec 16
  format : Byte
  width : BitVec 16
  height : BitVec 16
  stride : BitVec 16
deriving DecidableEq, Repr

/-- The fields of SCENE_BEGIN (Table 12-6). -/
structure SceneForm where
  panel : Byte
  dimGiven : Byte
  dim : Byte
  red : Byte
  green : Byte
  blue : Byte
deriving DecidableEq, Repr

/-- The fields of LAYER_ADD (Table 12-6). -/
structure LayerForm where
  panel : Byte
  kind : Byte
  x : BitVec 16
  y : BitVec 16
  w : BitVec 16
  h : BitVec 16
  alpha : Byte
  mask : Byte
  soldOut : Byte
  code : BitVec 16
  handle : BitVec 16
  style : Byte
  blue : Byte
  green : Byte
  red : Byte
  colourAlpha : Byte
deriving DecidableEq, Repr

/-- The fields of STYLE_SET (Table 12-6). -/
structure StyleForm where
  index : Byte
  font : Byte
  cw : Byte
  ch : BitVec 16
  blue : Byte
  green : Byte
  red : Byte
  alpha : Byte
  symbol : Byte
  mark : Byte
  grouping : Byte
  minor : Byte
  alignment : Byte
deriving DecidableEq, Repr

/-- The fields of CURVE_SET (Table 12-6). -/
structure CurveForm where
  panel : Byte
  a : Vector (BitVec 16) 4
  d : Vector (BitVec 16) 4
deriving DecidableEq, Repr

/-- The fields of THERMAL_SET (Table 12-6). -/
structure ThermalForm where
  panel : Byte
  restart : Byte
  restore : BitVec 16
  warn : BitVec 16
  shutdown : BitVec 16
  cap : BitVec 16
deriving DecidableEq, Repr

end Machine

/-- The commands and events of the block, in the table's order. -/
inductive Instr where
  /-- POWER_ON_RESET: with the two straps as they are sampled. -/
  | powerOnReset (addressStraps : BitVec 5) (largeMemory : Bool)
  /-- PCIE_LINK_RESET -/
  | pcieLinkReset
  /-- LOAD_COMPLETION: `slots` and `journal` are the words of the array the load finds other than they were
  last written. -/
  | loadCompletion (slots : List (SlotId × NvSlot)) (journal : Option Journal)
  /-- LINE_BYTE: a byte received, and whether it came without a stop bit. -/
  | lineByte (b : Byte) (framingError : Bool)
  /-- IDLE_PERIOD_EXPIRY -/
  | idlePeriodExpiry
  /-- FRAME_GAP_EXPIRY -/
  | frameGapExpiry
  /-- FRAME_DROPPED: a complete frame from its address byte to its low CRC byte. -/
  | frameDropped (frame : List Byte)
  /-- UNKNOWN_KIND: an accepted frame. -/
  | unknownKind (addressing : Addressing) (kind : Byte) (payload : List Byte)
  /-- ANSWER_BEGIN -/
  | answerBegin
  /-- ANSWER_END -/
  | answerEnd
  /-- STATUS -/
  | status (addressing : Addressing) (payload : List Byte)
  /-- ITEM_STAGE -/
  | itemStage (addressing : Addressing) (payload : List Byte)
  /-- ITEM_REMOVE -/
  | itemRemove (addressing : Addressing) (payload : List Byte)
  /-- PROMO_STAGE -/
  | promoStage (addressing : Addressing) (payload : List Byte)
  /-- RULES_STAGE -/
  | rulesStage (addressing : Addressing) (payload : List Byte)
  /-- STAGE_ABORT -/
  | stageAbort (addressing : Addressing) (payload : List Byte)
  /-- COMMIT -/
  | commit (addressing : Addressing) (payload : List Byte)
  /-- COMMIT_CHECK_COMPLETION: `upsets` are bodies upset since the last step. -/
  | commitCheckCompletion (upsets : List ItemIndex)
  /-- APPLY -/
  | apply (addressing : Addressing) (payload : List Byte)
  /-- COMMIT_CANCEL -/
  | commitCancel (addressing : Addressing) (payload : List Byte)
  /-- HOLD_EXPIRY -/
  | holdExpiry
  /-- AVAIL_SET -/
  | availSet (addressing : Addressing) (payload : List Byte)
  /-- SCHEDULE_SET -/
  | scheduleSet (addressing : Addressing) (payload : List Byte)
  /-- DAYPART_FORCE -/
  | daypartForce (addressing : Addressing) (payload : List Byte)
  /-- TIME_SET -/
  | timeSet (addressing : Addressing) (payload : List Byte)
  /-- ITEM_READ -/
  | itemRead (addressing : Addressing) (payload : List Byte)
  /-- SUSPENDED_LIST -/
  | suspendedList (addressing : Addressing) (payload : List Byte)
  /-- SUSPEND_CLEAR -/
  | suspendClear (addressing : Addressing) (payload : List Byte)
  /-- NVA_REPORT -/
  | nvaReport (addressing : Addressing) (payload : List Byte)
  /-- CHECK_TEST -/
  | checkTest (path : TestPath)
  /-- SECOND_TICK -/
  | secondTick
  /-- FRAME_START: `panelFirst` says which of two orders the part took, where R146 allows both: whether the
  conversion begin and the duty move came before the installation of panel settings. -/
  | frameStart (panelFirst : Bool)
  /-- COMPOSE_PANEL_FILL -/
  | composePanelFill
  /-- COMPOSE_LAYER: `upsets` are the bodies upset since the last step, and what an upset made of the price arithmetic
  and of the string of this tile (9.5). -/
  | composeLayer (upsets : LayerUpsets)
  /-- COMPOSE_STAGE_END -/
  | composeStageEnd
  /-- CHECK_RECORD: `upsets` are bodies upset since the last step; `stuck` says that the comparator has failed
  and reports any two strings equal (9.4). -/
  | checkRecord (upsets : List ItemIndex) (stuck : Bool)
  /-- CHECK_STAGE_END -/
  | checkStageEnd
  /-- PATCH_RECORD -/
  | patchRecord
  /-- JOB_COMPLETION -/
  | jobCompletion
  /-- SLOT_WRITE_BEGIN: `upsets` are bodies upset since the last step. -/
  | slotWriteBegin (upsets : List ItemIndex)
  /-- SLOT_WRITE_COMPLETION: what the slot holds when read back, where that is not what was programmed. -/
  | slotWriteCompletion (found : Option NvSlot)
  /-- REPAIR_READ_START -/
  | repairReadStart
  /-- REPAIR_READ_COMPLETION: what the slot is found to hold, where that is not what was last written. -/
  | repairReadCompletion (found : Option NvSlot)
  /-- SENSOR_CONVERSION_COMPLETION: the code converted. -/
  | sensorConversionCompletion (code : BitVec 10)
  /-- APERTURE_WRITE: an offset in the lower 64 MiB of the content window and the bytes carried. -/
  | apertureWrite (offset : BitVec 26) (data : List Byte)
  /-- SUMMARY_WORD_READ: a read of the content window by offset and length. -/
  | summaryWordRead (offset : BitVec 27) (length : Nat)
  /-- LOAD_FAULT_RECORD_READ: a read of the content window by offset and length. -/
  | loadFaultRecordRead (offset : BitVec 27) (length : Nat)
  /-- REGISTER_WRITE: a write to the content window. -/
  | registerWrite (offset : BitVec 27) (data : List Byte)
  /-- UNKNOWN_COMMAND: a go word over a record with this command code. -/
  | unknownCommand (go : BitVec 32) (code : Byte)
  /-- ASSET_OPEN -/
  | assetOpen (go : BitVec 32) (form : OpenForm)
  /-- ASSET_CLOSE -/
  | assetClose (go : BitVec 32) (handle : BitVec 16)
  /-- ASSET_ABORT -/
  | assetAbort (go : BitVec 32) (handle : BitVec 16)
  /-- ASSET_FREE -/
  | assetFree (go : BitVec 32) (handle : BitVec 16)
  /-- ASSET_QUERY -/
  | assetQuery (go : BitVec 32) (handle : BitVec 16)
  /-- SCENE_BEGIN -/
  | sceneBegin (go : BitVec 32) (form : SceneForm)
  /-- LAYER_ADD -/
  | layerAdd (go : BitVec 32) (form : LayerForm)
  /-- SCENE_SUBMIT -/
  | sceneSubmit (go : BitVec 32) (panel : Byte)
  /-- SCENE_DISCARD -/
  | sceneDiscard (go : BitVec 32) (panel : Byte)
  /-- STYLE_SET -/
  | styleSet (go : BitVec 32) (form : StyleForm)
  /-- PANEL_SET -/
  | panelSet (go : BitVec 32) (panel : Byte) (enable : Byte) (resolution : Byte)
  /-- CURVE_SET -/
  | curveSet (go : BitVec 32) (form : CurveForm)
  /-- THERMAL_SET -/
  | thermalSet (go : BitVec 32) (form : ThermalForm)
  /-- BACKLIGHT_RESTART -/
  | backlightRestart (go : BitVec 32) (panel : Byte)
  /-- FRAME_RATE_SET -/
  | frameRateSet (go : BitVec 32) (rate : Byte)
  /-- ITEM_QUERY -/
  | itemQuery (go : BitVec 32) (code : BitVec 16)
  /-- STATUS_QUERY -/
  | statusQuery (go : BitVec 32)
  /-- MESSAGE_ENABLE: the host enables or disables the interrupt message. -/
  | messageEnable (enabled : Bool)
deriving DecidableEq, Repr

end Sys2Proof
end

