-- ==== Sys2Proof/Decode.lean ====
section
/-! DEFINITION. The command a word spells by the bits of spec/opcode_table.json. The table gives no row any bits
("fields" is empty in all 67 rows and none has "fixed"), so no word spells a command (log entry 12). What the
part itself decodes, frames by their kind byte and command records by their code byte, stands in
Machine/Link.lean (requestOf) and Machine/Port.lean (State.runRecord). -/

namespace Sys2Proof

/-- The command that a word of the table's bits spells: none, for want of a row with bits. -/
def decodeTableWord (_nbits _w : Nat) : Option Instr := none

end Sys2Proof
end

