-- ==== Sys2Proof/Config.lean ====
section
/-! DEFINITION. What the spec leaves to the implementation or to physics: constants without a body. Nothing in
the model or in a proof can see their values. -/

namespace Sys2Proof.Config

open Sys2Proof.Machine

/-- The revision in bits 0..7 of the second identification word. R171 gives the field and states no value
(log entry 5). -/
opaque revision : Byte

/-- R65: a slot whose write is cut short by a power-on reset is left as the erase or program stood. The source
does not say what its words then hold: a free value, a fresh one at each draw (log entry 6). -/
opaque cutShort : Nat → NvSlot

/-- The second byte of a STATUS answer while the time base is unset. Table 12-5 gives FFFFh for the minute and states
no value for the second (log entry 11). -/
opaque unsetSecond : Byte

end Sys2Proof.Config
end

