-- ==== Sys2Proof/Machine/Sparse.lean ====
section
/-! DEFINITION. Sparse tables: a list of (key, value) pairs in one canonical form, keys strictly rising.
Asset memory, frame buffers, the item table, the NV array, the slot states, the asset entries, the
pending-availability map and the suspended set are all held this way. -/

namespace Sys2Proof.Machine

/-- The value listed for a key, if any. -/
def Sparse.find {κ α : Type} [LinearOrder κ] : List (κ × α) → κ → Option α
  | [], _ => none
  | (a, v) :: rest, k => if k = a then some v else Sparse.find rest k

/-- List `v` for `k`, in the place of any value listed before. -/
def Sparse.put {κ α : Type} [LinearOrder κ] : List (κ × α) → κ → α → List (κ × α)
  | [], k, v => [(k, v)]
  | (a, w) :: rest, k, v =>
    if k < a then (k, v) :: (a, w) :: rest
    else if k = a then (k, v) :: rest
    else (a, w) :: Sparse.put rest k v

/-- List nothing for `k`. -/
def Sparse.drop {κ α : Type} [LinearOrder κ] (m : List (κ × α)) (k : κ) : List (κ × α) :=
  m.filter (fun e => !decide (e.1 = k))

/-- The value of a key in a table whose unlisted keys read as `d`. -/
def Sparse.getD {κ α : Type} [LinearOrder κ] (d : α) (m : List (κ × α)) (k : κ) : α :=
  (Sparse.find m k).getD d

/-- Write a key of a table whose unlisted keys read as `d`; writing `d` removes the entry. -/
def Sparse.setD {κ α : Type} [LinearOrder κ] [DecidableEq α] (d : α) (m : List (κ × α)) (k : κ) (v : α) :
    List (κ × α) :=
  if v = d then Sparse.drop m k else Sparse.put m k v

/-- Keys strictly rising. -/
def Sparse.rising {κ α : Type} [LinearOrder κ] : List (κ × α) → Bool
  | [] => true
  | [_] => true
  | (a, _) :: (b, w) :: rest => decide (a < b) && Sparse.rising ((b, w) :: rest)

/-- The canonical form of a table whose unlisted keys read as `d`. -/
def Sparse.canonical {κ α : Type} [LinearOrder κ] [DecidableEq α] (d : α) (m : List (κ × α)) : Bool :=
  Sparse.rising m && m.all (fun e => !decide (e.2 = d))

end Sys2Proof.Machine
end

