-- ==== Sys2Proof/Machine/State.lean ====
section
/-! DEFINITION. The state of the part, block by block as the block diagram of 00_scope.md names them, the
queue of waiting commands, and the state right after reset. Plain data throughout. -/

namespace Sys2Proof.Machine

/-- Why a step could stop with a fault: it has no constructor, because the spec names no event that stops the
part. Every access to the content window is defined (R166), and every error is a status, a flag or a record. -/
inductive Fault
deriving DecidableEq, Repr

/-- Why a step could be refused. -/
inductive Refusal where
  /-- Raised by an arm of `exec` for a row of the table whose meaning is not written yet; safe, since the machine
  stops where the part would go on. No arm raises it now. -/
  | notModelled (mnemonic : String)
deriving DecidableEq, Repr

/-! ### Price table (Chapter 1) -/

/-- Availability of an item (R8). -/
inductive Availability where
  | available
  | soldOut
deriving DecidableEq, Repr

/-- Record health (R11). -/
inductive Health where
  | good
  | corrupt
deriving DecidableEq, Repr

/-- An item of the table: its key, its body with the standing of its parity, its health and availability. -/
structure Item where
  code : Nat
  body : ItemBody
  /-- The stored body no longer agrees with its parity (1.6). -/
  parityFails : Bool
  health : Health
  avail : Availability
deriving DecidableEq, Repr

/-- The price table: items by table index, promotions, rules, and the pending-availability map. -/
structure PriceTable where
  items : List (ItemIndex × Item)
  promos : Vector Promotion 32
  rules : Rules
  pendingAvail : List (Nat × Availability)
deriving DecidableEq, Repr

/-! ### Change stager (Chapter 2) -/

/-- A staged change (2.1). -/
inductive StagedEntry where
  | itemSet (code : Nat) (body : ItemBody)
  | itemRemove (code : Nat)
  | promoSet (index : Fin 32) (p : Promotion)
  | rulesSet (r : Rules)
deriving DecidableEq, Repr

/-- The key of a staged entry (2.1). -/
inductive EntryKey where
  | item (code : Nat)
  | promo (index : Fin 32)
  | rules
deriving DecidableEq, Repr

/-- The state of a commit record (2.2). A HELD record carries whether its hold expiry is fixed yet: R33 fixes it
when the COMMIT answer has been sent or withdrawn. -/
inductive CommitState where
  | checking
  | held (expiryFixed : Bool)
  | pending
deriving DecidableEq, Repr

/-- The commit record (2.2). -/
structure CommitRecord where
  state : CommitState
  entries : List StagedEntry
  hold : Bool
  digest : BitVec 32
deriving DecidableEq, Repr

/-- How the most recent commit record ended (R28). -/
inductive LastOutcome where
  | none
  | applied
  | cancelled
  | expired
deriving DecidableEq, Repr

/-- The change stager. -/
structure Stager where
  staging : List StagedEntry
  commit : Option CommitRecord
  commitNumber : BitVec 16
  lastOutcome : LastOutcome
deriving DecidableEq, Repr

/-! ### Daypart unit (Chapter 3) -/

/-- A set time base (R41). -/
structure TimeOfDay where
  minute : Nat
  second : Nat
deriving DecidableEq, Repr

/-- The daypart unit. -/
structure DaypartUnit where
  time : Option TimeOfDay
  schedule : List ScheduleEntry
  force : Option Daypart
  live : Daypart
deriving DecidableEq, Repr

/-! ### NV price array (Chapter 4) -/

/-- The state of a slot (4.4). -/
inductive SlotState where
  | clean
  | dirty
  | writing
  | stale
  | faulted
deriving DecidableEq, Repr

/-- A slot write in flight (R60): the slot, the copied record (none: an erase alone), the rewrite mark, and
whether a repair waits on it. -/
structure SlotWrite where
  slot : SlotId
  copy : Option SlotRecord
  rewrite : Bool
  repairWaits : Bool
deriving DecidableEq, Repr

/-- What the array is carrying out (R59). -/
inductive ArrayOp where
  | free
  | write (w : SlotWrite)
  | read (i : ItemIndex)
deriving DecidableEq, Repr

/-- The kinds of fault (R57). -/
inductive FaultKind where
  | sec
  | ded
  | torn
  | duplicate
deriving DecidableEq, Repr

/-- Where a fault was found (R57). -/
inductive FaultOrigin where
  | load
  | write
  | repair
deriving DecidableEq, Repr

/-- An entry of the fault list; slot 546 is the journal (R57). -/
structure FaultEntry where
  slot : Nat
  kind : FaultKind
  origin : FaultOrigin
deriving DecidableEq, Repr

/-- The NV price array. Unlisted slots of `array` are erased, unlisted slots of `slotStates` are CLEAN. -/
structure Nva where
  array : List (SlotId × NvSlot)
  journal : Journal
  slotStates : List (SlotId × SlotState)
  queue : List SlotId
  repairs : List ItemIndex
  op : ArrayOp
  faults : List FaultEntry
  more : Bool
  /-- The NVA load state is LOADING (R53). -/
  loading : Bool
deriving DecidableEq, Repr

/-! ### String former (Chapter 5) -/

/-- Red, green and blue, 8 bits each. -/
structure Rgb where
  red : Byte
  green : Byte
  blue : Byte
deriving DecidableEq, Repr

/-- Black. -/
def Rgb.black : Rgb := { red := 0, green := 0, blue := 0 }

/-- An asset handle 1..255, held as its number less one. -/
abbrev Handle := Fin 255

/-- Where the currency symbol stands (5.1). -/
inductive SymbolPosition where
  | before
  | after
  | none
deriving DecidableEq, Repr

/-- The mark before the minor digits (5.1). -/
inductive DecimalMark where
  | point
  | comma
deriving DecidableEq, Repr

/-- The separator of digit groups (5.1). -/
inductive Grouping where
  | none
  | comma
  | point
deriving DecidableEq, Repr

/-- How minor digits of 00 are written (5.1). -/
inductive MinorDisplay where
  | full
  | trimZero
deriving DecidableEq, Repr

/-- Horizontal placement in the tile (5.1). -/
inductive Alignment where
  | left
  | right
  | center
deriving DecidableEq, Repr

/-- A price style (5.1). -/
structure Style where
  font : Option Handle
  cw : Nat
  ch : Nat
  colour : Rgb
  alpha : Byte
  symbol : SymbolPosition
  mark : DecimalMark
  grouping : Grouping
  minor : MinorDisplay
  alignment : Alignment
deriving DecidableEq, Repr

/-- The defaults of 5.1. -/
def Style.standard : Style :=
  { font := Option.none, cw := 16, ch := 32, colour := { red := 255, green := 255, blue := 255 }, alpha := 255,
    symbol := .before, mark := .point, grouping := .none, minor := .full, alignment := .right }

/-- The current record and the pending copy of a style (R67). -/
structure StyleSlot where
  current : Style
  pending : Option Style
deriving DecidableEq, Repr

/-- The string former. -/
structure StringFormer where
  styles : Vector StyleSlot 16
deriving DecidableEq, Repr

/-! ### Asset map (Chapter 6) -/

/-- Pixel formats (6.1). -/
inductive PixelFormat where
  | argb8888
  | rgb565
  | a8
deriving DecidableEq, Repr

/-- The geometry an asset was opened with (R80). -/
structure Geometry where
  format : PixelFormat
  width : Nat
  height : Nat
  stride : Nat
deriving DecidableEq, Repr

/-- A page of a LOADING asset with its touched flag (R86). -/
structure LoadPage where
  page : Nat
  touched : Bool
deriving DecidableEq, Repr

/-- An entry of the asset table (R80). -/
inductive AssetEntry where
  | empty
  | loading (g : Geometry) (pages : List LoadPage)
  | ready (g : Geometry) (pages : List Nat) (refs : Nat)
  | retiring (g : Geometry) (pages : List Nat) (refs : Nat)
deriving DecidableEq, Repr

/-- The faults of an aperture write (R87). -/
inductive LoadFaultKind where
  | align
  | windowMiss
  | bounds
deriving DecidableEq, Repr

/-- The load-fault record when it holds a fault (R88). -/
structure LoadFault where
  kind : LoadFaultKind
  window : Fin 4
  offset : Nat
  more : Bool
deriving DecidableEq, Repr

/-- The asset map and asset memory. Unlisted entries are EMPTY. A load window is bound to the handle it names.
Unlisted bytes of asset memory read 0 (log entry 7). The free pages are those in no page list (R83). -/
structure AssetMap where
  /-- The asset memory size strap: 1 GiB rather than 512 MiB. -/
  large : Bool
  entries : List (Handle × AssetEntry)
  windows : Vector (Option Handle) 4
  loadFault : Option LoadFault
  memory : List Host.Cell
deriving DecidableEq, Repr

/-! ### Scene unit (Chapter 7) -/

/-- What a sold-out item does to a layer (R112). -/
inductive SoldOutRule where
  | always
  | hide
  | dim
  | only
deriving DecidableEq, Repr

/-- The part of a layer that belongs to its kind (R100). -/
inductive LayerContent where
  | photo (asset : Handle)
  | price (style : Fin 16)
  | fill (colour : Rgb)
deriving DecidableEq, Repr

/-- A layer record (R100). -/
structure Layer where
  x : Nat
  y : Nat
  w : Nat
  h : Nat
  alpha : Byte
  mask : BitVec 4
  soldOut : SoldOutRule
  code : Option Nat
  content : LayerContent
deriving DecidableEq, Repr

/-- A scene (R99). -/
structure Scene where
  background : Rgb
  dim : Byte
  layers : List Layer
deriving DecidableEq, Repr

/-- The scenes of one panel (R98). -/
structure PanelScenes where
  building : Option Scene
  pending : Option Scene
  active : Option Scene
deriving DecidableEq, Repr

/-- The scene unit. -/
structure SceneUnit where
  panels : Vector PanelScenes 4
deriving DecidableEq, Repr

/-! ### Frame engine (Chapter 8) -/

/-- Why a tile shows dashes (R128, R136). -/
inductive DashReason where
  | none
  | suspended
  | recordFault
  | overflow
  | checkPathFail
  | mismatch
deriving DecidableEq, Repr

/-- Why the check stage rejects a record (R133). -/
inductive RejectCause where
  | recordFault
  | suspended
  | mismatch
deriving DecidableEq, Repr

/-- A rectangle in panel pixels. -/
structure Box where
  x : Nat
  y : Nat
  w : Nat
  h : Nat
deriving DecidableEq, Repr

/-- A shown record (R128) with the rejection mark the check stage gives it (R132). -/
structure ShownRecord where
  panel : Fin 4
  layer : Nat
  code : Nat
  daypart : Daypart
  price : Option Nat
  clamped : Bool
  glyphs : List Nat
  reason : DashReason
  box : Box
  mark : Option RejectCause
deriving DecidableEq, Repr

/-- What the compose stage does next (R122). -/
inductive ComposeAt where
  | fill (p : Fin 4)
  | layer (p : Fin 4) (k : Nat)
  | finished
deriving DecidableEq, Repr

/-- The job state and how far its stage has come. `testing` says that this check stage makes the self-test and
has not made it yet (R141). -/
inductive Job where
  | idle
  | compose (next : ComposeAt)
  | check (next : Nat) (testing : Bool)
  | patch (next : Nat)
deriving DecidableEq, Repr

/-- The frame rates (R115). -/
inductive FrameRate where
  | hz50
  | hz60
deriving DecidableEq, Repr

/-- A fill of a buffer's rectangle from its origin (R123). -/
structure BufferFill where
  width : Nat
  height : Nat
  colour : Rgb
deriving DecidableEq, Repr

/-- A frame buffer. A pixel that `pixels` does not list reads as the latest fill that covers it, and black where
none does. Pixel (x, y) has key y × 4096 + x. -/
structure FrameBuffer where
  fills : List BufferFill
  pixels : List (Nat × Rgb)
deriving DecidableEq, Repr

/-- A black frame buffer. -/
def FrameBuffer.black : FrameBuffer := { fills := [], pixels := [] }

/-- What the frame engine keeps for a panel: whether its front buffer is 2p + 1 rather than 2p, and whether its
output is FRONT rather than BLANK. -/
structure PanelOutput where
  frontOdd : Bool
  showing : Bool
deriving DecidableEq, Repr

/-- The frame engine. `nextRate` is the rate of the period that begins at the next frame start (R116). -/
structure FrameEngine where
  rate : FrameRate
  nextRate : FrameRate
  job : Job
  shown : List ShownRecord
  outputs : Vector PanelOutput 4
  late : Nat
  buffers : Vector FrameBuffer 8
deriving DecidableEq, Repr

/-! ### Price checker (Chapter 9) -/

/-- Why an item is suspended (9.3). -/
inductive SuspendReason where
  | mismatch
  | parity
  | unrepairable
deriving DecidableEq, Repr

/-- The last self-test result (9.4). -/
inductive TestResult where
  | none
  | pass
  | fail
deriving DecidableEq, Repr

/-- The price checker. -/
structure Checker where
  suspended : List (Nat × SuspendReason)
  armed : Bool
  lastResult : TestResult
  latch : Bool
deriving DecidableEq, Repr

/-! ### Panel and backlight unit (Chapter 10) -/

/-- Panel resolutions (10.1). -/
inductive Resolution where
  | w1920h1080
  | w1080h1920
  | w1280h720
  | w720h1280
deriving DecidableEq, Repr

/-- A point of a brightness curve (10.1). -/
structure CurvePoint where
  a : Nat
  d : Nat
deriving DecidableEq, Repr

/-- A brightness curve (10.1). -/
structure Curve where
  p0 : CurvePoint
  p1 : CurvePoint
  p2 : CurvePoint
  p3 : CurvePoint
deriving DecidableEq, Repr

/-- The curve after reset (10.1). -/
def Curve.standard : Curve := { p0 := ⟨0, 200⟩, p1 := ⟨256, 450⟩, p2 := ⟨640, 800⟩, p3 := ⟨1023, 1000⟩ }

/-- Restart modes (10.1). -/
inductive RestartMode where
  | auto
  | manual
deriving DecidableEq, Repr

/-- Thermal settings (10.1). -/
structure ThermalSettings where
  restore : Nat
  warn : Nat
  shutdown : Nat
  derateCap : Nat
  restart : RestartMode
deriving DecidableEq, Repr

/-- The thermal settings after reset (10.1). -/
def ThermalSettings.standard : ThermalSettings :=
  { restore := 600, warn := 700, shutdown := 800, derateCap := 500, restart := .auto }

/-- Thermal states (10.1). -/
inductive ThermalState where
  | normal
  | warm
  | hotOff
  | cooledWait
deriving DecidableEq, Repr

/-- An enable and a resolution (R145). -/
structure PanelSettings where
  enable : Bool
  resolution : Resolution
deriving DecidableEq, Repr

/-- A panel record (10.1). -/
structure PanelRecord where
  installed : PanelSettings
  pendingSettings : Option PanelSettings
  curve : Curve
  pendingCurve : Option Curve
  thermal : ThermalSettings
  pendingThermal : Option ThermalSettings
  thermalState : ThermalState
  sensorFault : Bool
  target : Nat
  applied : Nat
  lastAmbient : Nat
  lastThermistor : Nat
deriving DecidableEq, Repr

/-- A panel record after reset (R144). -/
def PanelRecord.standard : PanelRecord :=
  { installed := { enable := false, resolution := .w1920h1080 }, pendingSettings := none, curve := .standard,
    pendingCurve := none, thermal := .standard, pendingThermal := none, thermalState := .normal,
    sensorFault := false, target := 0, applied := 0, lastAmbient := 0, lastThermistor := 0 }

/-- A sensor channel: 2p is panel p's ambient input, 2p + 1 its thermistor input (Table 12-7). -/
abbrev Channel := Fin 8

/-- A conversion in flight and its discard mark (R146, R148). -/
structure Conversion where
  channel : Channel
  discard : Bool
deriving DecidableEq, Repr

/-- The panel and backlight unit. -/
structure PanelUnit where
  panels : Vector PanelRecord 4
  scanPosition : Channel
  conversion : Option Conversion
deriving DecidableEq, Repr

/-! ### POS link controller (Chapter 11) -/

/-- The receiver (11.1). ASSEMBLING holds the bytes taken after the start byte. -/
inductive Receiver where
  | waitIdle
  | ready
  | assembling (bytes : List Byte)
deriving DecidableEq, Repr

/-- The answer held (R161): its kind byte, its payload, and whether its sending has begun. -/
structure Answer where
  kind : Byte
  payload : List Byte
  sending : Bool
deriving DecidableEq, Repr

/-- The POS link controller. `unit` is the unit address in use (R158). The ATTN output is low exactly while the
summary holds a flag (R164), so it is not stored. -/
structure PosLink where
  unit : Nat
  receiver : Receiver
  answer : Option Answer
  summary : BitVec 8
deriving DecidableEq, Repr

/-! ### Content port controller (Chapter 12) -/

/-- The status record (R168): command code, status, tag, and the answer bytes from byte 4; bytes beyond them
read zero. -/
structure StatusRecord where
  code : Byte
  status : Byte
  tag : BitVec 16
  answer : List Byte
deriving DecidableEq, Repr

/-- The status record when no command has been taken since the reset (R168). -/
def StatusRecord.clear : StatusRecord := { code := 0, status := 0, tag := 0, answer := [] }

/-- The content port controller. `messages` counts the interrupt messages sent and `readData` is what the last
window read returned: the model's own fields, by which those two outputs can be seen (log entry 8). -/
structure ContentPort where
  record : Vector Byte 64
  goTag : BitVec 16
  status : StatusRecord
  summary : BitVec 32
  armed : Bool
  messageEnabled : Bool
  messages : Nat
  readData : List Byte
deriving DecidableEq, Repr

/-! ### The whole part -/

/-- The state: the twelve blocks, the counter of free values drawn (the model's own), and the queue of waiting
commands, first in first out. -/
structure State where
  table : PriceTable
  stager : Stager
  daypart : DaypartUnit
  nva : Nva
  former : StringFormer
  assets : AssetMap
  scenes : SceneUnit
  engine : FrameEngine
  checker : Checker
  panel : PanelUnit
  link : PosLink
  port : ContentPort
  draws : Nat
  pending : List Instr
deriving DecidableEq, Repr

/-- The part right after a power-on reset, with the straps sampled (R158, R82): every volatile block at its reset
value, the start-up load in flight, the array and the journal as they are given. -/
def State.afterReset (addressStraps : BitVec 5) (large : Bool) (array : List (SlotId × NvSlot)) (journal : Journal)
    (memory : List Host.Cell) : State :=
  { table := { items := [], promos := Vector.replicate 32 Promotion.standard, rules := Rules.standard, pendingAvail := [] },
    stager := { staging := [], commit := none, commitNumber := 0, lastOutcome := .none },
    daypart := { time := none, schedule := standardSchedule Rules.standard, force := none,
                 live := Rules.standard.defaultDaypart },
    nva := { array := array, journal := journal, slotStates := [], queue := [], repairs := [], op := .free,
             faults := [], more := false, loading := true },
    former := { styles := Vector.replicate 16 { current := Style.standard, pending := none } },
    assets := { large := large, entries := [], windows := Vector.replicate 4 none, loadFault := none, memory := memory },
    scenes := { panels := Vector.replicate 4 { building := none, pending := none, active := none } },
    engine := { rate := .hz60, nextRate := .hz60, job := .idle, shown := [],
                outputs := Vector.replicate 4 { frontOdd := false, showing := false }, late := 0,
                buffers := Vector.replicate 8 FrameBuffer.black },
    checker := { suspended := [], armed := false, lastResult := .none, latch := false },
    panel := { panels := Vector.replicate 4 PanelRecord.standard, scanPosition := 7, conversion := none },
    link := { unit := if addressStraps = 0 then 1 else addressStraps.toNat, receiver := .waitIdle, answer := none,
              summary := 0 },
    port := { record := Vector.replicate 64 0, goTag := 0, status := StatusRecord.clear, summary := 0, armed := true,
              messageEnabled := false, messages := 0, readData := [] },
    draws := 0,
    pending := [] }

/-- The part right after reset: straps at 1 and 512 MiB, and an array that has never been written, its journal
erased (log entries 2 and 3). -/
def State.reset : State := State.afterReset 1 false [] Journal.erased []

end Sys2Proof.Machine
end

