-- ==== Sys2Proof/Machine/Flags.lean ====
section
/-! DEFINITION. The two summaries (Table 12-8), the events that set their flags, ATTN and the interrupt message. -/

namespace Sys2Proof.Machine

/-- The flags of the POS-side summary (11.4). -/
inductive PosFlag where
  | priceClamped
  | commitApplied
  | commitExpired
  | daypartChanged
  | nvaFault
  | suspendedChanged
  | checkResult
deriving DecidableEq, Repr

/-- Table 12-8: the bit of a POS-side flag. -/
def PosFlag.bit : PosFlag → Nat
  | .priceClamped => 0
  | .commitApplied => 1
  | .commitExpired => 2
  | .daypartChanged => 3
  | .nvaFault => 4
  | .suspendedChanged => 5
  | .checkResult => 6

/-- Every flag of the POS-side summary. -/
def PosFlag.all : List PosFlag :=
  [.priceClamped, .commitApplied, .commitExpired, .daypartChanged, .nvaFault, .suspendedChanged, .checkResult]

/-- The flags of the content-side summary (12.2). -/
inductive ContentFlag where
  | cmdDone
  | priceClamped
  | commitApplied
  | daypartChanged
  | nvaFault
  | priceSuspended
  | checkResult
  | priceOverflow
  | loadFault
  | frameLate
  | panelThermal
  | sensorFault
deriving DecidableEq, Repr

/-- Table 12-8: the bit of a content-side flag. -/
def ContentFlag.bit : ContentFlag → Nat
  | .cmdDone => 0
  | .priceClamped => 1
  | .commitApplied => 2
  | .daypartChanged => 3
  | .nvaFault => 4
  | .priceSuspended => 5
  | .checkResult => 6
  | .priceOverflow => 7
  | .loadFault => 8
  | .frameLate => 9
  | .panelThermal => 10
  | .sensorFault => 11

/-- Whether a flag of the POS-side summary is set. -/
def State.posFlag (s : State) (f : PosFlag) : Bool := s.link.summary.getLsbD f.bit

/-- Whether a flag of the content-side summary is set. -/
def State.contentFlag (s : State) (f : ContentFlag) : Bool := s.port.summary.getLsbD f.bit

/-- R164: ATTN is driven low while at least one flag of the POS-side summary is set. -/
def State.attnLow (s : State) : Bool := PosFlag.all.any s.posFlag

/-- R162: an event sets its POS-side flag; a flag already set stays set. -/
def State.raisePos (s : State) (f : PosFlag) : State :=
  { s with link := { s.link with summary := s.link.summary ||| BitVec.twoPow 8 f.bit } }

/-- R169, R170: an event sets its content-side flag; while the interrupt is armed and the message enabled it sends
one message and disarms the interrupt. -/
def ContentPort.raise (p : ContentPort) (f : ContentFlag) : ContentPort :=
  let sends := p.armed && p.messageEnabled
  { p with summary := p.summary ||| BitVec.twoPow 32 f.bit,
           armed := p.armed && !sends,
           messages := if sends then p.messages + 1 else p.messages }

/-- An event of the content-side summary. -/
def State.raiseContent (s : State) (f : ContentFlag) : State := { s with port := s.port.raise f }

/-- An event that both summaries report. -/
def State.raiseBoth (s : State) (p : PosFlag) (c : ContentFlag) : State := (s.raisePos p).raiseContent c

end Sys2Proof.Machine
end

