-- ==== Sys2Proof/Machine/Pixels.lean ====
section
/-! DEFINITION. Asset memory and frame buffers: bytes, pages, pixels, the blend and the drawing of rectangles and
glyphs (R77, R78, R81, R86, R123 to R126, R137). -/

namespace Sys2Proof.Machine

/-! ### Asset memory -/

/-- The bytes of a page (6.2). -/
def pageSize : Nat := 65536

/-- A byte of asset memory; one that nothing has stored reads 0 (log entry 7). -/
def Memory.read (m : List Host.Cell) (a : Nat) : Byte := Sparse.getD 0 m a

/-- Store a byte. -/
def Memory.write (m : List Host.Cell) (a : Nat) (b : Byte) : List Host.Cell := Sparse.setD 0 m a b

/-- R86: fill a page with zeros. -/
def Memory.clearPage (m : List Host.Cell) (page : Nat) : List Host.Cell :=
  m.filter (fun e => !decide (e.1 / pageSize = page))

/-- Store a run of bytes from an address upward. -/
def Memory.store (m : List Host.Cell) (a : Nat) : List Byte → List Host.Cell
  | [] => m
  | b :: rest => Memory.store (Memory.write m a b) (a + 1) rest

/-- The canonical form of asset memory: addresses strictly rising, no byte listed as 0. -/
def Memory.wf (m : List Host.Cell) : Bool := Sparse.canonical (0 : Byte) m

/-! ### Assets -/

/-- Bytes per pixel (6.1). -/
def PixelFormat.bytes : PixelFormat → Nat
  | .argb8888 => 4
  | .rgb565 => 2
  | .a8 => 1

/-- The size of an asset (6.1). -/
def Geometry.size (g : Geometry) : Nat := g.stride * g.height

/-- R81: the number of pages. -/
def Geometry.pageCount (g : Geometry) : Nat := (g.size + 65535) / 65536

/-- The entry of a handle. -/
def AssetMap.entry (m : AssetMap) (h : Handle) : AssetEntry := Sparse.getD .empty m.entries h

/-- Write the entry of a handle. -/
def AssetMap.setEntry (m : AssetMap) (h : Handle) (e : AssetEntry) : AssetMap :=
  { m with entries := Sparse.setD .empty m.entries h e }

/-- Byte `i` of an asset with this page list (R81). -/
def AssetMap.byte (m : AssetMap) (pages : List Nat) (i : Nat) : Byte :=
  match pages[i / pageSize]? with
  | some p => Memory.read m.memory (p * pageSize + i % pageSize)
  | none => 0

/-- R95: geometry and pages of an asset the frame engine may read. -/
def AssetEntry.drawable : AssetEntry → Option (Geometry × List Nat)
  | .ready g pages _ => some (g, pages)
  | .retiring g pages _ => some (g, pages)
  | .empty => none
  | .loading _ _ => none

/-- A source pixel: its colour and its own alpha. -/
structure SourcePixel where
  colour : Rgb
  alpha : Byte
deriving DecidableEq, Repr

/-- R124: a 5-bit field widened to 8 bits. -/
def widen5 (e : Nat) : Byte := byteOf (e * 8 + e / 4)

/-- R124: a 6-bit field widened to 8 bits. -/
def widen6 (g : Nat) : Byte := byteOf (g * 4 + g / 16)

/-- Pixel (c, r) of an asset (R81, Table 12-9). An A8 pixel is its mask, as alpha. -/
def AssetMap.pixel (m : AssetMap) (g : Geometry) (pages : List Nat) (c r : Nat) : SourcePixel :=
  let at0 := r * g.stride + c * g.format.bytes
  let b := fun k => m.byte pages (at0 + k)
  match g.format with
  | .argb8888 => { colour := { blue := b 0, green := b 1, red := b 2 }, alpha := b 3 }
  | .rgb565 =>
    let v := (b 0).toNat + 256 * (b 1).toNat
    { colour := { red := widen5 (v / 2048), green := widen6 (v / 32 % 64), blue := widen5 (v % 32) }, alpha := 255 }
  | .a8 => { colour := Rgb.black, alpha := b 0 }

/-! ### Colour arithmetic -/

/-- (x × y + 127) div 255, the product of two 8-bit fractions as R78, R124 and R125 round it. -/
def scale255 (x y : Nat) : Nat := (x * y + 127) / 255

/-- R126: one channel of a blend. -/
def blendChannel (src dst : Byte) (a : Nat) : Byte := byteOf ((src.toNat * a + dst.toNat * (255 - a) + 127) / 255)

/-- R126: a blend. -/
def blend (src dst : Rgb) (a : Nat) : Rgb :=
  { red := blendChannel src.red dst.red a, green := blendChannel src.green dst.green a,
    blue := blendChannel src.blue dst.blue a }

/-- R125: a source colour dimmed by a scene's dim level. -/
def dimColour (c : Rgb) (dim : Byte) : Rgb :=
  { red := byteOf (scale255 c.red.toNat dim.toNat), green := byteOf (scale255 c.green.toNat dim.toNat),
    blue := byteOf (scale255 c.blue.toNat dim.toNat) }

/-- R125: the colour of a layer that may be marked dimmed. -/
def dimIf (dimmed : Bool) (dim : Byte) (c : Rgb) : Rgb := if dimmed then dimColour c dim else c

/-- R78: the effective alpha of a glyph pixel. -/
def glyphAlpha (styleAlpha mask layerAlpha : Nat) : Nat := scale255 (scale255 styleAlpha mask) layerAlpha

/-! ### Frame buffers -/

/-- The key of a pixel. -/
def pixelKey (x y : Nat) : Nat := y * 4096 + x

/-- What the fills of a buffer give a pixel: the latest that covers it, black where none does. -/
def fillsAt : List BufferFill → Nat → Nat → Rgb
  | [], _, _ => Rgb.black
  | f :: rest, x, y => if x < f.width ∧ y < f.height then f.colour else fillsAt rest x y

/-- The value of a buffer pixel. -/
def FrameBuffer.read (b : FrameBuffer) (x y : Nat) : Rgb := Sparse.getD (fillsAt b.fills x y) b.pixels (pixelKey x y)

/-- Write a buffer pixel. -/
def FrameBuffer.write (b : FrameBuffer) (x y : Nat) (c : Rgb) : FrameBuffer :=
  { b with pixels := Sparse.setD (fillsAt b.fills x y) b.pixels (pixelKey x y) c }

/-- R123: the fill that begins a panel: every pixel within the resolution is replaced, none outside it. -/
def FrameBuffer.fill (b : FrameBuffer) (w h : Nat) (c : Rgb) : FrameBuffer :=
  { fills := { width := w, height := h, colour := c } ::
      b.fills.filter (fun f => !(decide (f.width ≤ w) && decide (f.height ≤ h))),
    pixels := b.pixels.filter (fun e => !(decide (e.1 % 4096 < w) && decide (e.1 / 4096 < h))) }

/-- The panel a drawing is clipped to (R77, R101). -/
structure Clip where
  width : Nat
  height : Nat
deriving DecidableEq, Repr

/-- R126, clipped at the panel edge (R101): blend one pixel. -/
def FrameBuffer.blendAt (b : FrameBuffer) (clip : Clip) (x y : Nat) (src : Rgb) (a : Nat) : FrameBuffer :=
  if x < clip.width ∧ y < clip.height then b.write x y (blend src (b.read x y) a) else b

/-- Blend a rectangle, row by row. `src` gives the colour and effective alpha of its pixel (c, r). -/
def FrameBuffer.blendRect (b : FrameBuffer) (clip : Clip) (x y w h : Nat) (src : Nat → Nat → Rgb × Nat) : FrameBuffer :=
  (List.range h).foldl (fun b r =>
    (List.range w).foldl (fun b c => b.blendAt clip (x + c) (y + r) (src c r).1 (src c r).2) b) b

/-- R137: replace a rectangle by a colour, without blending, clipped at the panel edge. -/
def FrameBuffer.paintRect (b : FrameBuffer) (clip : Clip) (box : Box) (c : Rgb) : FrameBuffer :=
  (List.range box.h).foldl (fun b r =>
    (List.range box.w).foldl (fun b k =>
      if box.x + k < clip.width ∧ box.y + r < clip.height then b.write (box.x + k) (box.y + r) c else b) b) b

/-- The mask of pixel (c, r) of a glyph cell (R71). -/
def glyphMask (m : AssetMap) (g : Geometry) (pages : List Nat) (cw glyph c r : Nat) : Nat :=
  (m.pixel g pages (glyph * cw + c) r).alpha.toNat

/-- R77, R78: draw a glyph string cell by cell from its origin. A style without a font draws nothing (R74). -/
def drawGlyphs (m : AssetMap) (st : Style) (clip : Clip) (colour : Rgb) (layerAlpha : Byte) :
    List Nat → Nat → Nat → FrameBuffer → FrameBuffer
  | [], _, _, b => b
  | glyph :: rest, x, y, b =>
    match st.font.bind (fun h => (m.entry h).drawable) with
    | none => b
    | some (g, pages) =>
      drawGlyphs m st clip colour layerAlpha rest (x + st.cw) y
        (b.blendRect clip x y st.cw st.ch (fun c r =>
          (colour, glyphAlpha st.alpha.toNat (glyphMask m g pages st.cw glyph c r) layerAlpha.toNat)))

/-- The width and height of a resolution (10.1). -/
def Resolution.clip : Resolution → Clip
  | .w1920h1080 => { width := 1920, height := 1080 }
  | .w1080h1920 => { width := 1080, height := 1920 }
  | .w1280h720 => { width := 1280, height := 720 }
  | .w720h1280 => { width := 720, height := 1280 }

end Sys2Proof.Machine
end

