-- ==== Sys2Proof/Machine/Price.lean ====
section
/-! DEFINITION. The shown price of an item in a daypart (1.7): base, promotion, tax, step and saturation, on exact
integers. -/

namespace Sys2Proof.Machine

/-- R15: what a promotion that applies makes of a base price. -/
def Promotion.discounted (p : Promotion) (b : Nat) : Nat :=
  match p.kind with
  | .percent => b - (b * p.value + 50) / 100
  | .amount => if p.value ≤ b then b - p.value else 0
  | .fixed => if p.value < b then p.value else b

/-- R15: the promotion stage. -/
def promotionStage (promo : Option Promotion) (d : Daypart) (b : Nat) : Nat :=
  match promo with
  | some p => if p.enabled && p.mask.getLsbD d.val then p.discounted b else b
  | none => b

/-- R16: the tax stage. -/
def taxStage (r : Rules) (v : Nat) : Nat :=
  match r.taxMode with
  | .inclusive => (v * (10000 + r.taxRate) + 5000) / 10000
  | .exclusive => v

/-- R17: the step stage. -/
def stepStage (r : Rules) (w : Nat) : Nat :=
  match r.rounding with
  | .nearest => (w + r.step / 2) / r.step * r.step
  | .up => (w + r.step - 1) / r.step * r.step
  | .down => w / r.step * r.step

/-- R18: the saturation stage; the mark is the clamped cause. -/
def saturate (r : Rules) (q : Nat) : Nat × Bool :=
  if maxPrice < q then (maxPrice / r.step * r.step, true) else (q, false)

/-- The promotion record a body names. -/
def namedPromotion (promos : Vector Promotion 32) (b : ItemBody) : Option Promotion :=
  match b.promo with
  | some i => promos[i]?
  | none => none

/-- R14 to R18: the shown price and the clamped cause; no price where the item is not offered. -/
def shownPrice (promos : Vector Promotion 32) (r : Rules) (b : ItemBody) (d : Daypart) : Option Nat × Bool :=
  match b.price[d] with
  | none => (none, false)
  | some base =>
    let q := saturate r (stepStage r (taxStage r (promotionStage (namedPromotion promos b) d base)))
    (some q.1, q.2)

end Sys2Proof.Machine
end

