-- ==== Sys2Proof/Machine/Strings.lean ====
section
/-! DEFINITION. Glyph strings and their placement (Chapter 5). -/

namespace Sys2Proof.Machine

/-- The point glyph (R71). -/
def glyphPoint : Nat := 10
/-- The comma glyph (R71). -/
def glyphComma : Nat := 11
/-- The currency symbol glyph (R71). -/
def glyphSymbol : Nat := 12
/-- The dash glyph (R71). -/
def glyphDash : Nat := 13

/-- R74: the dash string. -/
def dashString : List Nat := [glyphDash, glyphDash, glyphDash]

/-- The decimal digits of a number, most significant first, without leading zeros; 0 is the one digit 0 (R72).
The first argument bounds the number of digits. -/
def digitsWithin : Nat → Nat → List Nat
  | 0, _ => []
  | k + 1, n => if n < 10 then [n] else digitsWithin k (n / 10) ++ [n % 10]

/-- R72: the major digits. -/
def majorDigits (n : Nat) : List Nat := digitsWithin (n + 1) n

/-- R72: a separator between each group of three digits counted from the right. -/
def grouped (sep : Nat) : List Nat → List Nat
  | [] => []
  | d :: rest =>
    if rest.length ≠ 0 ∧ rest.length % 3 = 0 then d :: sep :: grouped sep rest else d :: grouped sep rest

/-- R72: the major part as it is written in a style. -/
def majorString (st : Style) (major : Nat) : List Nat :=
  match st.grouping with
  | .none => majorDigits major
  | .comma => grouped glyphComma (majorDigits major)
  | .point => grouped glyphPoint (majorDigits major)

/-- R73: the decimal mark glyph of a style. -/
def DecimalMark.glyph : DecimalMark → Nat
  | .point => glyphPoint
  | .comma => glyphComma

/-- R73: what follows the major part: the mark and the two minor digits, or nothing. -/
def minorString (st : Style) (twoDigits : Bool) (minor : Nat) : List Nat :=
  if !twoDigits || (decide (st.minor = .trimZero) && decide (minor = 0)) then []
  else [st.mark.glyph, minor / 10, minor % 10]

/-- R72, R73: the glyph string of a shown price. -/
def priceString (st : Style) (twoDigits : Bool) (q : Nat) : List Nat :=
  let scale := if twoDigits then 100 else 1
  let digits := majorString st (q / scale) ++ minorString st twoDigits (q % scale)
  match st.symbol with
  | .before => glyphSymbol :: digits
  | .after => digits ++ [glyphSymbol]
  | .none => digits

/-- R75: the origin of a string of `n` cells in a tile, where it fits. -/
def placeOrigin (st : Style) (n : Nat) (tile : Box) : Option (Nat × Nat) :=
  if n * st.cw ≤ tile.w ∧ st.ch ≤ tile.h then
    let x0 := match st.alignment with
      | .left => tile.x
      | .right => tile.x + tile.w - n * st.cw
      | .center => tile.x + (tile.w - n * st.cw) / 2
    some (x0, tile.y + (tile.h - st.ch) / 2)
  else none

/-- R75: the placement box of a string of `n` cells at an origin. -/
def stringBox (st : Style) (n : Nat) (origin : Nat × Nat) : Box :=
  { x := origin.1, y := origin.2, w := n * st.cw, h := st.ch }

/-- R76: the empty placement box of a tile. -/
def emptyBox (tile : Box) : Box := { x := tile.x, y := tile.y, w := 0, h := 0 }

/-- What the compose stage hands the string former (R127): a shown price, or a dash request. -/
inductive TileRequest where
  | price (q : Nat)
  | dashes (reason : DashReason)
deriving DecidableEq, Repr

/-- What the string former hands back (R76), and whether it raises PRICE_OVERFLOW. -/
structure Formed where
  glyphs : List Nat
  box : Box
  reason : DashReason
  overflow : Bool
deriving DecidableEq, Repr

/-- R74, R76: the dash string where it fits the tile and the style has a font, else nothing. -/
def formDashes (st : Style) (tile : Box) (reason : DashReason) (overflow : Bool) : Formed :=
  match st.font, placeOrigin st 3 tile with
  | some _, some o => { glyphs := dashString, box := stringBox st 3 o, reason := reason, overflow := overflow }
  | _, _ => { glyphs := [], box := emptyBox tile, reason := reason, overflow := overflow }

/-- R74, R75: a glyph string formed from a price is placed where it fits, else dashes are. -/
def formString (st : Style) (tile : Box) (str : List Nat) : Formed :=
  match st.font, placeOrigin st str.length tile with
  | some _, some o => { glyphs := str, box := stringBox st str.length o, reason := .none, overflow := false }
  | _, _ => formDashes st tile .overflow true

/-- R74 to R76: what is drawn in a tile. -/
def formTile (st : Style) (twoDigits : Bool) (tile : Box) (req : TileRequest) : Formed :=
  match req with
  | .dashes reason => formDashes st tile reason false
  | .price q => formString st tile (priceString st twoDigits q)

/-- What is drawn in a tile whose glyph string an upset has changed (9.5; log entry 37); dashes are drawn as they are. -/
def formTileUpset (st : Style) (twoDigits : Bool) (tile : Box) (req : TileRequest) (glyphs : Option (List Nat)) : Formed :=
  match req, glyphs with
  | .price _, some str => formString st tile str
  | .price q, none => formTile st twoDigits tile (.price q)
  | .dashes reason, _ => formTile st twoDigits tile (.dashes reason)

/-- Whether a glyph is a digit (R134). -/
def isDigitGlyph (g : Nat) : Bool := decide (g ≤ 9)

/-- R142: a string with its last glyph replaced by the dash glyph. -/
def dashLast (gs : List Nat) : List Nat := gs.dropLast ++ [glyphDash]

end Sys2Proof.Machine
end

