-- ==== Sys2Proof/Machine/Ops.lean ====
section
/-! DEFINITION. The operations the meanings share: the item table, the suspended set, slot states, the write queue
and repairs, parity at a read, asset references, the answer held on the POS link and the completion of a content
command. -/

namespace Sys2Proof.Machine

/-! ### The item table -/

/-- The item at a table index. -/
def PriceTable.item (t : PriceTable) (i : ItemIndex) : Option Item := Sparse.find t.items i

/-- The index of a code in the table (R1: the code index). -/
def PriceTable.indexOf (t : PriceTable) (code : Nat) : Option ItemIndex :=
  (t.items.find? (fun e => decide (e.2.code = code))).map (·.1)

/-- Whether a code is in the live table. -/
def PriceTable.has (t : PriceTable) (code : Nat) : Bool := (t.indexOf code).isSome

/-- Write the item at an index. -/
def PriceTable.putItem (t : PriceTable) (i : ItemIndex) (it : Item) : PriceTable :=
  { t with items := Sparse.put t.items i it }

/-- R2: the lowest index that holds no item. -/
def PriceTable.lowestFree (t : PriceTable) : Option ItemIndex :=
  (List.finRange 512).find? (fun i => (t.item i).isNone)

/-- Write the item at an index of the table. -/
def State.putItem (s : State) (i : ItemIndex) (it : Item) : State := { s with table := s.table.putItem i it }

/-! ### The suspended set (9.3) -/

/-- The suspension of a code. -/
def State.suspension (s : State) (code : Nat) : Option SuspendReason := Sparse.find s.checker.suspended code

/-- R138: every change of the set raises SUSPENDED_CHANGED and PRICE_SUSPENDED. -/
def State.setSuspended (s : State) (set : List (Nat × SuspendReason)) : State :=
  ({ s with checker := { s.checker with suspended := set } }).raiseBoth .suspendedChanged .priceSuspended

/-- R138, an item enters the set or changes reason. -/
def State.suspend (s : State) (code : Nat) (r : SuspendReason) : State :=
  s.setSuspended (Sparse.put s.checker.suspended code r)

/-- R138: the entry of a code is removed, where it has one. -/
def State.unsuspend (s : State) (code : Nat) : State :=
  match s.suspension code with
  | some _ => s.setSuspended (Sparse.drop s.checker.suspended code)
  | none => s

/-- R138, row "rejection at the check stage"; entries are for items of the live table only. -/
def State.suspendMismatch (s : State) (code : Nat) : State :=
  match s.suspension code with
  | some _ => s
  | none => if s.table.has code then s.suspend code .mismatch else s

/-- R138, row "parity failure found by any reader". -/
def State.suspendParity (s : State) (code : Nat) : State :=
  match s.suspension code with
  | some .parity => s
  | some .unrepairable => s
  | some .mismatch => s.suspend code .parity
  | none => s.suspend code .parity

/-- R138, row "restore at repair completion". -/
def State.unsuspendRestored (s : State) (code : Nat) : State :=
  match s.suspension code with
  | some .parity => s.setSuspended (Sparse.drop s.checker.suspended code)
  | some .mismatch => s
  | some .unrepairable => s
  | none => s

/-- R138, row "repair ends UNREPAIRABLE", for the item at an index. -/
def State.markUnrepairable (s : State) (i : ItemIndex) : State :=
  match s.table.item i with
  | none => s
  | some it =>
    match s.suspension it.code with
    | some .unrepairable => s
    | some .parity => s.suspend it.code .unrepairable
    | some .mismatch => s.suspend it.code .unrepairable
    | none => s.suspend it.code .unrepairable

/-! ### Slots, the write queue and repairs (Chapter 4) -/

/-- The state of a slot. -/
def Nva.slotState (n : Nva) (k : SlotId) : SlotState := Sparse.getD .clean n.slotStates k

/-- Write the state of a slot. -/
def Nva.setSlotState (n : Nva) (k : SlotId) (st : SlotState) : Nva :=
  { n with slotStates := Sparse.setD .clean n.slotStates k st }

/-- The contents of a slot of the array. -/
def Nva.slot (n : Nva) (k : SlotId) : NvSlot := Sparse.getD NvSlot.erased n.array k

/-- Write a slot of the array. -/
def Nva.setSlot (n : Nva) (k : SlotId) (v : NvSlot) : Nva :=
  { n with array := Sparse.setD NvSlot.erased n.array k v }

/-- R58: a slot is marked DIRTY. -/
def Nva.markDirty (n : Nva) (k : SlotId) : Nva :=
  match n.slotState k with
  | .clean => { n.setSlotState k .dirty with queue := n.queue ++ [k] }
  | .stale => { n.setSlotState k .dirty with queue := n.queue ++ [k] }
  | .faulted => { n.setSlotState k .dirty with queue := n.queue ++ [k] }
  | .dirty => n
  | .writing =>
    match n.op with
    | .write w => if w.slot = k then { n with op := .write { w with rewrite := true } } else n
    | .free => n
    | .read _ => n

/-- R58: an applied ITEM_SET or ITEM_REMOVE withdraws a repair of the slot that is listed or waits on its write. -/
def Nva.withdrawRepair (n : Nva) (i : ItemIndex) : Nva :=
  { n with
    repairs := n.repairs.filter (fun j => !decide (j = i)),
    op := match n.op with
      | .write w => if w.slot = itemSlot i then .write { w with repairWaits := false } else .write w
      | .free => .free
      | .read j => .read j }

/-- R62: whether a repair of the slot is listed, waits on a write, or is in flight. -/
def Nva.repairOutstanding (n : Nva) (i : ItemIndex) : Bool :=
  n.repairs.contains i ||
    (match n.op with
     | .free => false
     | .read j => decide (j = i)
     | .write w => decide (w.slot = itemSlot i) && w.repairWaits)

/-- R62: what a repair request meets at its slot, in the NVA. -/
def Nva.takeRepair (n : Nva) (i : ItemIndex) : Nva :=
  if n.repairOutstanding i then n
  else match n.slotState (itemSlot i) with
    | .clean => { n with repairs := n.repairs ++ [i] }
    | .writing =>
      match n.op with
      | .write w => if w.slot = itemSlot i then { n with op := .write { w with repairWaits := true } } else n
      | .free => n
      | .read _ => n
    | .dirty =>
      { n.setSlotState (itemSlot i) .stale with queue := n.queue.filter (fun k => !decide (k = itemSlot i)) }
    | .stale => n
    | .faulted => n

/-- R62: the states in which a repair request makes the item UNREPAIRABLE. -/
def Nva.repairRefused (n : Nva) (i : ItemIndex) : Bool :=
  !n.repairOutstanding i &&
    (match n.slotState (itemSlot i) with
     | .clean => false
     | .writing => false
     | .dirty => true
     | .stale => true
     | .faulted => true)

/-- R62: a repair request for the slot of an item. -/
def State.requestRepair (s : State) (i : ItemIndex) : State :=
  let t := { s with nva := s.nva.takeRepair i }
  if s.nva.repairRefused i then t.markUnrepairable i else t

/-- R57: a fault joins the fault list, or is counted in its more flag. -/
def Nva.log (n : Nva) (f : FaultEntry) : Nva :=
  if n.faults.length < 16 then { n with faults := n.faults ++ [f] } else { n with more := true }

/-- R57: a fault is found: it is logged and NVA_FAULT is set in both summaries. -/
def State.logFault (s : State) (f : FaultEntry) : State :=
  ({ s with nva := s.nva.log f }).raiseBoth .nvaFault .nvaFault

/-! ### Parity at a read (1.6) -/

/-- R11: the handling of a parity failure found at a read of the item at an index. -/
def State.parityFailure (s : State) (i : ItemIndex) (it : Item) : State :=
  ((s.putItem i { it with health := .corrupt }).suspendParity it.code).requestRepair i

/-- R11: a body is read with its parity test; a body already CORRUPT is not tested. -/
def State.readBody (s : State) (i : ItemIndex) : State :=
  match s.table.item i with
  | none => s
  | some it => if it.health = .good ∧ it.parityFails then s.parityFailure i it else s

/-- A stored body is upset: it no longer agrees with its parity (1.6; log entry 9). -/
def State.upset (s : State) (i : ItemIndex) : State :=
  match s.table.item i with
  | none => s
  | some it => s.putItem i { it with parityFails := true }

/-- The bodies upset since the last step. -/
def State.upsets (s : State) (l : List ItemIndex) : State := l.foldl State.upset s

/-! ### Availability (1.5) -/

/-- R8: a pending entry gives its state to the item of its code. -/
def PriceTable.applyAvail (t : PriceTable) (e : Nat × Availability) : PriceTable :=
  match t.indexOf e.1 with
  | none => t
  | some i =>
    match t.item i with
    | none => t
    | some it => t.putItem i { it with avail := e.2 }

/-! ### Asset references (6.6) -/

/-- R94: an acquisition; it is handed to the asset map for a READY asset only. -/
def AssetMap.acquire (m : AssetMap) (h : Handle) : AssetMap :=
  match m.entry h with
  | .ready g pages n => m.setEntry h (.ready g pages (n + 1))
  | .retiring _ _ _ => m
  | .empty => m
  | .loading _ _ => m

/-- R94: a release; the last release of a RETIRING asset makes its entry EMPTY, its pages free. -/
def AssetMap.release (m : AssetMap) (h : Handle) : AssetMap :=
  match m.entry h with
  | .ready g pages n => m.setEntry h (.ready g pages (n - 1))
  | .retiring g pages n => if n ≤ 1 then m.setEntry h .empty else m.setEntry h (.retiring g pages (n - 1))
  | .empty => m
  | .loading _ _ => m

/-- The asset a layer holds a reference on (R107). -/
def Layer.asset (l : Layer) : Option Handle :=
  match l.content with
  | .photo h => some h
  | .price _ => none
  | .fill _ => none

/-- R107: the releases of a scene that is discarded or replaced, one per PHOTO layer in layer order. -/
def AssetMap.releaseScene (m : AssetMap) (sc : Option Scene) : AssetMap :=
  match sc with
  | none => m
  | some sc => (sc.layers.filterMap Layer.asset).foldl AssetMap.release m

/-- R69: the release of the font a style record names. -/
def AssetMap.releaseFont (m : AssetMap) (f : Option Handle) : AssetMap :=
  match f with
  | none => m
  | some h => m.release h

/-- R69: the acquisition of the font a style record names. -/
def AssetMap.acquireFont (m : AssetMap) (f : Option Handle) : AssetMap :=
  match f with
  | none => m
  | some h => m.acquire h

/-! ### The page pool (6.2) -/

/-- R83: the number of pool pages. -/
def AssetMap.poolSize (m : AssetMap) : Nat := if m.large then 15360 else 7168

/-- The page list of an entry. -/
def AssetEntry.pageList : AssetEntry → List Nat
  | .empty => []
  | .loading _ pages => pages.map (·.page)
  | .ready _ pages _ => pages
  | .retiring _ pages _ => pages

/-- Every page that belongs to an asset. -/
def AssetMap.usedPages (m : AssetMap) : List Nat := m.entries.flatMap (fun e => e.2.pageList)

/-- R83: the free page count, the pool size less the pages of all assets. -/
def AssetMap.freeCount (m : AssetMap) : Nat := m.poolSize - m.usedPages.length

/-- The lowest `want` pages from `page` upward that are not used, of the next `fuel` pages. -/
def lowestPages (used : List Nat) : Nat → Nat → Nat → List Nat
  | 0, _, _ => []
  | _ + 1, _, 0 => []
  | fuel + 1, page, want + 1 =>
    if used.contains page then lowestPages used fuel (page + 1) (want + 1)
    else page :: lowestPages used fuel (page + 1) want

/-- R82: the first page of the pool. -/
def poolStart : Nat := 1024

/-- R83: the `n` lowest free pages, lowest first. -/
def AssetMap.takePages (m : AssetMap) (n : Nat) : List Nat := lowestPages m.usedPages m.poolSize poolStart n

/-- The lowest-numbered unbound window (R90). -/
def AssetMap.freeWindow (m : AssetMap) : Option (Fin 4) := (List.finRange 4).find? (fun n => (m.windows[n]).isNone)

/-- The window bound to a handle (R84). -/
def AssetMap.windowOf (m : AssetMap) (h : Handle) : Option (Fin 4) :=
  (List.finRange 4).find? (fun n => decide (m.windows[n] = some h))

/-- Unbind the window of a handle. -/
def AssetMap.unbind (m : AssetMap) (h : Handle) : AssetMap :=
  match m.windowOf h with
  | some n => { m with windows := m.windows.set n none }
  | none => m

/-! ### Answers on the POS link (11.3) -/

/-- The statuses of POS answers (Table 12-5). -/
inductive PosStatus where
  | ok
  | busy
  | badLength
  | badKind
  | badValue
  | stageFull
  | notFound
  | nothingStaged
  | commitBusy
  | digestMismatch
  | tableFull
  | recordFault
  | nothingHeld
  | tooLate
  | refused
deriving DecidableEq, Repr

/-- Table 12-5: the byte of a status. -/
def PosStatus.byte : PosStatus → Byte
  | .ok => 0x00
  | .busy => 0x01
  | .badLength => 0x02
  | .badKind => 0x03
  | .badValue => 0x04
  | .stageFull => 0x05
  | .notFound => 0x06
  | .nothingStaged => 0x07
  | .commitBusy => 0x08
  | .digestMismatch => 0x09
  | .tableFull => 0x0A
  | .recordFault => 0x0B
  | .nothingHeld => 0x0C
  | .tooLate => 0x0D
  | .refused => 0x0E

/-- A commit check is in flight (R29). -/
def State.checking (s : State) : Bool :=
  match s.stager.commit with
  | some c => decide (c.state = .checking)
  | none => false

/-- The part is sending an answer. -/
def State.sending (s : State) : Bool :=
  match s.link.answer with
  | some a => a.sending
  | none => false

/-- R33: the hold expiry of a HELD record is fixed. -/
def Stager.fixExpiry (st : Stager) : Stager :=
  match st.commit with
  | some c =>
    match c.state with
    | .held _ => { st with commit := some { c with state := .held true } }
    | .checking => st
    | .pending => st
  | none => st

/-- The kind byte of a COMMIT answer (Tables 12-1 and 12-2). -/
def commitAnswerKind : Byte := 0x87

/-- R161: an answer that is ready and not begun is withdrawn; a HELD record then takes its hold expiry from the
withdrawal (R33). -/
def State.withdrawAnswer (s : State) : State :=
  match s.link.answer with
  | none => s
  | some a =>
    if a.sending then s
    else
      { s with
        link := { s.link with answer := none },
        stager := if a.kind = commitAnswerKind then s.stager.fixExpiry else s.stager }

/-- R161: the part makes an answer ready; it is the one held. -/
def State.holdAnswer (s : State) (requestKind : Byte) (payload : List Byte) : State :=
  { s with link := { s.link with answer := some { kind := requestKind + 0x80, payload := payload, sending := false } } }

/-- R161: the whole frame in which an answer is sent (Table 12-1). -/
def answerFrame (unit : Nat) (a : Answer) : List Byte :=
  let body := [byteOf unit, a.kind, byteOf a.payload.length] ++ a.payload
  let crc := crc16 body
  0xA5 :: (body ++ beBytes 2 crc.toNat)

/-- The frame the part is sending, if it is sending one. -/
def State.lineOut (s : State) : Option (List Byte) :=
  match s.link.answer with
  | some a => if a.sending then some (answerFrame s.link.unit a) else none
  | none => none

/-- What an owner makes of a request: the state after it and, unless the answer waits, the answer's payload. -/
abbrev Reply := State × Option (List Byte)

/-- An owner's answer: the status and the fields that follow it. -/
def reply (s : State) (st : PosStatus) (fields : List Byte) : Reply := (s, some (st.byte :: fields))

/-- A POS request as the table of 11.2 gives it: its kind, whether its length fits, whether it may be broadcast,
and its owner. -/
structure Request where
  kind : Byte
  lengthFits : Bool
  broadcast : Bool
  owner : State → Reply

/-- R159, R160: an accepted frame with a known kind reaches its owner, is answered without reaching it, or is
ignored. Test 2 comes before every owner, that of COMMIT (R29) too (DEDUCED, log entry 35). -/
def State.take (s : State) (addressing : Addressing) (r : Request) : State :=
  match addressing with
  | .addressed =>
    if s.nva.loading then s.holdAnswer r.kind [PosStatus.busy.byte]
    else if s.checking then s.holdAnswer r.kind [PosStatus.busy.byte]
    else if r.lengthFits then
      match (r.owner s).2 with
      | some payload => (r.owner s).1.holdAnswer r.kind payload
      | none => (r.owner s).1
    else s.holdAnswer r.kind [PosStatus.badLength.byte]
  | .broadcast =>
    if s.nva.loading || s.checking || !r.broadcast || !r.lengthFits then s else (r.owner s).1

/-- R157, R161: the low CRC byte of a frame is received: the receiver is in WAIT_IDLE, and an answer that was ready
when the frame began is withdrawn. -/
def State.frameEnd (s : State) : State :=
  { s.withdrawAnswer with link := { s.withdrawAnswer.link with receiver := .waitIdle } }

/-- R157, R158: a frame is complete and taken. While the part is sending an answer its receiver takes nothing. -/
def State.onFrame (s : State) (f : State → State) : State := if s.sending then s else f s.frameEnd

/-! ### Content commands (12.1) -/

/-- The statuses of content commands (Table 12-7). -/
inductive ContentStatus where
  | ok
  | badCommand
  | badValue
  | handleInUse
  | noWindow
  | noSpace
  | tooLarge
  | notLoading
  | incomplete
  | notReady
  | noScene
  | sceneFull
  | priceLayersFull
  | stillHot
  | notWaiting
  | loading
  | refused
deriving DecidableEq, Repr

/-- Table 12-7: the byte of a status. -/
def ContentStatus.byte : ContentStatus → Byte
  | .ok => 0x01
  | .badCommand => 0x02
  | .badValue => 0x03
  | .handleInUse => 0x04
  | .noWindow => 0x05
  | .noSpace => 0x06
  | .tooLarge => 0x07
  | .notLoading => 0x08
  | .incomplete => 0x09
  | .notReady => 0x0A
  | .noScene => 0x0B
  | .sceneFull => 0x0C
  | .priceLayersFull => 0x0D
  | .stillHot => 0x0E
  | .notWaiting => 0x0F
  | .loading => 0x10
  | .refused => 0x11

/-- What an owner makes of a content command: the state after it, the status and the answer bytes from byte 4. -/
structure CommandResult where
  state : State
  status : ContentStatus
  answer : List Byte

/-- A refused command changes nothing and every answer byte reads zero (R168). -/
def refuse (s : State) (st : ContentStatus) : CommandResult := { state := s, status := st, answer := [] }

/-- R168: a command completes: the status record is written whole and CMD_DONE is set. -/
def State.completed (s : State) (code : Byte) (go : BitVec 32) (st : ContentStatus) (answer : List Byte) : State :=
  { s with port := ({ s.port with status := { code := code, status := st.byte, tag := go.setWidth 16,
                                              answer := answer } }).raise .cmdDone }

/-- R167: the low 16 bits of a go-word write are the tag. -/
def State.tagged (s : State) (go : BitVec 32) : State := { s with port := { s.port with goTag := go.setWidth 16 } }

/-- What an owner made of a command, completed. -/
def CommandResult.complete (o : CommandResult) (code : Byte) (go : BitVec 32) : State :=
  o.state.completed code go o.status o.answer

/-- R167: a go-word write takes the command; during the start-up load every command other than STATUS_QUERY gets
LOADING and acts on nothing. -/
def State.takeCommand (s : State) (code : Byte) (go : BitVec 32) (owner : State → CommandResult) : State :=
  let t := s.tagged go
  (if t.nva.loading ∧ code ≠ 0x41 then refuse t .loading else owner t).complete code go

/-- Store bytes in the command record from an offset; bytes beyond the record are not stored. -/
def storeRecord (r : Vector Byte 64) (o : Nat) : List Byte → Vector Byte 64
  | [] => r
  | b :: rest => storeRecord (r.setIfInBounds o b) (o + 1) rest

/-- The command record as the media player writes it before the go word of a command: the code in byte 0 and the
command's fields at their offsets (Table 12-6). -/
def State.writeRecord (s : State) (fields : List (Nat × List Byte)) : State :=
  { s with port := { s.port with
      record := fields.foldl (fun r e => storeRecord r e.1 e.2) s.port.record } }

/-- A panel index 0..3 from its byte. -/
def panelOf (b : Byte) : Option (Fin 4) := if h : b.toNat < 4 then some ⟨b.toNat, h⟩ else none

/-- A handle 1..255 from its number. -/
def handleOf (n : Nat) : Option Handle := if h : 1 ≤ n ∧ n ≤ 255 then some ⟨n - 1, by omega⟩ else none

/-- The number of a handle. -/
def handleNumber (h : Handle) : Nat := h.val + 1

end Sys2Proof.Machine
end

