-- ==== Sys2Proof/Machine/Operands.lean ====
section
/-! DEFINITION. The forms of Chapter 12: the payloads of POS requests (Tables 12-2 to 12-4), the fields of content
commands in the command record (Table 12-6), and the same forms written out. -/

namespace Sys2Proof.Machine

/-! ### Item, promotion, rules and schedule forms -/

/-- A price of the item form: three bytes that count when its presence bit is set. -/
def formPrice (l : List Byte) (k : Nat) : Option Nat :=
  if (byteAt l 2).testBit k then some (beAt l (3 + 3 * k) 3) else none

/-- R24: price `k` of an item form is in range when present and 000000h when absent. -/
def formPriceOk (l : List Byte) (k : Nat) : Bool :=
  if (byteAt l 2).testBit k then decide (beAt l (3 + 3 * k) 3 ≤ maxPrice) else decide (beAt l (3 + 3 * k) 3 = 0)

/-- R24: the promotion byte of an item form. -/
def formPromoOk (l : List Byte) : Bool :=
  if (byteAt l 2).testBit 4 then decide (byteAt l 15 ≤ 31) else decide (byteAt l 15 = 0)

/-- The item of an item form (Table 12-3), where R24 takes it. -/
def parseItem (l : List Byte) : Option (Nat × ItemBody) :=
  if validCode (beAt l 0 2) && decide (byteAt l 2 < 32) && !decide (byteAt l 2 % 16 = 0)
      && formPriceOk l 0 && formPriceOk l 1 && formPriceOk l 2 && formPriceOk l 3 && formPromoOk l then
    some (beAt l 0 2,
      { price := #v[formPrice l 0, formPrice l 1, formPrice l 2, formPrice l 3],
        promo := if (byteAt l 2).testBit 4 then some (byteAt l 15) else none })
  else none

/-- The presence byte of a body (Table 12-3). -/
def presenceByte (b : ItemBody) : Nat :=
  (if b.price[0].isSome then 1 else 0) + (if b.price[1].isSome then 2 else 0) + (if b.price[2].isSome then 4 else 0)
    + (if b.price[3].isSome then 8 else 0) + (if b.promo.isSome then 16 else 0)

/-- The four prices of a body in `n` bytes each, 0 where absent. -/
def priceBytes (order : Nat → List Byte) (prices : Vector (Option Nat) 4) : List Byte :=
  order (prices[0].getD 0) ++ order (prices[1].getD 0) ++ order (prices[2].getD 0) ++ order (prices[3].getD 0)

/-- The item form (Table 12-3, R31). -/
def itemForm (code : Nat) (b : ItemBody) : List Byte :=
  beBytes 2 code ++ [byteOf (presenceByte b)] ++ priceBytes (beBytes 3) b.price ++ [byteOf (b.promo.getD 0)]

/-- The kind of a promotion from bits 0..1 of its first byte (Table 12-4). -/
def promoKindOf : Nat → Option PromoKind
  | 0 => some .percent
  | 1 => some .amount
  | 2 => some .fixed
  | _ => none

/-- The code of a promotion's kind (Table 12-4). -/
def PromoKind.code : PromoKind → Nat
  | .percent => 0
  | .amount => 1
  | .fixed => 2

/-- The promotion of a promotion form (Table 12-4), where R26 takes it. -/
def parsePromo (l : List Byte) : Option Promotion :=
  match promoKindOf (byteAt l 0 % 128) with
  | none => none
  | some k =>
    let p : Promotion := { enabled := (byteAt l 0).testBit 7, kind := k, value := beAt l 1 3,
                           mask := BitVec.ofNat 4 (byteAt l 4) }
    if decide (byteAt l 4 < 16) && p.valid then some p else none

/-- The promotion form (Table 12-4). -/
def promoForm (p : Promotion) : List Byte :=
  [byteOf ((if p.enabled then 128 else 0) + p.kind.code)] ++ beBytes 3 p.value ++ [p.mask.setWidth 8]

/-- The tax mode of a rules form (Table 12-4). -/
def taxModeOf : Nat → Option TaxMode
  | 0 => some .exclusive
  | 1 => some .inclusive
  | _ => none

/-- The code of a tax mode (Table 12-4). -/
def TaxMode.code : TaxMode → Nat
  | .exclusive => 0
  | .inclusive => 1

/-- The rounding mode of a rules form (Table 12-4). -/
def roundingOf : Nat → Option RoundingMode
  | 0 => some .nearest
  | 1 => some .up
  | 2 => some .down
  | _ => none

/-- The code of a rounding mode (Table 12-4). -/
def RoundingMode.code : RoundingMode → Nat
  | .nearest => 0
  | .up => 1
  | .down => 2

/-- The minor digits of a rules form, bits 4..7 of its last byte (Table 12-4). -/
def minorDigitsOf : Nat → Option Bool
  | 0 => some false
  | 2 => some true
  | _ => none

/-- The rules of a rules form (Table 12-4), where R26 takes them. -/
def parseRules (l : List Byte) : Option Rules :=
  match taxModeOf (byteAt l 0), roundingOf (byteAt l 4), minorDigitsOf (byteAt l 5 / 16), daypartOf (byteAt l 5 % 16) with
  | some t, some m, some two, some d =>
    let r : Rules := { taxMode := t, taxRate := beAt l 1 2, step := byteAt l 3, rounding := m, twoDigits := two,
                       defaultDaypart := d }
    if r.valid then some r else none
  | _, _, _, _ => none

/-- The rules form (Table 12-4). -/
def rulesForm (r : Rules) : List Byte :=
  [byteOf r.taxMode.code] ++ beBytes 2 r.taxRate ++ [byteOf r.step, byteOf r.rounding.code,
    byteOf ((if r.twoDigits then 32 else 0) + r.defaultDaypart.val)]

/-- R44: the first entry of a schedule payload that fails, or the entries. `k` is the position of the next entry and
`low` the start minute before it. -/
def parseEntries (l : List Byte) : Nat → Nat → Option Nat → Except Nat (List ScheduleEntry)
  | 0, _, _ => .ok []
  | n + 1, k, low =>
    let start := beAt l (1 + 3 * k) 2
    match daypartOf (byteAt l (3 + 3 * k)) with
    | none => .error k
    | some d =>
      if decide (start < 1440) && low.all (fun m => decide (m < start)) then
        match parseEntries l n (k + 1) (some start) with
        | .ok es => .ok ({ start := start, daypart := d } :: es)
        | .error e => .error e
      else .error k

/-- R44: the schedule of a SCHEDULE_SET payload, or the position it is refused at. -/
def parseSchedule (l : List Byte) : Except Nat (List ScheduleEntry) :=
  let n := byteAt l 0
  if 1 ≤ n ∧ n ≤ 4 then parseEntries l n 0 none else .error 0

/-- An availability from its byte (Table 12-2). -/
def availabilityOf : Nat → Option Availability
  | 0 => some .available
  | 1 => some .soldOut
  | _ => none

/-! ### Codes of answers -/

/-- Table 12-5: the byte of an availability. -/
def Availability.byte : Availability → Byte
  | .available => 0x00
  | .soldOut => 0x01

/-- Table 12-5: the byte of a pending availability, FFh for none. -/
def pendingByte : Option Availability → Byte
  | some a => a.byte
  | none => 0xFF

/-- Table 12-5: the byte of a suspension, 0 for none. -/
def suspensionByte : Option SuspendReason → Byte
  | none => 0
  | some .mismatch => 1
  | some .parity => 2
  | some .unrepairable => 3

/-- Table 12-5: the byte of a force state, FFh for none. -/
def forceByte : Option Daypart → Byte
  | some d => byteOf d.val
  | none => 0xFF

/-- Table 12-5: the byte of a commit state. -/
def commitByte : Option CommitRecord → Byte
  | none => 0
  | some c =>
    match c.state with
    | .checking => 1
    | .held _ => 2
    | .pending => 3

/-- Table 12-5: the byte of the last outcome. -/
def LastOutcome.byte : LastOutcome → Byte
  | .none => 0
  | .applied => 1
  | .cancelled => 2
  | .expired => 3

/-- Table 12-5: the code of a self-test result. -/
def TestResult.code : TestResult → Nat
  | .none => 0
  | .pass => 1
  | .fail => 2

/-- Tables 12-5 and 12-7: the byte of the load state, 0 LOADING, 1 DONE. -/
def loadByte (loading : Bool) : Byte := flagByte !loading

/-! ### Content command fields (Table 12-6) -/

/-- A byte of the command record. -/
def rec8 (r : Vector Byte 64) (o : Nat) : Byte := r.toList.getD o 0

/-- A little-endian pair of bytes of the command record. -/
def rec16 (r : Vector Byte 64) (o : Nat) : BitVec 16 := rec8 r (o + 1) ++ rec8 r o

/-- A pair of bytes as it stands in the record, little-endian. -/
def two (v : BitVec 16) : List Byte := [v.setWidth 8, (v >>> 8).setWidth 8]

/-- The fields of ASSET_OPEN in the record. -/
def OpenForm.fields (f : OpenForm) : List (Nat × List Byte) :=
  [(4, two f.handle ++ [f.format]), (8, two f.width ++ two f.height ++ two f.stride)]

/-- ASSET_OPEN as the record holds it. -/
def OpenForm.ofRecord (r : Vector Byte 64) : OpenForm :=
  { handle := rec16 r 4, format := rec8 r 6, width := rec16 r 8, height := rec16 r 10, stride := rec16 r 12 }

/-- The fields of SCENE_BEGIN in the record. -/
def SceneForm.fields (f : SceneForm) : List (Nat × List Byte) :=
  [(4, [f.panel, f.dimGiven, f.dim]), (8, [f.red, f.green, f.blue])]

/-- SCENE_BEGIN as the record holds it. -/
def SceneForm.ofRecord (r : Vector Byte 64) : SceneForm :=
  { panel := rec8 r 4, dimGiven := rec8 r 5, dim := rec8 r 6, red := rec8 r 8, green := rec8 r 9, blue := rec8 r 10 }

/-- The fields of LAYER_ADD in the record. -/
def LayerForm.fields (f : LayerForm) : List (Nat × List Byte) :=
  [(4, [f.panel, f.kind] ++ two f.x ++ two f.y ++ two f.w ++ two f.h ++ [f.alpha, f.mask, f.soldOut]),
   (18, two f.code ++ two f.handle ++ [f.style]),
   (24, [f.blue, f.green, f.red, f.colourAlpha])]

/-- LAYER_ADD as the record holds it. -/
def LayerForm.ofRecord (r : Vector Byte 64) : LayerForm :=
  { panel := rec8 r 4, kind := rec8 r 5, x := rec16 r 6, y := rec16 r 8, w := rec16 r 10, h := rec16 r 12,
    alpha := rec8 r 14, mask := rec8 r 15, soldOut := rec8 r 16, code := rec16 r 18, handle := rec16 r 20,
    style := rec8 r 22, blue := rec8 r 24, green := rec8 r 25, red := rec8 r 26, colourAlpha := rec8 r 27 }

/-- The fields of STYLE_SET in the record. -/
def StyleForm.fields (f : StyleForm) : List (Nat × List Byte) :=
  [(4, [f.index, f.font, f.cw]), (8, two f.ch), (12, [f.blue, f.green, f.red, f.alpha, f.symbol, f.mark, f.grouping,
    f.minor, f.alignment])]

/-- STYLE_SET as the record holds it. -/
def StyleForm.ofRecord (r : Vector Byte 64) : StyleForm :=
  { index := rec8 r 4, font := rec8 r 5, cw := rec8 r 6, ch := rec16 r 8, blue := rec8 r 12, green := rec8 r 13,
    red := rec8 r 14, alpha := rec8 r 15, symbol := rec8 r 16, mark := rec8 r 17, grouping := rec8 r 18,
    minor := rec8 r 19, alignment := rec8 r 20 }

/-- The fields of CURVE_SET in the record. -/
def CurveForm.fields (f : CurveForm) : List (Nat × List Byte) :=
  [(4, [f.panel]), (8, two f.a[0] ++ two f.a[1] ++ two f.a[2] ++ two f.a[3]),
   (16, two f.d[0] ++ two f.d[1] ++ two f.d[2] ++ two f.d[3])]

/-- CURVE_SET as the record holds it. -/
def CurveForm.ofRecord (r : Vector Byte 64) : CurveForm :=
  { panel := rec8 r 4, a := #v[rec16 r 8, rec16 r 10, rec16 r 12, rec16 r 14],
    d := #v[rec16 r 16, rec16 r 18, rec16 r 20, rec16 r 22] }

/-- The fields of THERMAL_SET in the record. -/
def ThermalForm.fields (f : ThermalForm) : List (Nat × List Byte) :=
  [(4, [f.panel, f.restart]), (8, two f.restore ++ two f.warn ++ two f.shutdown ++ two f.cap)]

/-- THERMAL_SET as the record holds it. -/
def ThermalForm.ofRecord (r : Vector Byte 64) : ThermalForm :=
  { panel := rec8 r 4, restart := rec8 r 5, restore := rec16 r 8, warn := rec16 r 10, shutdown := rec16 r 12,
    cap := rec16 r 14 }

/-- A pixel format from its code (Table 12-6). -/
def formatOf : Nat → Option PixelFormat
  | 1 => some .argb8888
  | 2 => some .rgb565
  | 3 => some .a8
  | _ => none

/-- The code of a pixel format (Table 12-6). -/
def PixelFormat.code : PixelFormat → Byte
  | .argb8888 => 1
  | .rgb565 => 2
  | .a8 => 3

/-- A sold-out rule from its code (Table 12-6). -/
def soldOutOf : Nat → Option SoldOutRule
  | 0 => some .always
  | 1 => some .hide
  | 2 => some .dim
  | 3 => some .only
  | _ => none

/-- A symbol position from its code (Table 12-6). -/
def symbolOf : Nat → Option SymbolPosition
  | 0 => some .before
  | 1 => some .after
  | 2 => some .none
  | _ => none

/-- A decimal mark from its code (Table 12-6). -/
def markOf : Nat → Option DecimalMark
  | 0 => some .point
  | 1 => some .comma
  | _ => none

/-- A grouping from its code (Table 12-6). -/
def groupingOf : Nat → Option Grouping
  | 0 => some .none
  | 1 => some .comma
  | 2 => some .point
  | _ => none

/-- A minor display from its code (Table 12-6). -/
def minorOf : Nat → Option MinorDisplay
  | 0 => some .full
  | 1 => some .trimZero
  | _ => none

/-- An alignment from its code (Table 12-6). -/
def alignmentOf : Nat → Option Alignment
  | 0 => some .left
  | 1 => some .right
  | 2 => some .center
  | _ => none

/-- A resolution from its code (Table 12-6). -/
def resolutionOf : Nat → Option Resolution
  | 0 => some .w1920h1080
  | 1 => some .w1080h1920
  | 2 => some .w1280h720
  | 3 => some .w720h1280
  | _ => none

/-- The code of a resolution (Table 12-6). -/
def Resolution.code : Resolution → Byte
  | .w1920h1080 => 0
  | .w1080h1920 => 1
  | .w1280h720 => 2
  | .w720h1280 => 3

/-- A truth value from its code (Table 12-6). -/
def switchOf : Nat → Option Bool
  | 0 => some false
  | 1 => some true
  | _ => none

/-- A restart mode from its code (Table 12-6). -/
def restartOf : Nat → Option RestartMode
  | 0 => some .auto
  | 1 => some .manual
  | _ => none

end Sys2Proof.Machine
end

