-- ==== Sys2Proof/Machine/Assets.lean ====
section
/-! DEFINITION. Asset commands and aperture writes: ASSET_OPEN, ASSET_CLOSE, ASSET_ABORT, ASSET_FREE, ASSET_QUERY and
APERTURE_WRITE (Chapter 6). -/

namespace Sys2Proof.Machine

/-- R81: format, width, height and stride hold listed values. -/
def Geometry.fieldsValid (g : Geometry) : Bool :=
  decide (1 ≤ g.width) && decide (g.width ≤ 4096) && decide (1 ≤ g.height) && decide (g.height ≤ 4096)
    && decide (g.stride % 8 = 0) && decide (g.width * g.format.bytes ≤ g.stride) && decide (g.stride ≤ 16384)

/-- R81: the largest asset, 16 MiB. -/
def maxAssetSize : Nat := 16777216

/-- The size of a load window, 16 MiB (6.3). -/
def windowSize : Nat := 16777216

/-- R90: the geometry an ASSET_OPEN asks for. -/
def OpenForm.geometry (f : OpenForm) : Option Geometry :=
  match formatOf f.format.toNat with
  | some fmt => some { format := fmt, width := f.width.toNat, height := f.height.toNat, stride := f.stride.toNat }
  | none => none

/-- R90: the taken ASSET_OPEN, with its window. -/
def openAsset (s : State) (h : Handle) (g : Geometry) (n : Fin 4) : CommandResult :=
  let m := s.assets
  let pages := (m.takePages g.pageCount).map (fun p => { page := p, touched := false : LoadPage })
  let m' := { m.setEntry h (.loading g pages) with windows := m.windows.set n (some h) }
  { state := { s with assets := m' }, status := .ok,
    answer := [byteOf n.val, 0, 0, 0] ++ leBytes 4 (n.val * windowSize) ++ leBytes 4 g.size
      ++ leBytes 2 g.pageCount ++ leBytes 2 m'.freeCount }

/-- R90: ASSET_OPEN, its checks in order. -/
def assetOpenOwner (f : OpenForm) (s : State) : CommandResult :=
  match handleOf f.handle.toNat with
  | none => refuse s .badValue
  | some h =>
    match f.geometry with
    | none => refuse s .badValue
    | some g =>
      if !g.fieldsValid then refuse s .badValue
      else if maxAssetSize < g.size then refuse s .tooLarge
      else if s.assets.entry h ≠ .empty then refuse s .handleInUse
      else match s.assets.freeWindow with
        | none => refuse s .noWindow
        | some n => if s.assets.freeCount < g.pageCount then refuse s .noSpace else openAsset s h g n

/-- ASSET_OPEN taken. -/
def takeAssetOpen (go : BitVec 32) (f : OpenForm) (s : State) : State := s.takeCommand 0x01 go (assetOpenOwner f)

/-- ASSET_OPEN (R90, R167). -/
def execAssetOpen (go : BitVec 32) (f : OpenForm) (s : State) : Host.Outcome State Fault Refusal :=
  .next (takeAssetOpen go f (s.writeRecord ((0, [0x01]) :: f.fields)))

/-- The asset page indices that are untouched, ascending (R91). -/
def untouchedPages (pages : List LoadPage) : List Nat :=
  (List.range pages.length).filter (fun k => (pages[k]?).any (fun p => !p.touched))

/-- R91: ASSET_CLOSE. -/
def assetCloseOwner (handle : Nat) (s : State) : CommandResult :=
  match handleOf handle with
  | none => refuse s .badValue
  | some h =>
    match s.assets.entry h with
    | .loading g pages =>
      match untouchedPages pages with
      | low :: rest =>
        { state := s, status := .incomplete, answer := leBytes 2 (rest.length + 1) ++ leBytes 2 low }
      | [] =>
        { state := { s with assets := (s.assets.unbind h).setEntry h (.ready g (pages.map (·.page)) 0) },
          status := .ok, answer := [] }
    | .empty => refuse s .notLoading
    | .ready _ _ _ => refuse s .notLoading
    | .retiring _ _ _ => refuse s .notLoading

/-- ASSET_CLOSE taken. -/
def takeAssetClose (go : BitVec 32) (handle : BitVec 16) (s : State) : State :=
  s.takeCommand 0x02 go (assetCloseOwner handle.toNat)

/-- ASSET_CLOSE (R91, R167). -/
def execAssetClose (go : BitVec 32) (handle : BitVec 16) (s : State) : Host.Outcome State Fault Refusal :=
  .next (takeAssetClose go handle (s.writeRecord [(0, [0x02]), (4, two handle)]))

/-- R92, R97: a LOADING asset is discarded: its window unbound, its pages free, its entry EMPTY. -/
def AssetMap.discardLoading (m : AssetMap) (h : Handle) : AssetMap := (m.unbind h).setEntry h .empty

/-- R92: ASSET_ABORT. -/
def assetAbortOwner (handle : Nat) (s : State) : CommandResult :=
  match handleOf handle with
  | none => refuse s .badValue
  | some h =>
    match s.assets.entry h with
    | .loading _ _ =>
      { state := { s with assets := s.assets.discardLoading h }, status := .ok,
        answer := leBytes 2 (s.assets.discardLoading h).freeCount }
    | .empty => refuse s .notLoading
    | .ready _ _ _ => refuse s .notLoading
    | .retiring _ _ _ => refuse s .notLoading

/-- ASSET_ABORT taken. -/
def takeAssetAbort (go : BitVec 32) (handle : BitVec 16) (s : State) : State :=
  s.takeCommand 0x03 go (assetAbortOwner handle.toNat)

/-- ASSET_ABORT (R92, R167). -/
def execAssetAbort (go : BitVec 32) (handle : BitVec 16) (s : State) : Host.Outcome State Fault Refusal :=
  .next (takeAssetAbort go handle (s.writeRecord [(0, [0x03]), (4, two handle)]))

/-- Table 12-7: the code of an entry's state. -/
def AssetEntry.code : AssetEntry → Byte
  | .empty => 0
  | .loading _ _ => 1
  | .ready _ _ _ => 2
  | .retiring _ _ _ => 3

/-- The reference count of an entry (R94). -/
def AssetEntry.refs : AssetEntry → Nat
  | .empty => 0
  | .loading _ _ => 0
  | .ready _ _ n => n
  | .retiring _ _ n => n

/-- R93: the entry that ASSET_FREE leaves. -/
def AssetEntry.freed : AssetEntry → AssetEntry
  | .ready g pages n => if n = 0 then .empty else .retiring g pages n
  | .empty => .empty
  | .loading g pages => .loading g pages
  | .retiring g pages n => .retiring g pages n

/-- R93: ASSET_FREE. -/
def assetFreeOwner (handle : Nat) (s : State) : CommandResult :=
  match handleOf handle with
  | none => refuse s .badValue
  | some h =>
    match s.assets.entry h with
    | .loading _ _ => refuse s .notReady
    | e =>
      { state := { s with assets := s.assets.setEntry h e.freed }, status := .ok,
        answer := [e.freed.code, 0] ++ leBytes 2 e.freed.refs }

/-- ASSET_FREE taken. -/
def takeAssetFree (go : BitVec 32) (handle : BitVec 16) (s : State) : State :=
  s.takeCommand 0x04 go (assetFreeOwner handle.toNat)

/-- ASSET_FREE (R93, R167). -/
def execAssetFree (go : BitVec 32) (handle : BitVec 16) (s : State) : Host.Outcome State Fault Refusal :=
  .next (takeAssetFree go handle (s.writeRecord [(0, [0x04]), (4, two handle)]))

/-- R96: the number of entries in a state. -/
def AssetMap.countCode (m : AssetMap) (c : Byte) : Nat :=
  ((List.finRange 255).filter (fun h => decide ((m.entry h).code = c))).length

/-- R96: the report of handle 0 (Table 12-7). -/
def assetSummary (m : AssetMap) : List Byte :=
  let bound := fun n : Fin 4 => leBytes 1 ((m.windows[n].map handleNumber).getD 0)
  leBytes 2 m.poolSize ++ leBytes 2 m.freeCount
    ++ leBytes 2 (m.countCode 0) ++ leBytes 2 (m.countCode 1) ++ leBytes 2 (m.countCode 2) ++ leBytes 2 (m.countCode 3)
    ++ bound 0 ++ bound 1 ++ bound 2 ++ bound 3 ++ [flagByte m.loadFault.isSome]

/-- Table 12-7: format, width, height, stride and size. -/
def geometryBytes (g : Geometry) : List Byte :=
  [g.format.code] ++ leBytes 2 g.width ++ leBytes 2 g.height ++ leBytes 2 g.stride ++ leBytes 4 g.size

/-- R96: the report of one entry (Table 12-7). -/
def assetReport (m : AssetMap) (h : Handle) : List Byte :=
  match m.entry h with
  | .empty => [0] ++ zeros 17 ++ [0xFF, 0xFF, 0xFF]
  | .loading g pages =>
    let untouched := untouchedPages pages
    [1] ++ geometryBytes g ++ leBytes 2 pages.length ++ leBytes 2 0
      ++ leBytes 2 (pages.length - untouched.length) ++ leBytes 2 (untouched.head?.getD 0xFFFF)
      ++ [match m.windowOf h with | some n => byteOf n.val | none => 0xFF]
  | .ready g pages n => [2] ++ geometryBytes g ++ leBytes 2 pages.length ++ leBytes 2 n ++ leBytes 2 0 ++ [0xFF, 0xFF, 0xFF]
  | .retiring g pages n =>
    [3] ++ geometryBytes g ++ leBytes 2 pages.length ++ leBytes 2 n ++ leBytes 2 0 ++ [0xFF, 0xFF, 0xFF]

/-- R96: ASSET_QUERY. -/
def assetQueryOwner (handle : Nat) (s : State) : CommandResult :=
  if handle = 0 then { state := s, status := .ok, answer := assetSummary s.assets }
  else match handleOf handle with
    | none => refuse s .badValue
    | some h => { state := s, status := .ok, answer := assetReport s.assets h }

/-- ASSET_QUERY taken. -/
def takeAssetQuery (go : BitVec 32) (handle : BitVec 16) (s : State) : State :=
  s.takeCommand 0x05 go (assetQueryOwner handle.toNat)

/-- ASSET_QUERY (R96, R167). -/
def execAssetQuery (go : BitVec 32) (handle : BitVec 16) (s : State) : Host.Outcome State Fault Refusal :=
  .next (takeAssetQuery go handle (s.writeRecord [(0, [0x05]), (4, two handle)]))

/-! ### Aperture writes -/

/-- The asset bound to a window, where its entry is LOADING (R84). -/
def AssetMap.boundAsset (m : AssetMap) (n : Fin 4) : Option (Handle × Geometry × List LoadPage) :=
  match m.windows[n] with
  | none => none
  | some h =>
    match m.entry h with
    | .loading g pages => some (h, g, pages)
    | .empty => none
    | .ready _ _ _ => none
    | .retiring _ _ _ => none

/-- R87: the highest fault of a write of `len` bytes at a window offset. -/
def AssetMap.writeFault (m : AssetMap) (n : Fin 4) (offset len : Nat) : Option LoadFaultKind :=
  if offset % 4 ≠ 0 ∨ len % 4 ≠ 0 then some .align
  else match m.boundAsset n with
    | none => some .windowMiss
    | some (_, g, _) => if 0 < len ∧ g.size < offset + len then some .bounds else none

/-- R88: a faulting write is recorded, or sets the more flag of the record that holds a fault. -/
def AssetMap.recordFault (m : AssetMap) (kind : LoadFaultKind) (n : Fin 4) (offset : Nat) : AssetMap :=
  match m.loadFault with
  | none => { m with loadFault := some { kind := kind, window := n, offset := offset, more := false } }
  | some f => { m with loadFault := some { f with more := true } }

/-- R86: the first stored write into a page fills it with zeros and sets its touched flag. -/
def touchPage (memory : List Host.Cell) (pages : List LoadPage) (k : Nat) : List Host.Cell × List LoadPage :=
  match pages[k]? with
  | none => (memory, pages)
  | some p =>
    if p.touched then (memory, pages) else (Memory.clearPage memory p.page, pages.set k { p with touched := true })

/-- R85: byte `i` of an asset with this page list is stored. -/
def storeAssetByte (memory : List Host.Cell) (pages : List LoadPage) (i : Nat) (b : Byte) : List Host.Cell :=
  match pages[i / pageSize]? with
  | none => memory
  | some p => Memory.write memory (p.page * pageSize + i % pageSize) b

/-- R85, R86: the bytes of a write stored one by one, each page touched before its first byte. -/
def storeAsset : List Host.Cell → List LoadPage → Nat → List Byte → List Host.Cell × List LoadPage
  | memory, pages, _, [] => (memory, pages)
  | memory, pages, o, b :: rest =>
    let t := touchPage memory pages (o / pageSize)
    storeAsset (storeAssetByte t.1 t.2 o b) t.2 (o + 1) rest

/-- R85 to R88: an aperture write is tested, then stored whole or dropped whole. -/
def State.apertureWrite (s : State) (offset : Nat) (data : List Byte) : State :=
  let n : Fin 4 := ⟨offset / windowSize % 4, by omega⟩
  let o := offset % windowSize
  match s.assets.writeFault n o data.length with
  | some kind => ({ s with assets := s.assets.recordFault kind n o }).raiseContent .loadFault
  | none =>
    match s.assets.boundAsset n with
    | none => s
    | some (h, g, pages) =>
      let r := storeAsset s.assets.memory pages o data
      { s with assets := { s.assets.setEntry h (.loading g r.2) with memory := r.1 } }

/-- APERTURE_WRITE (R85 to R88). -/
def execApertureWrite (offset : BitVec 26) (data : List Byte) (s : State) : Host.Outcome State Fault Refusal :=
  .next (s.apertureWrite offset.toNat data)

end Sys2Proof.Machine
end

