-- ==== Sys2Proof/Machine/Staging.lean ====
section
/-! DEFINITION. Staging requests: ITEM_STAGE, ITEM_REMOVE, PROMO_STAGE, RULES_STAGE and STAGE_ABORT (2.1). -/

namespace Sys2Proof.Machine

/-- The key of a staged entry (2.1). -/
def StagedEntry.key : StagedEntry → EntryKey
  | .itemSet code _ => .item code
  | .itemRemove code => .item code
  | .promoSet i _ => .promo i
  | .rulesSet _ => .rules

/-- R23: the capacity of the staging list. -/
def stagingCapacity : Nat := 64

/-- R23: the entry with the same key is replaced in place. -/
def replaceEntry (e : StagedEntry) (l : List StagedEntry) : List StagedEntry :=
  l.map (fun x => if x.key = e.key then e else x)

/-- R23: a validated entry replaces the entry with its key, is appended, or is refused STAGE_FULL. -/
def stageEntry (e : StagedEntry) (s : State) : Reply :=
  let l := s.stager.staging
  if l.any (fun x => decide (x.key = e.key)) then
    reply { s with stager := { s.stager with staging := replaceEntry e l } } .ok [byteOf l.length, 1]
  else if l.length < stagingCapacity then
    reply { s with stager := { s.stager with staging := l ++ [e] } } .ok [byteOf (l.length + 1), 0]
  else reply s .stageFull []

/-- R24: ITEM_STAGE. -/
def itemStageOwner (payload : List Byte) (s : State) : Reply :=
  match parseItem payload with
  | some (code, body) => stageEntry (.itemSet code body) s
  | none => reply s .badValue []

/-- The ITEM_STAGE request. -/
def itemStageRequest (payload : List Byte) : Request :=
  { kind := 0x02, lengthFits := decide (payload.length = 16), broadcast := false, owner := itemStageOwner payload }

/-- ITEM_STAGE (R24, R23, R159). -/
def execItemStage (addressing : Addressing) (payload : List Byte) (s : State) : Host.Outcome State Fault Refusal :=
  .next (s.onFrame (fun t => t.take addressing (itemStageRequest payload)))

/-- R25: ITEM_REMOVE. -/
def itemRemoveOwner (payload : List Byte) (s : State) : Reply :=
  if validCode (beAt payload 0 2) then stageEntry (.itemRemove (beAt payload 0 2)) s else reply s .badValue []

/-- The ITEM_REMOVE request. -/
def itemRemoveRequest (payload : List Byte) : Request :=
  { kind := 0x03, lengthFits := decide (payload.length = 2), broadcast := false, owner := itemRemoveOwner payload }

/-- ITEM_REMOVE (R25, R23, R159). -/
def execItemRemove (addressing : Addressing) (payload : List Byte) (s : State) : Host.Outcome State Fault Refusal :=
  .next (s.onFrame (fun t => t.take addressing (itemRemoveRequest payload)))

/-- R26: PROMO_STAGE. -/
def promoStageOwner (payload : List Byte) (s : State) : Reply :=
  if h : byteAt payload 0 < 32 then
    match parsePromo (payload.drop 1) with
    | some p => stageEntry (.promoSet ⟨byteAt payload 0, h⟩ p) s
    | none => reply s .badValue []
  else reply s .badValue []

/-- The PROMO_STAGE request. -/
def promoStageRequest (payload : List Byte) : Request :=
  { kind := 0x04, lengthFits := decide (payload.length = 6), broadcast := false, owner := promoStageOwner payload }

/-- PROMO_STAGE (R26, R23, R159). -/
def execPromoStage (addressing : Addressing) (payload : List Byte) (s : State) : Host.Outcome State Fault Refusal :=
  .next (s.onFrame (fun t => t.take addressing (promoStageRequest payload)))

/-- R26: RULES_STAGE. -/
def rulesStageOwner (payload : List Byte) (s : State) : Reply :=
  match parseRules payload with
  | some r => stageEntry (.rulesSet r) s
  | none => reply s .badValue []

/-- The RULES_STAGE request. -/
def rulesStageRequest (payload : List Byte) : Request :=
  { kind := 0x05, lengthFits := decide (payload.length = 6), broadcast := false, owner := rulesStageOwner payload }

/-- RULES_STAGE (R26, R23, R159). -/
def execRulesStage (addressing : Addressing) (payload : List Byte) (s : State) : Host.Outcome State Fault Refusal :=
  .next (s.onFrame (fun t => t.take addressing (rulesStageRequest payload)))

/-- R27: STAGE_ABORT empties the list and leaves the commit record. -/
def stageAbortOwner (s : State) : Reply :=
  reply { s with stager := { s.stager with staging := [] } } .ok [0]

/-- The STAGE_ABORT request. -/
def stageAbortRequest (payload : List Byte) : Request :=
  { kind := 0x06, lengthFits := decide (payload.length = 0), broadcast := false, owner := stageAbortOwner }

/-- STAGE_ABORT (R27, R159). -/
def execStageAbort (addressing : Addressing) (payload : List Byte) (s : State) : Host.Outcome State Fault Refusal :=
  .next (s.onFrame (fun t => t.take addressing (stageAbortRequest payload)))

end Sys2Proof.Machine
end

