-- ==== Sys2Proof/Machine/Commit.lean ====
section
/-! DEFINITION. COMMIT, the commit check, APPLY, COMMIT_CANCEL, HOLD_EXPIRY, and the application of a commit at
render begin (2.2 to 2.5). -/

namespace Sys2Proof.Machine

/-! ### COMMIT -/

/-- R29: COMMIT is refused at once, COMMIT_BUSY with a record in any state, or makes a CHECKING record; its answer waits for
the check. -/
def commitOwner (payload : List Byte) (s : State) : Reply :=
  match switchOf (byteAt payload 4) with
  | none => reply s .badValue []
  | some hold =>
    if s.stager.commit.isSome then reply s .commitBusy []
    else if s.stager.staging.isEmpty then reply s .nothingStaged []
    else
      ({ s with stager := { s.stager with
          commit := some { state := .checking, entries := [], hold := hold,
                           digest := BitVec.ofNat 32 (beAt payload 0 4) } } }, none)

/-- The COMMIT request. -/
def commitRequest (payload : List Byte) : Request :=
  { kind := 0x07, lengthFits := decide (payload.length = 5), broadcast := false, owner := commitOwner payload }

/-- COMMIT (R29, R159). -/
def execCommit (addressing : Addressing) (payload : List Byte) (s : State) : Host.Outcome State Fault Refusal :=
  .next (s.onFrame (fun t => t.take addressing (commitRequest payload)))

/-! ### The commit check -/

/-- The staged ITEM entry for a code. -/
def stagedItem (l : List StagedEntry) (code : Nat) : Option StagedEntry :=
  l.find? (fun e => decide (e.key = .item code))

/-- The order in which the walk passes the live table: ascending code (R30). -/
def PriceTable.byCode (t : PriceTable) : List (ItemIndex × Item) :=
  t.items.insertionSort (fun a b => a.2.code ≤ b.2.code)

/-- R30: the walk reads every body of the live table with its parity test. -/
def State.walkBodies (s : State) : State := (s.table.byCode.map (·.1)).foldl State.readBody s

/-- R30: the items of the projected table that the live table gives: those with no staged ITEM entry. -/
def keptItems (t : PriceTable) (l : List StagedEntry) : List Item :=
  (t.byCode.map (·.2)).filter (fun it => (stagedItem l it.code).isNone)

/-- R30: the codes of needed faults, ascending. -/
def neededFaults (t : PriceTable) (l : List StagedEntry) : List Nat :=
  ((keptItems t l).filter (fun it => decide (it.health = .corrupt))).map (·.code)

/-- The item an ITEM_SET entry carries. -/
def StagedEntry.item : StagedEntry → Option (Nat × ItemBody)
  | .itemSet code body => some (code, body)
  | .itemRemove _ => none
  | .promoSet _ _ => none
  | .rulesSet _ => none

/-- R30: the items of the projected table, ascending code. -/
def projectedItems (t : PriceTable) (l : List StagedEntry) : List (Nat × ItemBody) :=
  (((keptItems t l).map (fun it => (it.code, it.body))) ++ l.filterMap StagedEntry.item).insertionSort
    (fun a b => a.1 ≤ b.1)

/-- R30: the promotions of the projected table. -/
def projectedPromos (t : PriceTable) (l : List StagedEntry) : Vector Promotion 32 :=
  l.foldl (fun ps e => match e with
    | .promoSet i p => ps.set i p
    | .itemSet _ _ => ps
    | .itemRemove _ => ps
    | .rulesSet _ => ps) t.promos

/-- R30: the rules of the projected table. -/
def projectedRules (t : PriceTable) (l : List StagedEntry) : Rules :=
  l.foldl (fun r e => match e with
    | .rulesSet r' => r'
    | .itemSet _ _ => r
    | .itemRemove _ => r
    | .promoSet _ _ => r) t.rules

/-- R30: the running item count after an entry. -/
def runningCount (t : PriceTable) (n : Nat) (e : StagedEntry) : Nat :=
  match e with
  | .itemSet code _ => if t.has code then n else n + 1
  | .itemRemove code => if t.has code then n - 1 else n
  | .promoSet _ _ => n
  | .rulesSet _ => n

/-- R30, R32: the list position of the first entry after which the running count exceeds 512. -/
def overflowAt (t : PriceTable) : Nat → Nat → List StagedEntry → Option Nat
  | _, _, [] => none
  | k, n, e :: rest =>
    if 512 < runningCount t n e then some k else overflowAt t (k + 1) (runningCount t n e) rest

/-- R31: the digest form of the projected table. -/
def digestForm (t : PriceTable) (l : List StagedEntry) : List Byte :=
  (projectedItems t l).flatMap (fun e => itemForm e.1 e.2) ++ (projectedPromos t l).toList.flatMap promoForm
    ++ rulesForm (projectedRules t l)

/-- R31: the commit digest. -/
def commitDigest (t : PriceTable) (l : List StagedEntry) : BitVec 32 := crc32 (digestForm t l)

/-- What the check finds, in the order of R32. -/
inductive CheckResult where
  | recordFault (lowest : Nat) (count : Nat)
  | tableFull (position : Nat)
  | mismatch (digest : BitVec 32) (items : Nat)
  | pass (items : Nat)
deriving DecidableEq, Repr

/-- R32, R33: the outcome of the check over a table whose bodies have been read. -/
def checkResult (t : PriceTable) (l : List StagedEntry) (supplied : BitVec 32) : CheckResult :=
  match neededFaults t l with
  | low :: rest => .recordFault low (rest.length + 1)
  | [] =>
    match overflowAt t 0 t.items.length l with
    | some k => .tableFull k
    | none =>
      if commitDigest t l = supplied then .pass (projectedItems t l).length
      else .mismatch (commitDigest t l) (projectedItems t l).length

/-- R32: a failed check ends the record; R33: a passed check moves the staging list into it. -/
def Stager.afterCheck (st : Stager) (c : CommitRecord) (r : CheckResult) : Stager :=
  match r with
  | .pass _ =>
    { st with staging := [],
              commit := some { c with entries := st.staging, state := if c.hold then .held false else .pending } }
  | .recordFault _ _ => { st with commit := none }
  | .tableFull _ => { st with commit := none }
  | .mismatch _ _ => { st with commit := none }

/-- R32, R33: the answer to COMMIT (Table 12-5). -/
def checkAnswer (c : CommitRecord) (entries : Nat) (r : CheckResult) : List Byte :=
  match r with
  | .pass n => [PosStatus.ok.byte, if c.hold then 2 else 3, byteOf entries] ++ beBytes 2 n
  | .recordFault low n => [PosStatus.recordFault.byte] ++ beBytes 2 low ++ beBytes 2 n
  | .tableFull k => [PosStatus.tableFull.byte, byteOf k]
  | .mismatch d n => [PosStatus.digestMismatch.byte] ++ beBytes 4 d.toNat ++ beBytes 2 n

/-- R161: the COMMIT answer is ready. A frame begun since, or an answer already held for a newer request, withdraws
it at once (log entry 10). -/
def State.commitAnswer (s : State) (payload : List Byte) : State :=
  let newer := s.link.answer.isSome || (match s.link.receiver with
    | .assembling _ => true
    | .waitIdle => false
    | .ready => false)
  if newer then { s with stager := s.stager.fixExpiry } else s.holdAnswer 0x07 payload

/-- The commit check completes over the table after the walk. -/
def State.finishCheck (s : State) (c : CommitRecord) : State :=
  let l := s.stager.staging
  let r := checkResult s.table l c.digest
  State.commitAnswer { s with stager := s.stager.afterCheck c r } (checkAnswer c l.length r)

/-- COMMIT_CHECK_COMPLETION (R30 to R33). With no check in flight the event does not occur and nothing changes. -/
def execCommitCheckCompletion (upsets : List ItemIndex) (s : State) : Host.Outcome State Fault Refusal :=
  .next (match s.stager.commit with
    | none => s
    | some c => if c.state = .checking then (s.upsets upsets).walkBodies.finishCheck c else s)

/-! ### Hold, release and expiry -/

/-- R34: APPLY. -/
def applyOwner (s : State) : Reply :=
  match s.stager.commit with
  | none => reply s .nothingHeld []
  | some c =>
    if c.state = .checking then reply s .busy []
    else
      reply { s with stager := { s.stager with commit := some { c with state := .pending } } } .ok
        (3 :: beBytes 2 s.stager.commitNumber.toNat)

/-- The APPLY request. -/
def applyRequest (payload : List Byte) : Request :=
  { kind := 0x08, lengthFits := decide (payload.length = 0), broadcast := true, owner := applyOwner }

/-- APPLY (R34, R159, R160). -/
def execApply (addressing : Addressing) (payload : List Byte) (s : State) : Host.Outcome State Fault Refusal :=
  .next (s.onFrame (fun t => t.take addressing (applyRequest payload)))

/-- R35: COMMIT_CANCEL. -/
def commitCancelOwner (s : State) : Reply :=
  match s.stager.commit with
  | none => if s.stager.lastOutcome = .applied then reply s .tooLate [] else reply s .nothingHeld []
  | some c =>
    match c.state with
    | .held _ => reply { s with stager := { s.stager with commit := none, lastOutcome := .cancelled } } .ok []
    | .pending => reply s .tooLate []
    | .checking => reply s .busy []

/-- The COMMIT_CANCEL request. -/
def commitCancelRequest (payload : List Byte) : Request :=
  { kind := 0x09, lengthFits := decide (payload.length = 0), broadcast := false, owner := commitCancelOwner }

/-- COMMIT_CANCEL (R35, R159). -/
def execCommitCancel (addressing : Addressing) (payload : List Byte) (s : State) : Host.Outcome State Fault Refusal :=
  .next (s.onFrame (fun t => t.take addressing (commitCancelRequest payload)))

/-- HOLD_EXPIRY (R36). Only a HELD record whose expiry is fixed has one (R33, R34); else nothing changes. -/
def execHoldExpiry (s : State) : Host.Outcome State Fault Refusal :=
  .next (match s.stager.commit with
    | none => s
    | some c =>
      if c.state = .held true then
        ({ s with stager := { s.stager with commit := none, lastOutcome := .expired } }).raisePos .commitExpired
      else s)

/-! ### Applying a commit -/

/-- R58: an applied entry marks the slot of an item DIRTY and withdraws its repair. -/
def Nva.markItem (n : Nva) (i : ItemIndex) : Nva := (n.withdrawRepair i).markDirty (itemSlot i)

/-- R38: an ITEM_SET body written at an index: health GOOD, suspension removed, slot marked DIRTY. -/
def State.setItemAt (s : State) (i : ItemIndex) (code : Nat) (body : ItemBody) (avail : Availability) : State :=
  let t := (s.putItem i { code := code, body := body, parityFails := false, health := .good, avail := avail }).unsuspend code
  { t with nva := t.nva.markItem i }

/-- R38: an applied ITEM_SET. -/
def State.applyItemSet (s : State) (code : Nat) (body : ItemBody) : State :=
  match s.table.indexOf code with
  | some i => s.setItemAt i code body (((s.table.item i).map (·.avail)).getD .available)
  | none =>
    match s.table.lowestFree with
    | some i => s.setItemAt i code body .available
    | none => s

/-- R39: an applied ITEM_REMOVE. -/
def State.applyItemRemove (s : State) (code : Nat) : State :=
  match s.table.indexOf code with
  | none => s
  | some i =>
    let t := ({ s with table := { s.table with items := Sparse.drop s.table.items i,
                                               pendingAvail := Sparse.drop s.table.pendingAvail code } }).unsuspend code
    { t with nva := t.nva.markItem i }

/-- R38 to R40: the application of one entry. -/
def State.applyEntry (s : State) (e : StagedEntry) : State :=
  match e with
  | .itemSet code body => s.applyItemSet code body
  | .itemRemove code => s.applyItemRemove code
  | .promoSet i p =>
    { s with table := { s.table with promos := s.table.promos.set i p }, nva := s.nva.markDirty (promoSlot i) }
  | .rulesSet r => { s with table := { s.table with rules := r }, nva := s.nva.markDirty rulesSlot }

/-- R37: the part of render begin that applies a PENDING commit. -/
def State.applyCommit (s : State) : State :=
  match s.stager.commit with
  | none => s
  | some c =>
    if c.state = .pending then
      let t := c.entries.foldl State.applyEntry s
      ({ t with stager := { t.stager with commit := none, commitNumber := t.stager.commitNumber + 1,
                                          lastOutcome := .applied } }).raiseBoth .commitApplied .commitApplied
    else s

end Sys2Proof.Machine
end

