-- ==== Sys2Proof/Machine/Daypart.lean ====
section
/-! DEFINITION. The daypart unit and availability requests: SCHEDULE_SET, DAYPART_FORCE, TIME_SET, SECOND_TICK,
AVAIL_SET, and the choice of the live daypart (Chapter 3, 1.5). -/

namespace Sys2Proof.Machine

/-- R44: SCHEDULE_SET. -/
def scheduleSetOwner (payload : List Byte) (s : State) : Reply :=
  match parseSchedule payload with
  | .error k => reply s .badValue [byteOf k]
  | .ok es =>
    reply { s with daypart := { s.daypart with schedule := es }, nva := s.nva.markDirty scheduleSlot } .ok
      [byteOf es.length]

/-- The SCHEDULE_SET request; R159 fits its length to its entry count. -/
def scheduleSetRequest (payload : List Byte) : Request :=
  { kind := 0x0B, lengthFits := !payload.isEmpty && decide (payload.length = 1 + 3 * byteAt payload 0),
    broadcast := false, owner := scheduleSetOwner payload }

/-- SCHEDULE_SET (R44, R159). -/
def execScheduleSet (addressing : Addressing) (payload : List Byte) (s : State) : Host.Outcome State Fault Refusal :=
  .next (s.onFrame (fun t => t.take addressing (scheduleSetRequest payload)))

/-- R45: the force state that a DAYPART_FORCE byte asks for; FFh is the release code. -/
def forceOf (n : Nat) : Option (Option Daypart) :=
  if n = 0xFF then some none else (daypartOf n).map some

/-- R45: DAYPART_FORCE. -/
def daypartForceOwner (payload : List Byte) (s : State) : Reply :=
  match forceOf (byteAt payload 0) with
  | none => reply s .badValue []
  | some f =>
    reply { s with daypart := { s.daypart with force := f } } .ok [forceByte f, byteOf s.daypart.live.val]

/-- The DAYPART_FORCE request. -/
def daypartForceRequest (payload : List Byte) : Request :=
  { kind := 0x0C, lengthFits := decide (payload.length = 1), broadcast := true, owner := daypartForceOwner payload }

/-- DAYPART_FORCE (R45, R159, R160). -/
def execDaypartForce (addressing : Addressing) (payload : List Byte) (s : State) : Host.Outcome State Fault Refusal :=
  .next (s.onFrame (fun t => t.take addressing (daypartForceRequest payload)))

/-- R42: TIME_SET. -/
def timeSetOwner (payload : List Byte) (s : State) : Reply :=
  if beAt payload 0 2 < 1440 ∧ byteAt payload 2 < 60 then
    reply { s with daypart := { s.daypart with time := some { minute := beAt payload 0 2, second := byteAt payload 2 } } }
      .ok (beBytes 2 (beAt payload 0 2) ++ [byteOf (byteAt payload 2)])
  else reply s .badValue []

/-- The TIME_SET request. -/
def timeSetRequest (payload : List Byte) : Request :=
  { kind := 0x0D, lengthFits := decide (payload.length = 3), broadcast := true, owner := timeSetOwner payload }

/-- TIME_SET (R42, R159, R160). -/
def execTimeSet (addressing : Addressing) (payload : List Byte) (s : State) : Host.Outcome State Fault Refusal :=
  .next (s.onFrame (fun t => t.take addressing (timeSetRequest payload)))

/-- R41: one second on, with the carry into the minute and the wrap at midnight. -/
def TimeOfDay.tick (t : TimeOfDay) : TimeOfDay :=
  if t.second + 1 < 60 then { t with second := t.second + 1 }
  else if t.minute + 1 < 1440 then { minute := t.minute + 1, second := 0 }
  else { minute := 0, second := 0 }

/-- SECOND_TICK (R41): it changes nothing while the time base is unset. -/
def execSecondTick (s : State) : Host.Outcome State Fault Refusal :=
  .next { s with daypart := { s.daypart with time := s.daypart.time.map TimeOfDay.tick } }

/-- R46: the entry with the greatest start minute at or below the current minute, in a schedule of rising starts. -/
def entryAt (es : List ScheduleEntry) (minute : Nat) : Option ScheduleEntry :=
  (es.filter (fun e => decide (e.start ≤ minute))).getLast?

/-- R46: the live daypart. A schedule is never empty (R43); on an empty one the default daypart stands in. -/
def DaypartUnit.choose (u : DaypartUnit) (r : Rules) : Daypart :=
  match u.force with
  | some d => d
  | none =>
    match u.time with
    | none => r.defaultDaypart
    | some t =>
      match entryAt u.schedule t.minute with
      | some e => e.daypart
      | none => (u.schedule.getLast?.map (·.daypart)).getD r.defaultDaypart

/-- R46, R48: the live daypart is fixed at a render begin, and a change of it is reported in both summaries. -/
def State.fixDaypart (s : State) : State :=
  let d := s.daypart.choose s.table.rules
  let t := { s with daypart := { s.daypart with live := d } }
  if d = s.daypart.live then t else t.raiseBoth .daypartChanged .daypartChanged

/-! ### Availability -/

/-- R9: the pairs of an AVAIL_SET payload examined in order: the first that fails, or all of them. `k` counts the
pairs before. -/
def checkPairs (t : PriceTable) (payload : List Byte) : Nat → Nat → Except (PosStatus × Nat) (List (Nat × Availability))
  | 0, _ => .ok []
  | n + 1, k =>
    match availabilityOf (byteAt payload (3 * k + 2)) with
    | none => .error (.badValue, k)
    | some a =>
      if t.has (beAt payload (3 * k) 2) then
        match checkPairs t payload n (k + 1) with
        | .ok l => .ok ((beAt payload (3 * k) 2, a) :: l)
        | .error e => .error e
      else .error (.notFound, k)

/-- R9: pairs enter the pending-availability map in request order, a later pair replacing an earlier. -/
def enterPairs (m : List (Nat × Availability)) (l : List (Nat × Availability)) : List (Nat × Availability) :=
  l.foldl (fun m e => Sparse.put m e.1 e.2) m

/-- R9: AVAIL_SET, taken whole or not at all. -/
def availSetOwner (payload : List Byte) (s : State) : Reply :=
  match checkPairs s.table payload (payload.length / 3) 0 with
  | .error e => reply s e.1 [byteOf e.2]
  | .ok l => reply { s with table := { s.table with pendingAvail := enterPairs s.table.pendingAvail l } } .ok []

/-- The AVAIL_SET request. -/
def availSetRequest (payload : List Byte) : Request :=
  { kind := 0x0A,
    lengthFits := decide (3 ≤ payload.length) && decide (payload.length ≤ 48) && decide (payload.length % 3 = 0),
    broadcast := true, owner := availSetOwner payload }

/-- AVAIL_SET (R9, R159, R160). -/
def execAvailSet (addressing : Addressing) (payload : List Byte) (s : State) : Host.Outcome State Fault Refusal :=
  .next (s.onFrame (fun t => t.take addressing (availSetRequest payload)))

/-- R8: at a render begin every pending entry gives its state to its item and the map is emptied. -/
def State.applyPendingAvail (s : State) : State :=
  { s with table := { s.table.pendingAvail.foldl PriceTable.applyAvail s.table with pendingAvail := [] } }

end Sys2Proof.Machine
end

