-- ==== Sys2Proof/Machine/Panel.lean ====
section
/-! DEFINITION. The panel and backlight unit: PANEL_SET, CURVE_SET, THERMAL_SET, BACKLIGHT_RESTART, the sensor scan and
SENSOR_CONVERSION_COMPLETION, and the unit's part of a frame start (Chapter 10). -/

namespace Sys2Proof.Machine

/-- Write a panel record. -/
def PanelUnit.setPanel (u : PanelUnit) (p : Fin 4) (r : PanelRecord) : PanelUnit := { u with panels := u.panels.set p r }

/-- Write a panel record of the part. -/
def State.setPanel (s : State) (p : Fin 4) (r : PanelRecord) : State := { s with panel := s.panel.setPanel p r }

/-! ### Commands -/

/-- R145: PANEL_SET. -/
def panelSetOwner (panel enable resolution : Byte) (s : State) : CommandResult :=
  match panelOf panel, switchOf enable.toNat, resolutionOf resolution.toNat with
  | some p, some e, some r =>
    { state := s.setPanel p { s.panel.panels[p] with pendingSettings := some { enable := e, resolution := r } },
      status := .ok, answer := [] }
  | _, _, _ => refuse s .badValue

/-- PANEL_SET taken. -/
def takePanelSet (go : BitVec 32) (panel enable resolution : Byte) (s : State) : State :=
  s.takeCommand 0x30 go (panelSetOwner panel enable resolution)

/-- PANEL_SET (R145, R167). -/
def execPanelSet (go : BitVec 32) (panel enable resolution : Byte) (s : State) : Host.Outcome State Fault Refusal :=
  .next (takePanelSet go panel enable resolution (s.writeRecord [(0, [0x30]), (4, [panel, enable, resolution])]))

/-- R149: the curve of a CURVE_SET. -/
def CurveForm.curve (f : CurveForm) : Curve :=
  { p0 := ⟨f.a[0].toNat, f.d[0].toNat⟩, p1 := ⟨f.a[1].toNat, f.d[1].toNat⟩, p2 := ⟨f.a[2].toNat, f.d[2].toNat⟩,
    p3 := ⟨f.a[3].toNat, f.d[3].toNat⟩ }

/-- R149: a strictly increasing within 0..1023, d within 0..1000. -/
def Curve.valid (c : Curve) : Bool :=
  decide (c.p0.a < c.p1.a) && decide (c.p1.a < c.p2.a) && decide (c.p2.a < c.p3.a) && decide (c.p3.a ≤ 1023)
    && decide (c.p0.d ≤ 1000) && decide (c.p1.d ≤ 1000) && decide (c.p2.d ≤ 1000) && decide (c.p3.d ≤ 1000)

/-- R149: CURVE_SET. -/
def curveSetOwner (f : CurveForm) (s : State) : CommandResult :=
  match panelOf f.panel with
  | none => refuse s .badValue
  | some p =>
    if f.curve.valid then
      { state := s.setPanel p { s.panel.panels[p] with pendingCurve := some f.curve }, status := .ok, answer := [] }
    else refuse s .badValue

/-- CURVE_SET taken. -/
def takeCurveSet (go : BitVec 32) (f : CurveForm) (s : State) : State := s.takeCommand 0x31 go (curveSetOwner f)

/-- CURVE_SET (R149, R167). -/
def execCurveSet (go : BitVec 32) (f : CurveForm) (s : State) : Host.Outcome State Fault Refusal :=
  .next (takeCurveSet go f (s.writeRecord ((0, [0x31]) :: f.fields)))

/-- R152: the ranges of thermal settings. -/
def ThermalSettings.valid (t : ThermalSettings) : Bool :=
  decide (1 ≤ t.restore) && decide (t.restore < t.warn) && decide (t.warn < t.shutdown) && decide (t.shutdown ≤ 1022)
    && decide (100 ≤ t.derateCap) && decide (t.derateCap ≤ 1000)

/-- R152: THERMAL_SET. -/
def thermalSetOwner (f : ThermalForm) (s : State) : CommandResult :=
  match panelOf f.panel, restartOf f.restart.toNat with
  | some p, some m =>
    let t : ThermalSettings := { restore := f.restore.toNat, warn := f.warn.toNat, shutdown := f.shutdown.toNat,
                                 derateCap := f.cap.toNat, restart := m }
    if t.valid then
      { state := s.setPanel p { s.panel.panels[p] with pendingThermal := some t }, status := .ok, answer := [] }
    else refuse s .badValue
  | _, _ => refuse s .badValue

/-- THERMAL_SET taken. -/
def takeThermalSet (go : BitVec 32) (f : ThermalForm) (s : State) : State := s.takeCommand 0x32 go (thermalSetOwner f)

/-- THERMAL_SET (R152, R167). -/
def execThermalSet (go : BitVec 32) (f : ThermalForm) (s : State) : Host.Outcome State Fault Refusal :=
  .next (takeThermalSet go f (s.writeRecord ((0, [0x32]) :: f.fields)))

/-- R155: BACKLIGHT_RESTART. -/
def backlightRestartOwner (panel : Byte) (s : State) : CommandResult :=
  match panelOf panel with
  | none => refuse s .badValue
  | some p =>
    match s.panel.panels[p].thermalState with
    | .cooledWait =>
      { state := (s.setPanel p { s.panel.panels[p] with thermalState := .normal }).raiseContent .panelThermal,
        status := .ok, answer := [] }
    | .hotOff => refuse s .stillHot
    | .normal => refuse s .notWaiting
    | .warm => refuse s .notWaiting

/-- BACKLIGHT_RESTART taken. -/
def takeBacklightRestart (go : BitVec 32) (panel : Byte) (s : State) : State :=
  s.takeCommand 0x33 go (backlightRestartOwner panel)

/-- BACKLIGHT_RESTART (R155, R167). -/
def execBacklightRestart (go : BitVec 32) (panel : Byte) (s : State) : Host.Outcome State Fault Refusal :=
  .next (takeBacklightRestart go panel (s.writeRecord [(0, [0x33]), (4, [panel])]))

/-! ### Cap, target and slew -/

/-- R151: the cap of a panel. -/
def PanelRecord.cap (r : PanelRecord) : Nat :=
  match r.thermalState with
  | .normal => if r.sensorFault then r.thermal.derateCap else 1000
  | .warm => r.thermal.derateCap
  | .hotOff => 0
  | .cooledWait => 0

/-- R151: an event that lowers the cap below the applied duty brings the duty to the cap at once. -/
def PanelRecord.dropToCap (r : PanelRecord) : PanelRecord := if r.cap < r.applied then { r with applied := r.cap } else r

/-- R150: the interpolation between two points. -/
def segmentDuty (p q : CurvePoint) (r : Nat) : Nat :=
  (p.d * (q.a - r) + q.d * (r - p.a) + (q.a - p.a) / 2) / (q.a - p.a)

/-- R150: the target duty of an ambient code on a curve. -/
def Curve.target (c : Curve) (r : Nat) : Nat :=
  if r ≤ c.p0.a then c.p0.d
  else if c.p3.a ≤ r then c.p3.d
  else if r < c.p1.a then segmentDuty c.p0 c.p1 r
  else if r < c.p2.a then segmentDuty c.p1 c.p2 r
  else segmentDuty c.p2 c.p3 r

/-- R151: the move of an applied duty toward the lesser of target and cap, by at most 20, or down to the cap. -/
def moveDuty (applied target cap : Nat) : Nat :=
  if cap < applied then cap
  else
    let g := min target cap
    if applied ≤ g then (if g - applied ≤ 20 then g else applied + 20)
    else (if applied - g ≤ 20 then g else applied - 20)

/-- R149 to R151: a frame start at one panel: the pending curve is installed, then the target is computed and the
duty moves if the panel is enabled. -/
def PanelRecord.frameStart (r : PanelRecord) : PanelRecord :=
  let c := r.pendingCurve.getD r.curve
  let t := { r with curve := c, pendingCurve := none }
  if r.installed.enable then
    { t with target := c.target r.lastAmbient, applied := moveDuty r.applied (c.target r.lastAmbient) r.cap }
  else t

/-! ### The sensor scan -/

/-- The panel of a channel. -/
def channelPanel (c : Channel) : Fin 4 := ⟨c.val / 2, by omega⟩

/-- Whether a channel is a thermistor input. -/
def channelThermistor (c : Channel) : Bool := decide (c.val % 2 = 1)

/-- R147: a channel is in the scan while its panel's installed enable is yes. -/
def PanelUnit.inScan (u : PanelUnit) (c : Channel) : Bool := u.panels[channelPanel c].installed.enable

/-- The channels that follow the scan position in cyclic order, the position itself last. -/
def channelsAfter (c : Channel) : List Channel := [c + 1, c + 2, c + 3, c + 4, c + 5, c + 6, c + 7, c]

/-- R147: a frame start begins a conversion of the first channel in the scan after the position, with no conversion in
flight. -/
def PanelUnit.beginConversion (u : PanelUnit) : PanelUnit :=
  match u.conversion with
  | some _ => u
  | none =>
    match (channelsAfter u.scanPosition).find? u.inScan with
    | some c => { u with scanPosition := c, conversion := some { channel := c, discard := false } }
    | none => u

/-- Do something to each panel record, panel 0 first. -/
def PanelUnit.eachPanel (u : PanelUnit) (f : PanelRecord → PanelRecord) : PanelUnit :=
  { u with panels := #v[f u.panels[0], f u.panels[1], f u.panels[2], f u.panels[3]] }

/-- R147, R149 to R151: the unit's own part of a frame start. -/
def PanelUnit.frameStart (u : PanelUnit) : PanelUnit := (u.eachPanel PanelRecord.frameStart).beginConversion

/-- R146: a disable marks a conversion of the panel's channels in flight for discard. -/
def PanelUnit.discardOf (u : PanelUnit) (p : Fin 4) : PanelUnit :=
  match u.conversion with
  | some c => if channelPanel c.channel = p then { u with conversion := some { c with discard := true } } else u
  | none => u

/-- R146, R121: the pending settings of a panel are installed; a disable zeroes its duties. -/
def PanelRecord.install (r : PanelRecord) (n : PanelSettings) : PanelRecord :=
  if r.installed.enable && !n.enable then
    { r with installed := n, pendingSettings := none, target := 0, applied := 0 }
  else { r with installed := n, pendingSettings := none }

/-! ### Conversions -/

/-- R153: the thermal state after a valid code. -/
def thermalNext (t : ThermalSettings) (st : ThermalState) (c : Nat) : ThermalState :=
  match st with
  | .normal => if t.shutdown ≤ c then .hotOff else if t.warn ≤ c then .warm else .normal
  | .warm => if t.shutdown ≤ c then .hotOff else if c ≤ t.restore then .normal else .warm
  | .hotOff => if c ≤ t.restore then (if t.restart = .auto then .normal else .cooledWait) else .hotOff
  | .cooledWait => if t.shutdown ≤ c then .hotOff else .cooledWait

/-- R154: a code of 0 or 1023 is a sensor fault. -/
def faultCode (c : Nat) : Bool := decide (c = 0) || decide (c = 1023)

/-- R152: pending thermal settings are installed; a smaller derate cap lowers the duty at once. -/
def PanelRecord.installThermal (r : PanelRecord) : PanelRecord :=
  match r.pendingThermal with
  | some t => ({ r with thermal := t, pendingThermal := none }).dropToCap
  | none => r

/-- R154: the sensor-fault test of a thermistor code. -/
def PanelRecord.testFault (r : PanelRecord) (c : Nat) : PanelRecord :=
  ({ r with lastThermistor := c, sensorFault := faultCode c }).dropToCap

/-- R153, R154: the thermal state moves by a valid code only. -/
def PanelRecord.testThermal (r : PanelRecord) (c : Nat) : PanelRecord :=
  if faultCode c then r else ({ r with thermalState := thermalNext r.thermal r.thermalState c }).dropToCap

/-- R156: an event is set when a condition holds. -/
def State.raiseIf (s : State) (cond : Bool) (f : ContentFlag) : State := if cond then s.raiseContent f else s

/-- R148, R152 to R154: a used conversion of a thermistor channel. -/
def State.thermistorRead (s : State) (p : Fin 4) (c : Nat) : State :=
  let r0 := s.panel.panels[p].installThermal
  let r1 := r0.testFault c
  let r2 := r1.testThermal c
  ((s.setPanel p r2).raiseIf (!decide (r0.sensorFault = r1.sensorFault)) .sensorFault).raiseIf
    (!decide (r1.thermalState = r2.thermalState)) .panelThermal

/-- SENSOR_CONVERSION_COMPLETION (R148). With no conversion in flight the event does not occur. -/
def execSensorConversionCompletion (code : BitVec 10) (s : State) : Host.Outcome State Fault Refusal :=
  .next (match s.panel.conversion with
    | none => s
    | some c =>
      let t := { s with panel := { s.panel with conversion := none } }
      if c.discard then t
      else if channelThermistor c.channel then t.thermistorRead (channelPanel c.channel) code.toNat
      else t.setPanel (channelPanel c.channel) { t.panel.panels[channelPanel c.channel] with lastAmbient := code.toNat })

end Sys2Proof.Machine
end

