-- ==== Sys2Proof/Machine/Scenes.lean ====
section
/-! DEFINITION. Scenes and styles: SCENE_BEGIN, LAYER_ADD, SCENE_SUBMIT, SCENE_DISCARD, STYLE_SET, and the exchange and
installation at render begin (Chapters 5 and 7). -/

namespace Sys2Proof.Machine

/-- Write the scenes of a panel. -/
def State.setScenes (s : State) (p : Fin 4) (v : PanelScenes) : State :=
  { s with scenes := { s.scenes with panels := s.scenes.panels.set p v } }

/-- Whether a layer is a PRICE layer. -/
def Layer.isPrice (l : Layer) : Bool :=
  match l.content with
  | .price _ => true
  | .photo _ => false
  | .fill _ => false

/-- The number of PRICE layers of a scene (R99). -/
def Scene.priceCount (sc : Scene) : Nat := (sc.layers.filter Layer.isPrice).length

/-- R102: the dim level when none is given. -/
def standardDim : Byte := 96

/-- R102: SCENE_BEGIN. A dim-given mark other than 0 and 1 is outside its coding (12.4). -/
def sceneBeginOwner (f : SceneForm) (s : State) : CommandResult :=
  match panelOf f.panel, switchOf f.dimGiven.toNat with
  | some p, some given =>
    let v := s.scenes.panels[p]
    let t := { s with assets := s.assets.releaseScene v.building }
    { state := t.setScenes p { v with building := some { background := { red := f.red, green := f.green, blue := f.blue },
                                                         dim := if given then f.dim else standardDim, layers := [] } },
      status := .ok, answer := [] }
  | _, _ => refuse s .badValue

/-- SCENE_BEGIN taken. -/
def takeSceneBegin (go : BitVec 32) (f : SceneForm) (s : State) : State := s.takeCommand 0x10 go (sceneBeginOwner f)

/-- SCENE_BEGIN (R102, R167). -/
def execSceneBegin (go : BitVec 32) (f : SceneForm) (s : State) : Host.Outcome State Fault Refusal :=
  .next (takeSceneBegin go f (s.writeRecord ((0, [0x10]) :: f.fields)))

/-- R103, check 2: coordinates, sizes and daypart mask in range. -/
def LayerForm.fieldsValid (f : LayerForm) : Bool :=
  decide (f.x.toNat ≤ 4095) && decide (f.y.toNat ≤ 4095) && decide (1 ≤ f.w.toNat) && decide (f.w.toNat ≤ 4096)
    && decide (1 ≤ f.h.toNat) && decide (f.h.toNat ≤ 4096) && decide (1 ≤ f.mask.toNat) && decide (f.mask.toNat ≤ 15)

/-- R103, check 3: what the kind of a layer carries. -/
def LayerForm.content (f : LayerForm) : Option LayerContent :=
  match f.kind.toNat with
  | 1 => (handleOf f.handle.toNat).map .photo
  | 2 => if h : f.style.toNat < 16 then some (.price ⟨f.style.toNat, h⟩) else none
  | 3 => some (.fill { red := f.red, green := f.green, blue := f.blue })
  | _ => none

/-- R103, check 3: the item code, absent when sent as 0. -/
def LayerForm.item (f : LayerForm) : Option Nat := if f.code.toNat = 0 then none else some f.code.toNat

/-- R103, checks 2 and 3: the layer a LAYER_ADD describes. -/
def LayerForm.layer (f : LayerForm) : Option Layer :=
  match f.content, soldOutOf f.soldOut.toNat with
  | some c, some rule =>
    let l : Layer := { x := f.x.toNat, y := f.y.toNat, w := f.w.toNat, h := f.h.toNat, alpha := f.alpha,
                       mask := f.mask.setWidth 4, soldOut := rule, code := f.item, content := c }
    if f.fieldsValid && f.item.all validCode && (f.item.isSome || (!l.isPrice && decide (rule = .always))) then some l
    else none
  | _, _ => none

/-- R103, checks 5 and 6: a PHOTO layer's asset is READY, ARGB8888 or RGB565, and at least as large as the layer. -/
def photoStatus (m : AssetMap) (l : Layer) : Option ContentStatus :=
  match l.content with
  | .price _ => none
  | .fill _ => none
  | .photo h =>
    match m.entry h with
    | .ready g _ _ => if g.format ≠ .a8 ∧ l.w ≤ g.width ∧ l.h ≤ g.height then none else some .badValue
    | .empty => some .notReady
    | .loading _ _ => some .notReady
    | .retiring _ _ _ => some .notReady

/-- R99: the most layers of a scene. -/
def maxLayers : Nat := 64

/-- R99: the most PRICE layers of a scene. -/
def maxPriceLayers : Nat := 32

/-- R104: a layer is appended at the top of the building scene. -/
def Scene.add (sc : Scene) (l : Layer) : Scene := { sc with layers := sc.layers ++ [l] }

/-- R104: the taken LAYER_ADD. -/
def addLayer (s : State) (p : Fin 4) (sc : Scene) (l : Layer) : CommandResult :=
  let v := s.scenes.panels[p]
  let t := { s with assets := s.assets.acquireFont l.asset }
  { state := t.setScenes p { v with building := some (sc.add l) }, status := .ok,
    answer := [byteOf sc.layers.length, byteOf (sc.layers.length + 1), byteOf (sc.add l).priceCount] }

/-- R103: LAYER_ADD, its checks in order. -/
def layerAddOwner (f : LayerForm) (s : State) : CommandResult :=
  match panelOf f.panel, f.layer with
  | some p, some l =>
    match s.scenes.panels[p].building with
    | none => refuse s .noScene
    | some sc =>
      match photoStatus s.assets l with
      | some st => refuse s st
      | none =>
        if maxLayers ≤ sc.layers.length then refuse s .sceneFull
        else if l.isPrice && decide (maxPriceLayers ≤ sc.priceCount) then refuse s .priceLayersFull
        else addLayer s p sc l
  | _, _ => refuse s .badValue

/-- LAYER_ADD taken. -/
def takeLayerAdd (go : BitVec 32) (f : LayerForm) (s : State) : State := s.takeCommand 0x11 go (layerAddOwner f)

/-- LAYER_ADD (R103, R104, R167). -/
def execLayerAdd (go : BitVec 32) (f : LayerForm) (s : State) : Host.Outcome State Fault Refusal :=
  .next (takeLayerAdd go f (s.writeRecord ((0, [0x11]) :: f.fields)))

/-- R105: SCENE_SUBMIT. -/
def sceneSubmitOwner (panel : Byte) (s : State) : CommandResult :=
  match panelOf panel with
  | none => refuse s .badValue
  | some p =>
    let v := s.scenes.panels[p]
    match v.building with
    | none => refuse s .noScene
    | some sc =>
      let t := { s with assets := s.assets.releaseScene v.pending }
      { state := t.setScenes p { v with building := none, pending := some sc }, status := .ok,
        answer := [byteOf sc.layers.length, byteOf sc.priceCount] }

/-- SCENE_SUBMIT taken. -/
def takeSceneSubmit (go : BitVec 32) (panel : Byte) (s : State) : State := s.takeCommand 0x12 go (sceneSubmitOwner panel)

/-- SCENE_SUBMIT (R105, R167). -/
def execSceneSubmit (go : BitVec 32) (panel : Byte) (s : State) : Host.Outcome State Fault Refusal :=
  .next (takeSceneSubmit go panel (s.writeRecord [(0, [0x12]), (4, [panel])]))

/-- R106, R110: the building scene of a panel is discarded. -/
def State.discardBuilding (s : State) (p : Fin 4) : State :=
  let v := s.scenes.panels[p]
  ({ s with assets := s.assets.releaseScene v.building }).setScenes p { v with building := none }

/-- R106: SCENE_DISCARD. -/
def sceneDiscardOwner (panel : Byte) (s : State) : CommandResult :=
  match panelOf panel with
  | none => refuse s .badValue
  | some p =>
    match s.scenes.panels[p].building with
    | none => refuse s .noScene
    | some _ => { state := s.discardBuilding p, status := .ok, answer := [] }

/-- SCENE_DISCARD taken. -/
def takeSceneDiscard (go : BitVec 32) (panel : Byte) (s : State) : State :=
  s.takeCommand 0x13 go (sceneDiscardOwner panel)

/-- SCENE_DISCARD (R106, R167). -/
def execSceneDiscard (go : BitVec 32) (panel : Byte) (s : State) : Host.Outcome State Fault Refusal :=
  .next (takeSceneDiscard go panel (s.writeRecord [(0, [0x13]), (4, [panel])]))

/-- R108: the exchange of one panel at a render begin. -/
def State.exchangeScene (s : State) (p : Fin 4) : State :=
  let v := s.scenes.panels[p]
  match v.pending with
  | none => s
  | some sc =>
    ({ s with assets := s.assets.releaseScene v.active }).setScenes p { v with pending := none, active := some sc }

/-- R108: the exchange of every panel. -/
def State.exchangeScenes (s : State) : State := (List.finRange 4).foldl State.exchangeScene s

/-! ### Styles -/

/-- R68, checks 2 and 3, and the record they describe. The font is checked after them. -/
def StyleForm.style (f : StyleForm) : Option Style :=
  match symbolOf f.symbol.toNat, markOf f.mark.toNat, groupingOf f.grouping.toNat, minorOf f.minor.toNat,
      alignmentOf f.alignment.toNat with
  | some sy, some ma, some gr, some mi, some al =>
    let differs := match gr, ma with
      | .comma, .comma => false
      | .point, .point => false
      | _, _ => true
    if decide (4 ≤ f.cw.toNat) && decide (f.cw.toNat ≤ 128) && decide (8 ≤ f.ch.toNat) && decide (f.ch.toNat ≤ 256)
        && differs then
      some { font := handleOf f.font.toNat, cw := f.cw.toNat, ch := f.ch.toNat,
             colour := { red := f.red, green := f.green, blue := f.blue }, alpha := f.alpha, symbol := sy, mark := ma,
             grouping := gr, minor := mi, alignment := al }
    else none
  | _, _, _, _, _ => none

/-- R68, checks 4 and 5: a named font is READY, and is A8 of 14 cells by one. -/
def fontStatus (m : AssetMap) (st : Style) : Option ContentStatus :=
  match st.font with
  | none => none
  | some h =>
    match m.entry h with
    | .ready g _ _ => if g.format = .a8 ∧ g.width = 14 * st.cw ∧ g.height = st.ch then none else some .badValue
    | .empty => some .notReady
    | .loading _ _ => some .notReady
    | .retiring _ _ _ => some .notReady

/-- R68, R69: a taken STYLE_SET writes the pending copy and moves the font references. -/
def State.setPendingStyle (s : State) (i : Fin 16) (st : Style) : State :=
  let v := s.former.styles[i]
  { s with former := { s.former with styles := s.former.styles.set i { v with pending := some st } },
           assets := (s.assets.acquireFont st.font).releaseFont (v.pending.bind (·.font)) }

/-- R68: STYLE_SET, its checks in order. -/
def styleSetOwner (f : StyleForm) (s : State) : CommandResult :=
  if h : f.index.toNat < 16 then
    match f.style with
    | none => refuse s .badValue
    | some st =>
      match fontStatus s.assets st with
      | some e => refuse s e
      | none => { state := s.setPendingStyle ⟨f.index.toNat, h⟩ st, status := .ok, answer := [] }
  else refuse s .badValue

/-- STYLE_SET taken. -/
def takeStyleSet (go : BitVec 32) (f : StyleForm) (s : State) : State := s.takeCommand 0x20 go (styleSetOwner f)

/-- STYLE_SET (R68, R69, R167). -/
def execStyleSet (go : BitVec 32) (f : StyleForm) (s : State) : Host.Outcome State Fault Refusal :=
  .next (takeStyleSet go f (s.writeRecord ((0, [0x20]) :: f.fields)))

/-- R70: a pending copy is installed at a render begin; its reference passes to the current record. -/
def State.installStyle (s : State) (i : Fin 16) : State :=
  let v := s.former.styles[i]
  match v.pending with
  | none => s
  | some st =>
    { s with former := { s.former with styles := s.former.styles.set i { current := st, pending := none } },
             assets := s.assets.releaseFont v.current.font }

/-- R70: every style with a pending copy installs it. -/
def State.installStyles (s : State) : State := (List.finRange 16).foldl State.installStyle s

end Sys2Proof.Machine
end

