-- ==== Sys2Proof/Machine/Frame.lean ====
section
/-! DEFINITION. The frame engine: FRAME_START with its exchange, render begin and late frame, the compose stage
(COMPOSE_PANEL_FILL, COMPOSE_LAYER, COMPOSE_STAGE_END) and FRAME_RATE_SET (Chapter 8, 7.7). -/

namespace Sys2Proof.Machine

/-! ### Engine fields -/

/-- Write the job state. -/
def State.setJob (s : State) (j : Job) : State := { s with engine := { s.engine with job := j } }

/-- Whether a panel's installed enable is yes. -/
def State.enabled (s : State) (p : Fin 4) : Bool := s.panel.panels[p].installed.enable

/-- The panel that a panel's installed resolution clips drawings to. -/
def State.clip (s : State) (p : Fin 4) : Clip := s.panel.panels[p].installed.resolution.clip

/-- The front buffer of a panel: 2p or 2p + 1. -/
def FrameEngine.frontIndex (e : FrameEngine) (p : Fin 4) : Fin 8 :=
  ⟨2 * p.val + (if e.outputs[p].frontOdd then 1 else 0), by split <;> omega⟩

/-- The back buffer of a panel: the other one. -/
def FrameEngine.backIndex (e : FrameEngine) (p : Fin 4) : Fin 8 :=
  ⟨2 * p.val + (if e.outputs[p].frontOdd then 0 else 1), by split <;> omega⟩

/-- Change the back buffer of a panel. -/
def State.onBack (s : State) (p : Fin 4) (f : FrameBuffer → FrameBuffer) : State :=
  { s with engine := { s.engine with
      buffers := s.engine.buffers.set (s.engine.backIndex p) (f s.engine.buffers[s.engine.backIndex p]) } }

/-- R118, R121: the pixel a panel's output drives: of its front buffer while it is FRONT, black while it is BLANK, and
none outside its installed resolution. -/
def State.outputPixel (s : State) (p : Fin 4) (x y : Nat) : Option Rgb :=
  if x < (s.clip p).width ∧ y < (s.clip p).height then
    some (if s.engine.outputs[p].showing then s.engine.buffers[s.engine.frontIndex p].read x y else Rgb.black)
  else none

/-! ### Frame start -/

/-- R118: the exchange of one output; a disabled panel keeps its buffers and its output. -/
def PanelOutput.exchange (o : PanelOutput) (enabled : Bool) : PanelOutput :=
  if enabled then { frontOdd := !o.frontOdd, showing := true } else o

/-- R118: the exchange of every enabled panel. -/
def State.exchange (s : State) : State :=
  let o := s.engine.outputs
  { s with engine := { s.engine with
      outputs := #v[o[0].exchange (s.enabled 0), o[1].exchange (s.enabled 1), o[2].exchange (s.enabled 2),
                    o[3].exchange (s.enabled 3)] } }

/-- R121: what an installation blanks: a panel that is disabled, or whose resolution changes while enabled. -/
def PanelSettings.blanks (old new : PanelSettings) : Bool :=
  old.enable && (!new.enable || !decide (old.resolution = new.resolution))

/-- R121: the panel output is BLANK. -/
def FrameEngine.blank (e : FrameEngine) (p : Fin 4) : FrameEngine :=
  { e with outputs := e.outputs.set p { e.outputs[p] with showing := false } }

/-- R121, R146: the pending settings of one panel are installed. -/
def State.installSettings (s : State) (p : Fin 4) : State :=
  let r := s.panel.panels[p]
  match r.pendingSettings with
  | none => s
  | some n =>
    let u := s.panel.setPanel p (r.install n)
    { s with panel := if r.installed.enable && !n.enable then u.discardOf p else u,
             engine := if r.installed.blanks n then s.engine.blank p else s.engine }

/-- R121: the pending settings of every panel are installed. -/
def State.installAllSettings (s : State) : State := (List.finRange 4).foldl State.installSettings s

/-- R122: the first enabled panel at or after a number, or the end of the compose stage. -/
def State.panelFrom (s : State) (k : Nat) : ComposeAt :=
  match (List.finRange 4).find? (fun p => decide (k ≤ p.val) && s.enabled p) with
  | some p => .fill p
  | none => .finished

/-- R121: the shown list is emptied and the job is RUNNING in stage COMPOSE. -/
def State.startJob (s : State) : State :=
  { s with engine := { s.engine with shown := [], job := .compose (s.panelFrom 0) } }

/-- R121: the parts of a render begin. They touch different state and stand in no order (8.3, R10, R47). -/
def State.renderBegin (s : State) : State :=
  s.applyCommit.applyPendingAvail.fixDaypart.installStyles.exchangeScenes.installAllSettings.startJob

/-- R119: the late-frame count stays at 65535. -/
def countLate (n : Nat) : Nat := if n < 65535 then n + 1 else n

/-- R119: a late frame. -/
def State.lateFrame (s : State) : State :=
  ({ s with engine := { s.engine with late := countLate s.engine.late } }).raiseContent .frameLate

/-- R117 to R119: the frame engine's part of a frame start. -/
def State.engineStart (s : State) : State :=
  if s.nva.loading then s
  else match s.engine.job with
    | .idle => s.exchange.renderBegin
    | .compose _ => s.lateFrame
    | .check _ _ => s.lateFrame
    | .patch _ => s.lateFrame

/-- R147, R149 to R151: the panel unit's part of a frame start. -/
def State.panelStart (s : State) : State := { s with panel := s.panel.frameStart }

/-- R116: the first period at the rate last set begins. -/
def State.startPeriod (s : State) : State := { s with engine := { s.engine with rate := s.engine.nextRate } }

/-- FRAME_START (R115 to R121, R146, R147, R149 to R151). R115 sets no order between the two parts. -/
def execFrameStart (panelFirst : Bool) (s : State) : Host.Outcome State Fault Refusal :=
  .next (if panelFirst then s.startPeriod.panelStart.engineStart else s.startPeriod.engineStart.panelStart)

/-! ### Compose stage: the fill -/

/-- R122: what follows layer `k − 1` of a panel: its layer `k`, or the next enabled panel. -/
def State.layerFrom (s : State) (p : Fin 4) (k : Nat) : ComposeAt :=
  match s.scenes.panels[p].active with
  | some sc => if k < sc.layers.length then .layer p k else s.panelFrom (p.val + 1)
  | none => s.panelFrom (p.val + 1)

/-- R123: the background of a panel, black with no active scene. -/
def State.background (s : State) (p : Fin 4) : Rgb :=
  match s.scenes.panels[p].active with
  | some sc => sc.background
  | none => Rgb.black

/-- R123: the fill of a panel. -/
def State.fillPanel (s : State) (p : Fin 4) : State :=
  s.onBack p (fun b => b.fill (s.clip p).width (s.clip p).height (s.background p))

/-- COMPOSE_PANEL_FILL (R122, R123). It occurs when the traversal stands at a panel's fill. -/
def execComposePanelFill (s : State) : Host.Outcome State Fault Refusal :=
  .next (match s.engine.job with
    | .compose (.fill p) => (s.fillPanel p).setJob (.compose (s.layerFrom p 0))
    | .compose (.layer _ _) => s
    | .compose .finished => s
    | .idle => s
    | .check _ _ => s
    | .patch _ => s)

/-! ### Compose stage: visibility -/

/-- The outcome of the visibility test (R111). -/
inductive Visibility where
  | hidden
  | drawn (dimmed : Bool)
  | recordFault (dimmed : Bool)
deriving DecidableEq, Repr

/-- R112: whether the rule passes an availability, and then whether it marks the layer dimmed. -/
def SoldOutRule.passes (r : SoldOutRule) (a : Availability) : Option Bool :=
  match r, a with
  | .always, _ => some false
  | .hide, .available => some false
  | .hide, .soldOut => none
  | .dim, .available => some false
  | .dim, .soldOut => some true
  | .only, .available => none
  | .only, .soldOut => some false

/-- R111, steps 5 to 7, and R113: the outcome for the item as the read of its body leaves it. -/
def bodyVisibility (l : Layer) (d : Daypart) (dimmed : Bool) (it : Option Item) : Visibility :=
  match it with
  | none => .hidden
  | some it =>
    match it.health with
    | .corrupt => if l.isPrice then .recordFault dimmed else .hidden
    | .good => if it.body.price[d].isSome then .drawn dimmed else .hidden

/-- R111 to R113: the visibility test, with the read of the body that step 5 makes. -/
def State.visibility (s : State) (l : Layer) : State × Visibility :=
  if !l.mask.getLsbD s.daypart.live.val then (s, .hidden)
  else match l.code with
    | none => (s, .drawn false)
    | some code =>
      match s.table.indexOf code with
      | none => (s, .hidden)
      | some i =>
        match s.table.item i with
        | none => (s, .hidden)
        | some it =>
          match l.soldOut.passes it.avail with
          | none => (s, .hidden)
          | some dimmed =>
            let t := s.readBody i
            (t, bodyVisibility l s.daypart.live dimmed (t.table.item i))

/-! ### Compose stage: drawing -/

/-- R124, R125: the source colour and effective alpha of a pixel of a PHOTO layer. -/
def photoSource (m : AssetMap) (g : Geometry) (pages : List Nat) (l : Layer) (dimmed : Bool) (dim : Byte) (c r : Nat) :
    Rgb × Nat :=
  let px := m.pixel g pages c r
  (dimIf dimmed dim px.colour,
    match g.format with
    | .argb8888 => scale255 px.alpha.toNat l.alpha.toNat
    | .rgb565 => l.alpha.toNat
    | .a8 => scale255 px.alpha.toNat l.alpha.toNat)

/-- R124, R125: a PHOTO layer is drawn. -/
def drawPhoto (m : AssetMap) (clip : Clip) (l : Layer) (h : Handle) (dimmed : Bool) (dim : Byte) (b : FrameBuffer) :
    FrameBuffer :=
  match (m.entry h).drawable with
  | none => b
  | some (g, pages) => b.blendRect clip l.x l.y l.w l.h (photoSource m g pages l dimmed dim)

/-- R124, R125: a FILL layer is drawn. -/
def drawFill (clip : Clip) (l : Layer) (colour : Rgb) (dimmed : Bool) (dim : Byte) (b : FrameBuffer) : FrameBuffer :=
  b.blendRect clip l.x l.y l.w l.h (fun _ _ => (dimIf dimmed dim colour, l.alpha.toNat))

/-- What R127 decides for a tile. -/
structure PriceDecision where
  price : Option Nat
  clamped : Bool
  request : TileRequest
deriving DecidableEq, Repr

/-- R127, row 1: a record fault. -/
def faultDecision : PriceDecision := { price := none, clamped := false, request := .dashes .recordFault }

/-- R127, rows 2 to 4, for a computed price. -/
def State.priceDecision (s : State) (code q : Nat) (clamped : Bool) : PriceDecision :=
  { price := some q, clamped := clamped,
    request := if s.checker.latch then .dashes .checkPathFail
      else if (s.suspension code).isSome then .dashes .suspended
      else .price q }

/-- R127, R128: the tile of a layer is drawn and its shown record appended. `glyphs` is the string an upset has made of
the tile's string, if one has (9.5; log entry 37). -/
def State.drawTile (s : State) (p : Fin 4) (k : Nat) (l : Layer) (code : Nat) (style : Fin 16) (dimmed : Bool) (dim : Byte)
    (d : PriceDecision) (glyphs : Option (List Nat)) : State :=
  let st := s.former.styles[style].current
  let f := formTileUpset st s.table.rules.twoDigits { x := l.x, y := l.y, w := l.w, h := l.h } d.request glyphs
  let t := if d.clamped then s.raiseBoth .priceClamped .priceClamped else s
  let u := if f.overflow then t.raiseContent .priceOverflow else t
  let v := u.onBack p (drawGlyphs s.assets st (s.clip p) (dimIf dimmed dim st.colour) l.alpha f.glyphs f.box.x f.box.y)
  let r : ShownRecord := { panel := p, layer := k, code := code, daypart := s.daypart.live, price := d.price,
                           clamped := d.clamped, glyphs := f.glyphs, reason := f.reason, box := f.box, mark := none }
  { v with engine := { v.engine with shown := v.engine.shown ++ [r] } }

/-- R127: a PRICE layer that its visibility test leaves drawn. Its item is in the table and its price is present. An
upset of the datapath may give another price and clamped cause than the stages of R14 to R18 (9.5; log entry 37). -/
def State.drawPrice (s : State) (p : Fin 4) (k : Nat) (l : Layer) (style : Fin 16) (dimmed : Bool) (dim : Byte)
    (u : ComposeUpset) : State :=
  match l.code with
  | none => s
  | some code =>
    match s.table.indexOf code with
    | none => s
    | some i =>
      match s.table.item i with
      | none => s
      | some it =>
        match shownPrice s.table.promos s.table.rules it.body s.daypart.live with
        | (none, _) => s
        | (some q, clamped) =>
          let v := u.price.getD (q, clamped)
          s.drawTile p k l code style dimmed dim (s.priceDecision code v.1 v.2) u.glyphs

/-- R111: a drawn layer is drawn by its kind. -/
def State.drawLayer (s : State) (p : Fin 4) (k : Nat) (l : Layer) (dimmed : Bool) (dim : Byte) (u : ComposeUpset) : State :=
  match l.content with
  | .photo h => s.onBack p (drawPhoto s.assets (s.clip p) l h dimmed dim)
  | .fill colour => s.onBack p (drawFill (s.clip p) l colour dimmed dim)
  | .price style => s.drawPrice p k l style dimmed dim u

/-- R113: a PRICE layer with a record fault. -/
def State.drawFault (s : State) (p : Fin 4) (k : Nat) (l : Layer) (dimmed : Bool) (dim : Byte) : State :=
  match l.code, l.content with
  | some code, .price style => s.drawTile p k l code style dimmed dim faultDecision none
  | some _, .photo _ => s
  | some _, .fill _ => s
  | none, _ => s

/-- R111: one layer is tested, then drawn, drawn as a record fault, or hidden. -/
def State.composeLayer (s : State) (p : Fin 4) (k : Nat) (l : Layer) (dim : Byte) (u : ComposeUpset) : State :=
  match s.visibility l with
  | (t, .hidden) => t
  | (t, .drawn dimmed) => t.drawLayer p k l dimmed dim u
  | (t, .recordFault dimmed) => t.drawFault p k l dimmed dim

/-- The layer the traversal stands at, with the dim level of its scene. -/
def State.layerAt (s : State) (p : Fin 4) (k : Nat) : Option (Layer × Byte) :=
  match s.scenes.panels[p].active with
  | none => none
  | some sc => (sc.layers[k]?).map (fun l => (l, sc.dim))

/-- The compose stage at layer `k` of a panel. -/
def State.composeAt (s : State) (p : Fin 4) (k : Nat) (u : ComposeUpset) : State :=
  match s.layerAt p k with
  | none => s
  | some (l, dim) => s.composeLayer p k l dim u

/-- COMPOSE_LAYER (R111 to R113, R122, R124 to R128, R19, R76, 9.5). It occurs when the traversal stands at a layer. -/
def execComposeLayer (upsets : LayerUpsets) (s : State) : Host.Outcome State Fault Refusal :=
  .next (match s.engine.job with
    | .compose (.layer p k) => ((s.upsets upsets.bodies).composeAt p k upsets.datapath).setJob (.compose (s.layerFrom p (k + 1)))
    | .compose (.fill _) => s
    | .compose .finished => s
    | .idle => s
    | .check _ _ => s
    | .patch _ => s)

/-! ### Compose stage: the end -/

/-- Whether a shown record carries digits (R128). -/
def ShownRecord.digits (r : ShownRecord) : Bool := decide (r.reason = .none)

/-- R141: whether a check stage that begins now makes the self-test. -/
def State.makesTest (s : State) : Bool := s.checker.armed && s.engine.shown.any ShownRecord.digits

/-- R132: the marks of every record are clear when the check stage begins. -/
def State.clearMarks (s : State) : State :=
  { s with engine := { s.engine with shown := s.engine.shown.map (fun r => { r with mark := none }) } }

/-- COMPOSE_STAGE_END (R122, R129, R132, R141). It occurs when the traversal has passed the last layer. -/
def execComposeStageEnd (s : State) : Host.Outcome State Fault Refusal :=
  .next (match s.engine.job with
    | .compose .finished => s.clearMarks.setJob (.check 0 s.makesTest)
    | .compose (.fill _) => s
    | .compose (.layer _ _) => s
    | .idle => s
    | .check _ _ => s
    | .patch _ => s)

/-! ### The frame rate -/

/-- R116: the rate a byte names. -/
def rateOf (n : Nat) : Option FrameRate :=
  if n = 50 then some .hz50 else if n = 60 then some .hz60 else none

/-- Table 12-7: the byte of a rate. -/
def FrameRate.byte : FrameRate → Byte
  | .hz50 => 50
  | .hz60 => 60

/-- R116: FRAME_RATE_SET. The later of two in a period decides, also when it names the rate in effect (DEDUCED, log
entry 38). -/
def frameRateSetOwner (rate : Byte) (s : State) : CommandResult :=
  match rateOf rate.toNat with
  | none => refuse s .badValue
  | some r => { state := { s with engine := { s.engine with nextRate := r } }, status := .ok, answer := [] }

/-- FRAME_RATE_SET taken. -/
def takeFrameRateSet (go : BitVec 32) (rate : Byte) (s : State) : State := s.takeCommand 0x34 go (frameRateSetOwner rate)

/-- FRAME_RATE_SET (R116, R167). -/
def execFrameRateSet (go : BitVec 32) (rate : Byte) (s : State) : Host.Outcome State Fault Refusal :=
  .next (takeFrameRateSet go rate (s.writeRecord [(0, [0x34]), (4, [rate])]))

end Sys2Proof.Machine
end

