-- ==== Sys2Proof/Machine/Checker.lean ====
section
/-! DEFINITION. The price checker's stages of a frame job: CHECK_RECORD with the self-test, CHECK_STAGE_END,
PATCH_RECORD and JOB_COMPLETION (Chapter 9, R129). -/

namespace Sys2Proof.Machine

/-! ### The check stage -/

/-- R132: the body of the record's item is read with its parity test. -/
def State.readRecordBody (s : State) (code : Nat) : State :=
  match s.table.indexOf code with
  | some i => s.readBody i
  | none => s

/-- The body of an item of the table, where its health is GOOD. -/
def PriceTable.goodBody (t : PriceTable) (code : Nat) : Option ItemBody :=
  match t.indexOf code with
  | none => none
  | some i =>
    match t.item i with
    | none => none
    | some it => if it.health = .good then some it.body else none

/-- R132: the current style named by a record's layer in the active scene. -/
def State.recordStyle (s : State) (r : ShownRecord) : Option Style :=
  match s.layerAt r.panel r.layer with
  | none => none
  | some (l, _) =>
    match l.content with
    | .price style => some s.former.styles[style].current
    | .photo _ => none
    | .fill _ => none

/-- R133: the recomputed price and clamped cause. The checker's own datapath is not upset: 9.5 supposes an upset of the
compose stage's alone, which is an operand of COMPOSE_LAYER (log entry 37). -/
def State.recomputed (s : State) (b : ItemBody) : Option Nat × Bool :=
  shownPrice s.table.promos s.table.rules b s.daypart.live

/-- R133: the recomputed glyph string. -/
def State.recomputedString (s : State) (r : ShownRecord) (q : Nat) : Option (List Nat) :=
  (s.recordStyle r).map (fun st => priceString st s.table.rules.twoDigits q)

/-- The comparison of test 6 of R133. A comparator that has failed reports any two strings equal (9.4). -/
def comparesEqual (stuck : Bool) (a b : List Nat) : Bool := stuck || decide (a = b)

/-- What the judging of a record gives: its mark and, where it reached test 6, the recomputed glyph string. -/
structure Verdict where
  mark : Option RejectCause
  compared : Option (List Nat)
deriving DecidableEq, Repr

/-- A rejection before test 6. -/
def Verdict.rejected (c : RejectCause) : Verdict := { mark := some c, compared := none }

/-- R133: the tests of a record that carries digits, in order. -/
def State.judgeDigits (s : State) (stuck : Bool) (r : ShownRecord) : Verdict :=
  match s.table.goodBody r.code with
  | none => .rejected .recordFault
  | some b =>
    if (s.suspension r.code).isSome then .rejected .suspended
    else if r.daypart ≠ s.daypart.live then .rejected .mismatch
    else match (s.recomputed b).1 with
      | none => .rejected .mismatch
      | some q =>
        if r.price ≠ some q then .rejected .mismatch
        else if r.clamped ≠ (s.recomputed b).2 then .rejected .mismatch
        else match s.recomputedString r q with
          | none => .rejected .mismatch
          | some str =>
            { mark := if comparesEqual stuck str r.glyphs then none else some .mismatch, compared := some str }

/-- R134: the tests of a record that carries no digits. -/
def State.judgeDashes (s : State) (r : ShownRecord) : Verdict :=
  match s.table.goodBody r.code with
  | none => .rejected .recordFault
  | some _ => if r.glyphs.any isDigitGlyph then .rejected .mismatch else { mark := none, compared := none }

/-- R132: a record is judged by its dash reason. -/
def State.judge (s : State) (stuck : Bool) (r : ShownRecord) : Verdict :=
  if r.digits then s.judgeDigits stuck r else s.judgeDashes r

/-- R132: the mark of record `i`. -/
def State.markRecord (s : State) (i : Nat) (r : ShownRecord) (m : Option RejectCause) : State :=
  { s with engine := { s.engine with shown := s.engine.shown.set i { r with mark := m } } }

/-- R135: a rejection is handed to the suspended set. -/
def State.handRejection (s : State) (code : Nat) (m : Option RejectCause) : State :=
  match m with
  | none => s
  | some _ => s.suspendMismatch code

/-- R142, R143: the end of the self-test. -/
def State.endTest (s : State) (equal : Bool) : State :=
  ({ s with checker := { s.checker with armed := false, latch := s.checker.latch || equal,
                                        lastResult := if equal then .fail else .pass } }).raiseBoth
    .checkResult .checkResult

/-- R142: the further comparison, where the test is still to be made and the record reached test 6. -/
def State.selfTest (s : State) (stuck testing : Bool) (r : ShownRecord) (compared : Option (List Nat)) : State :=
  match testing, compared with
  | true, some str => s.endTest (comparesEqual stuck str (dashLast r.glyphs))
  | true, none => s
  | false, _ => s

/-- R132 to R135, R142, R143: the check stage at record `i`. -/
def State.checkAt (s : State) (stuck testing : Bool) (i : Nat) (r : ShownRecord) : State :=
  let t := s.readRecordBody r.code
  let v := t.judge stuck r
  let u := ((t.markRecord i r v.mark).handRejection r.code v.mark).selfTest stuck testing r v.compared
  u.setJob (.check (i + 1) (testing && v.compared.isNone))

/-- CHECK_RECORD (R132 to R135, R138, R141 to R143). It occurs while the check stage has a record to visit. -/
def execCheckRecord (upsets : List ItemIndex) (stuck : Bool) (s : State) : Host.Outcome State Fault Refusal :=
  .next (match s.engine.job with
    | .check i testing =>
      match s.engine.shown[i]? with
      | some r => (s.upsets upsets).checkAt stuck testing i r
      | none => s
    | .idle => s
    | .compose _ => s
    | .patch _ => s)

/-- CHECK_STAGE_END (R132). It occurs when the check stage has visited every record. -/
def execCheckStageEnd (s : State) : Host.Outcome State Fault Refusal :=
  .next (match s.engine.job with
    | .check i _ => if s.engine.shown.length ≤ i then s.setJob (.patch 0) else s
    | .idle => s
    | .compose _ => s
    | .patch _ => s)

/-! ### The patch stage -/

/-- R136: the dash reason a patch gives a record, where it is patched. -/
def State.patchReason (s : State) (r : ShownRecord) : Option DashReason :=
  match r.mark with
  | some _ => some .mismatch
  | none =>
    if !r.digits then none
    else if s.checker.latch then some .checkPathFail
    else if (s.suspension r.code).isSome then some .mismatch
    else none

/-- Whether a placement box is empty (R76). -/
def Box.isEmpty (b : Box) : Bool := decide (b.w = 0) && decide (b.h = 0)

/-- R137: the box is filled with the background and the dash string drawn at its origin. -/
def State.drawPatch (s : State) (r : ShownRecord) : State :=
  if r.box.isEmpty then s
  else
    let filled := s.onBack r.panel (fun b => b.paintRect (s.clip r.panel) r.box (s.background r.panel))
    match s.recordStyle r with
    | none => filled
    | some st =>
      filled.onBack r.panel (drawGlyphs s.assets st (s.clip r.panel) st.colour 255 dashString r.box.x r.box.y)

/-- R136: a patched record's string and reason. -/
def ShownRecord.patched (r : ShownRecord) (reason : DashReason) : ShownRecord :=
  { r with glyphs := dashString, reason := reason }

/-- R136: the patch stage at record `i`. -/
def State.patchAt (s : State) (i : Nat) (r : ShownRecord) : State :=
  match s.patchReason r with
  | none => s
  | some reason =>
    let t := s.drawPatch r
    { t with engine := { t.engine with shown := t.engine.shown.set i (r.patched reason) } }

/-- PATCH_RECORD (R136, R137). It occurs while the patch stage has a record to visit. -/
def execPatchRecord (s : State) : Host.Outcome State Fault Refusal :=
  .next (match s.engine.job with
    | .patch i =>
      match s.engine.shown[i]? with
      | some r => (s.patchAt i r).setJob (.patch (i + 1))
      | none => s
    | .idle => s
    | .compose _ => s
    | .check _ _ => s)

/-- JOB_COMPLETION (R129, R136). It occurs when the patch stage has visited every record. -/
def execJobCompletion (s : State) : Host.Outcome State Fault Refusal :=
  .next (match s.engine.job with
    | .patch i => if s.engine.shown.length ≤ i then s.setJob .idle else s
    | .idle => s
    | .compose _ => s
    | .check _ _ => s)

end Sys2Proof.Machine
end

