-- ==== Sys2Proof/Machine/Reading.lean ====
section
/-! DEFINITION. Requests and commands that read the part back, and suspension: ITEM_READ, ITEM_QUERY,
SUSPENDED_LIST, SUSPEND_CLEAR, CHECK_TEST, NVA_REPORT and STATUS (1.10, 4.7, 9.3, 9.4, 11.4). -/

namespace Sys2Proof.Machine

/-! ### Reading items -/

/-- The shown prices of a body for the four dayparts (R22). -/
def shownPrices (t : PriceTable) (b : ItemBody) : Vector (Option Nat × Bool) 4 :=
  #v[shownPrice t.promos t.rules b 0, shownPrice t.promos t.rules b 1, shownPrice t.promos t.rules b 2,
     shownPrice t.promos t.rules b 3]

/-- Bits 0..3 q present, bits 4..7 clamped (Tables 12-5 and 12-7). -/
def shownMarks (q : Vector (Option Nat × Bool) 4) : Byte :=
  byteOf ((if q[0].1.isSome then 1 else 0) + (if q[1].1.isSome then 2 else 0) + (if q[2].1.isSome then 4 else 0)
    + (if q[3].1.isSome then 8 else 0) + (if q[0].2 then 16 else 0) + (if q[1].2 then 32 else 0)
    + (if q[2].2 then 64 else 0) + (if q[3].2 then 128 else 0))

/-- The prices of the shown prices. -/
def shownValues (q : Vector (Option Nat × Bool) 4) : Vector (Option Nat) 4 := #v[q[0].1, q[1].1, q[2].1, q[3].1]

/-- R20: the fields of an ITEM_READ answer for a GOOD record (Table 12-5). -/
def itemReadFields (s : State) (i : ItemIndex) (it : Item) : List Byte :=
  let q := shownPrices s.table it.body
  beBytes 2 it.code ++ beBytes 2 i.val ++ [byteOf (presenceByte it.body)] ++ priceBytes (beBytes 3) it.body.price
    ++ [byteOf (it.body.promo.getD 0), it.avail.byte, pendingByte (Sparse.find s.table.pendingAvail it.code),
        suspensionByte (s.suspension it.code)]
    ++ priceBytes (beBytes 3) (shownValues q) ++ [shownMarks q]

/-- R20: ITEM_READ. -/
def itemReadOwner (payload : List Byte) (s : State) : Reply :=
  let code := beAt payload 0 2
  if !validCode code then reply s .badValue []
  else match s.table.indexOf code with
    | none => reply s .notFound []
    | some i =>
      let t := s.readBody i
      match t.table.item i with
      | none => reply t .notFound []
      | some it =>
        match it.health with
        | .corrupt => reply t .recordFault (beBytes 2 code ++ beBytes 2 i.val)
        | .good => reply t .ok (itemReadFields t i it)

/-- The ITEM_READ request. -/
def itemReadRequest (payload : List Byte) : Request :=
  { kind := 0x0E, lengthFits := decide (payload.length = 2), broadcast := false, owner := itemReadOwner payload }

/-- ITEM_READ (R20, R22, R159). -/
def execItemRead (addressing : Addressing) (payload : List Byte) (s : State) : Host.Outcome State Fault Refusal :=
  .next (s.onFrame (fun t => t.take addressing (itemReadRequest payload)))

/-- R21: the answer of ITEM_QUERY for an item of the table (Table 12-7). -/
def itemQueryFields (s : State) (i : ItemIndex) (it : Item) : List Byte :=
  let head := leBytes 2 it.code ++ leBytes 2 i.val ++ [it.avail.byte,
    pendingByte (Sparse.find s.table.pendingAvail it.code), suspensionByte (s.suspension it.code)]
  match it.health with
  | .corrupt => [1, 1] ++ head
  | .good =>
    let q := shownPrices s.table it.body
    [1, 0] ++ head ++ [byteOf (presenceByte it.body), byteOf (it.body.promo.getD 0), shownMarks q]
      ++ priceBytes (leBytes 4) it.body.price ++ priceBytes (leBytes 4) (shownValues q)

/-- R21: ITEM_QUERY. -/
def itemQueryOwner (code : Nat) (s : State) : CommandResult :=
  if !validCode code then refuse s .badValue
  else match s.table.indexOf code with
    | none => { state := s, status := .ok, answer := [0] }
    | some i =>
      let t := s.readBody i
      match t.table.item i with
      | none => { state := t, status := .ok, answer := [0] }
      | some it => { state := t, status := .ok, answer := itemQueryFields t i it }

/-- ITEM_QUERY taken. -/
def takeItemQuery (go : BitVec 32) (code : BitVec 16) (s : State) : State :=
  s.takeCommand 0x40 go (itemQueryOwner code.toNat)

/-- ITEM_QUERY (R21, R22, R167). -/
def execItemQuery (go : BitVec 32) (code : BitVec 16) (s : State) : Host.Outcome State Fault Refusal :=
  .next (takeItemQuery go code (s.writeRecord [(0, [0x40]), (4, two code)]))

/-! ### The suspended set -/

/-- R139: an entry of the answer. -/
def suspendedEntry (e : Nat × SuspendReason) : List Byte := beBytes 2 e.1 ++ [suspensionByte (some e.2)]

/-- R139: SUSPENDED_LIST. -/
def suspendedListOwner (payload : List Byte) (s : State) : Reply :=
  let start := beAt payload 0 2
  reply s .ok (beBytes 2 s.checker.suspended.length ++ beBytes 2 start
    ++ ((s.checker.suspended.drop start).take 19).flatMap suspendedEntry)

/-- The SUSPENDED_LIST request. -/
def suspendedListRequest (payload : List Byte) : Request :=
  { kind := 0x0F, lengthFits := decide (payload.length = 2), broadcast := false, owner := suspendedListOwner payload }

/-- SUSPENDED_LIST (R139, R159). -/
def execSuspendedList (addressing : Addressing) (payload : List Byte) (s : State) : Host.Outcome State Fault Refusal :=
  .next (s.onFrame (fun t => t.take addressing (suspendedListRequest payload)))

/-- R140: SUSPEND_CLEAR. -/
def suspendClearOwner (payload : List Byte) (s : State) : Reply :=
  let code := beAt payload 0 2
  if !validCode code then reply s .badValue []
  else match s.suspension code with
    | none => reply s .notFound []
    | some .parity => reply s .badValue []
    | some .unrepairable => reply s .badValue []
    | some .mismatch => reply (s.unsuspend code) .ok []

/-- The SUSPEND_CLEAR request. -/
def suspendClearRequest (payload : List Byte) : Request :=
  { kind := 0x10, lengthFits := decide (payload.length = 2), broadcast := false, owner := suspendClearOwner payload }

/-- SUSPEND_CLEAR (R140, R159). -/
def execSuspendClear (addressing : Addressing) (payload : List Byte) (s : State) : Host.Outcome State Fault Refusal :=
  .next (s.onFrame (fun t => t.take addressing (suspendClearRequest payload)))

/-! ### The self-test -/

/-- R141: CHECK_TEST arms the self-test while the check-path-fail latch is clear. -/
def State.armTest (s : State) : State := { s with checker := { s.checker with armed := true } }

/-- R141: CHECK_TEST on the POS link. -/
def checkTestOwner (s : State) : Reply :=
  if s.checker.latch then reply s .refused [] else reply s.armTest .ok []

/-- The CHECK_TEST request. -/
def checkTestRequest (payload : List Byte) : Request :=
  { kind := 0x12, lengthFits := decide (payload.length = 0), broadcast := false, owner := checkTestOwner }

/-- R141: CHECK_TEST on the content port. -/
def checkTestCommand (s : State) : CommandResult :=
  if s.checker.latch then refuse s .refused else { state := s.armTest, status := .ok, answer := [] }

/-- CHECK_TEST taken on the content port. -/
def takeCheckTest (go : BitVec 32) (s : State) : State := s.takeCommand 0x42 go checkTestCommand

/-- CHECK_TEST (R141, R159, R167). -/
def execCheckTest (path : TestPath) (s : State) : Host.Outcome State Fault Refusal :=
  .next (match path with
    | .posLink addressing payload => s.onFrame (fun t => t.take addressing (checkTestRequest payload))
    | .contentPort go => takeCheckTest go (s.writeRecord [(0, [0x42])]))

/-! ### NVA_REPORT -/

/-- R66: the number of slots in a state. -/
def Nva.countState (n : Nva) (st : SlotState) : Nat :=
  ((List.finRange 546).filter (fun k => decide (n.slotState k = st))).length

/-- R66: the repair requests outstanding. -/
def Nva.outstanding (n : Nva) : Nat :=
  n.repairs.length + (match n.op with
    | .free => 0
    | .write w => if w.repairWaits then 1 else 0
    | .read _ => 1)

/-- Table 12-5: the code of a fault kind. -/
def FaultKind.code : FaultKind → Nat
  | .sec => 0
  | .ded => 1
  | .torn => 2
  | .duplicate => 3

/-- Table 12-5: the code of a fault origin. -/
def FaultOrigin.code : FaultOrigin → Nat
  | .load => 0
  | .write => 1
  | .repair => 2

/-- Table 12-5: an entry of the fault list. -/
def faultBytes (f : FaultEntry) : List Byte := beBytes 2 (f.slot + 1024 * f.origin.code + 4096 * f.kind.code)

/-- R66: NVA_REPORT. -/
def nvaReportOwner (s : State) : Reply :=
  let n := s.nva
  let entries := n.faults.flatMap faultBytes
  reply s .ok ([byteOf n.faults.length, flagByte n.more, loadByte n.loading]
    ++ beBytes 2 (n.countState .clean) ++ beBytes 2 (n.countState .dirty) ++ beBytes 2 (n.countState .writing)
    ++ beBytes 2 (n.countState .stale) ++ beBytes 2 (n.countState .faulted) ++ beBytes 2 n.outstanding
    ++ entries ++ zeros (32 - entries.length))

/-- The NVA_REPORT request. -/
def nvaReportRequest (payload : List Byte) : Request :=
  { kind := 0x11, lengthFits := decide (payload.length = 0), broadcast := false, owner := nvaReportOwner }

/-- NVA_REPORT (R66, R159). -/
def execNvaReport (addressing : Addressing) (payload : List Byte) (s : State) : Host.Outcome State Fault Refusal :=
  .next (s.onFrame (fun t => t.take addressing (nvaReportRequest payload)))

/-! ### STATUS -/

/-- Table 12-5: minute and second, FFFFh for the minute when the time base is unset. The table does not say what the
second byte then holds: a free value (log entry 11). -/
def timeBytes : Option TimeOfDay → List Byte
  | some t => beBytes 2 t.minute ++ [byteOf t.second]
  | none => [0xFF, 0xFF, Config.unsetSecond]

/-- Table 12-5: bit 0 latch, bit 1 self-test ARMED, bits 4..5 last result; the bits it does not name are 0 (DESIGN
CHOICE, log entry 39). -/
def testByte (c : Checker) : Byte :=
  byteOf ((if c.latch then 1 else 0) + (if c.armed then 2 else 0) + 16 * c.lastResult.code)

/-- R163: the fields of the STATUS answer. -/
def statusFields (s : State) : List Byte :=
  [s.link.summary, commitByte s.stager.commit] ++ beBytes 2 s.stager.commitNumber.toNat
    ++ [s.stager.lastOutcome.byte, byteOf s.stager.staging.length, byteOf s.daypart.live.val, forceByte s.daypart.force]
    ++ timeBytes s.daypart.time ++ [loadByte s.nva.loading] ++ beBytes 2 s.checker.suspended.length
    ++ [testByte s.checker]

/-- R162, R163: STATUS carries the summary and clears it. -/
def statusOwner (s : State) : Reply :=
  reply { s with link := { s.link with summary := 0 } } .ok (statusFields s)

/-- The STATUS request. -/
def statusRequest (payload : List Byte) : Request :=
  { kind := 0x01, lengthFits := decide (payload.length = 0), broadcast := false, owner := statusOwner }

/-- STATUS (R162, R163, R159). -/
def execStatus (addressing : Addressing) (payload : List Byte) (s : State) : Host.Outcome State Fault Refusal :=
  .next (s.onFrame (fun t => t.take addressing (statusRequest payload)))

end Sys2Proof.Machine
end

