-- ==== Sys2Proof/Machine/Link.lean ====
section
/-! DEFINITION. The POS link controller: the receiver, the acceptance test, the request kinds and the sending of answers
(Chapter 11). -/

namespace Sys2Proof.Machine

/-! ### Requests by kind (Table 12-2) -/

/-- Table 12-2: the request of a kind, none for a kind that the table of 11.2 does not list. -/
def requestOf (kind : Byte) (payload : List Byte) : Option Request :=
  match kind.toNat with
  | 0x01 => some (statusRequest payload)
  | 0x02 => some (itemStageRequest payload)
  | 0x03 => some (itemRemoveRequest payload)
  | 0x04 => some (promoStageRequest payload)
  | 0x05 => some (rulesStageRequest payload)
  | 0x06 => some (stageAbortRequest payload)
  | 0x07 => some (commitRequest payload)
  | 0x08 => some (applyRequest payload)
  | 0x09 => some (commitCancelRequest payload)
  | 0x0A => some (availSetRequest payload)
  | 0x0B => some (scheduleSetRequest payload)
  | 0x0C => some (daypartForceRequest payload)
  | 0x0D => some (timeSetRequest payload)
  | 0x0E => some (itemReadRequest payload)
  | 0x0F => some (suspendedListRequest payload)
  | 0x10 => some (suspendClearRequest payload)
  | 0x11 => some (nvaReportRequest payload)
  | 0x12 => some (checkTestRequest payload)
  | _ => none

/-- R159, R160: an accepted frame of an unknown kind: BUSY before BAD_KIND when addressed, ignored when broadcast. -/
def State.takeUnknown (s : State) (addressing : Addressing) (kind : Byte) : State :=
  match addressing with
  | .addressed =>
    if s.nva.loading then s.holdAnswer kind [PosStatus.busy.byte]
    else if s.checking then s.holdAnswer kind [PosStatus.busy.byte]
    else s.holdAnswer kind [PosStatus.badKind.byte]
  | .broadcast => s

/-- R159, R160: an accepted frame by its kind. -/
def State.takeKind (s : State) (addressing : Addressing) (kind : Byte) (payload : List Byte) : State :=
  match requestOf kind payload with
  | some r => s.take addressing r
  | none => s.takeUnknown addressing kind

/-! ### Acceptance (R158) -/

/-- The payload of a complete frame held from its address byte. -/
def framePayload (frame : List Byte) : List Byte := (frame.drop 3).take (byteAt frame 2)

/-- R158: the CRC over the bytes from the address through the payload. -/
def frameCrc (frame : List Byte) : BitVec 16 := crc16 (frame.take (3 + byteAt frame 2))

/-- R158: the received CRC equals the computed one. -/
def crcAgrees (frame : List Byte) : Bool := decide ((frameCrc frame).toNat = beAt frame (3 + byteAt frame 2) 2)

/-- R158: whom a frame is for, at the unit with this address. -/
def frameAddressing (unit : Nat) (frame : List Byte) : Option Addressing :=
  if byteAt frame 0 = unit then some .addressed else if byteAt frame 0 = 0 then some .broadcast else none

/-- R158: the acceptance test; none for a frame that is dropped. -/
def accepts (unit : Nat) (frame : List Byte) : Option Addressing :=
  if crcAgrees frame && decide (byteAt frame 1 < 128) then frameAddressing unit frame else none

/-- R158: a complete frame is accepted and taken, or dropped. -/
def State.acceptFrame (s : State) (frame : List Byte) : State :=
  match accepts s.link.unit frame with
  | some a => s.takeKind a (frame.getD 1 0) (framePayload frame)
  | none => s

/-- FRAME_DROPPED (R158). The frame is tested as any other complete frame is. -/
def execFrameDropped (frame : List Byte) (s : State) : Host.Outcome State Fault Refusal :=
  .next (s.onFrame (fun t => t.acceptFrame frame))

/-- UNKNOWN_KIND (R159, R160). -/
def execUnknownKind (addressing : Addressing) (kind : Byte) (payload : List Byte) (s : State) :
    Host.Outcome State Fault Refusal :=
  .next (s.onFrame (fun t => t.takeKind addressing kind payload))

/-! ### The receiver (R157) -/

/-- The byte that begins a frame. -/
def startByte : Byte := 0xA5

/-- Write the receiver. -/
def State.setReceiver (s : State) (r : Receiver) : State := { s with link := { s.link with receiver := r } }

/-- R157, R161: a start byte begins a frame and withdraws an answer that is ready and not begun. -/
def State.beginFrame (s : State) : State := s.withdrawAnswer.setReceiver (.assembling [])

/-- R157: whether the bytes after the start byte are a whole frame. -/
def frameComplete (bytes : List Byte) : Bool :=
  decide (5 ≤ bytes.length) && decide (bytes.length = byteAt bytes 2 + 5)

/-- R157: a byte taken into the frame in assembly. -/
def State.assembleByte (s : State) (bytes : List Byte) : State :=
  if bytes.length = 3 ∧ 64 < byteAt bytes 2 then s.setReceiver .waitIdle
  else if frameComplete bytes then s.onFrame (fun t => t.acceptFrame bytes)
  else s.setReceiver (.assembling bytes)

/-- R157: a byte received while the part is not sending. -/
def State.receiveByte (s : State) (b : Byte) (framingError : Bool) : State :=
  match s.link.receiver with
  | .waitIdle => s
  | .ready => if b = startByte ∧ !framingError then s.beginFrame else s.setReceiver .waitIdle
  | .assembling bytes => if framingError then s.setReceiver .waitIdle else s.assembleByte (bytes ++ [b])

/-- LINE_BYTE (R157, R158, R161). While the part is sending an answer its receiver takes nothing. -/
def execLineByte (b : Byte) (framingError : Bool) (s : State) : Host.Outcome State Fault Refusal :=
  .next (if s.sending then s else s.receiveByte b framingError)

/-- IDLE_PERIOD_EXPIRY (R157). It occurs in WAIT_IDLE, while the part is not sending. -/
def execIdlePeriodExpiry (s : State) : Host.Outcome State Fault Refusal :=
  .next (if s.sending then s else match s.link.receiver with
    | .waitIdle => s.setReceiver .ready
    | .ready => s
    | .assembling _ => s)

/-- FRAME_GAP_EXPIRY (R157). It occurs in ASSEMBLING, while the part is not sending. -/
def execFrameGapExpiry (s : State) : Host.Outcome State Fault Refusal :=
  .next (if s.sending then s else match s.link.receiver with
    | .assembling _ => s.setReceiver .ready
    | .waitIdle => s
    | .ready => s)

/-! ### Answers (R161) -/

/-- ANSWER_BEGIN (R161). It occurs while an answer is held whose sending has not begun. -/
def execAnswerBegin (s : State) : Host.Outcome State Fault Refusal :=
  .next (match s.link.answer with
    | some a => if a.sending then s else { s with link := { s.link with answer := some { a with sending := true } } }
    | none => s)

/-- R33, R157: the last byte of an answer is sent: none is held, the receiver is in WAIT_IDLE, and a HELD record takes
its hold expiry from the end of a COMMIT answer. -/
def State.endAnswer (s : State) (a : Answer) : State :=
  { s with link := { s.link with answer := none, receiver := .waitIdle },
           stager := if a.kind = commitAnswerKind then s.stager.fixExpiry else s.stager }

/-- ANSWER_END (R157, R161, R33). It occurs while an answer is being sent. -/
def execAnswerEnd (s : State) : Host.Outcome State Fault Refusal :=
  .next (match s.link.answer with
    | some a => if a.sending then s.endAnswer a else s
    | none => s)

end Sys2Proof.Machine
end

