-- ==== Sys2Proof/Machine/Nva.lean ====
section
/-! DEFINITION. The NV price array at work: LOAD_COMPLETION, SLOT_WRITE_BEGIN, SLOT_WRITE_COMPLETION,
REPAIR_READ_START and REPAIR_READ_COMPLETION (Chapter 4). -/

namespace Sys2Proof.Machine

/-! ### The start-up load -/

/-- R54: the slot the journal names, which the load classes TORN. -/
def Journal.torn (j : Journal) : Option SlotId :=
  match j.word with
  | .clean => if h : j.slot < 546 then some ⟨j.slot, h⟩ else none
  | .sec => if h : j.slot < 546 then some ⟨j.slot, h⟩ else none
  | .erased => none
  | .ded => none

/-- R54: the journal reads DED, or names a number above 545 and is treated as DED. -/
def Journal.faulty (j : Journal) : Bool :=
  match j.word with
  | .clean => decide (546 ≤ j.slot)
  | .sec => decide (546 ≤ j.slot)
  | .erased => false
  | .ded => true

/-- How the load finds a slot (R53). -/
inductive LoadFinding where
  | torn
  | erased
  | valid (corrected : Bool) (r : SlotRecord)
  | invalid
  | ded
deriving DecidableEq, Repr

/-- R52, R53: the finding at a slot. -/
def loadFinding (k : SlotId) (torn : Option SlotId) (v : NvSlot) : LoadFinding :=
  if torn = some k then .torn
  else match v.read with
    | .erased => .erased
    | .ded => .ded
    | .clean => if v.record.validFor (slotKind k) then .valid false v.record else .invalid
    | .sec => if v.record.validFor (slotKind k) then .valid true v.record else .invalid

/-- R53, R55, R56: what the finding at an item slot does. -/
def loadItemSlot (s : State) (i : ItemIndex) (f : LoadFinding) : State :=
  let dirty := fun (t : State) =>
    { t with nva := { t.nva.setSlotState (itemSlot i) .dirty with queue := t.nva.queue ++ [itemSlot i] } }
  let fault := fun (t : State) (kind : FaultKind) => t.logFault { slot := i.val, kind := kind, origin := .load }
  match f with
  | .torn => dirty (fault s .torn)
  | .erased => s
  | .ded => dirty (fault s .ded)
  | .invalid => dirty (fault s .ded)
  | .valid corrected r =>
    match r with
    | .item code body =>
      if s.table.has code then dirty (fault s .duplicate)
      else
        let t := s.putItem i { code := code, body := body, parityFails := false, health := .good, avail := .available }
        if corrected then fault t .sec else t
    | .rules _ => s
    | .promo _ _ => s
    | .schedule _ => s
    | .unknown => s

/-- R53, R56: what the finding at a rules, promotion or schedule slot does: `install` loads contents, and a slot that
cannot be loaded leaves the default in place. -/
def loadOtherSlot (s : State) (k : SlotId) (f : LoadFinding) (invalidLogged : Bool) (install : State → SlotRecord → State) :
    State :=
  let fault := fun (t : State) (kind : FaultKind) => t.logFault { slot := k.val, kind := kind, origin := .load }
  let state := fun (t : State) (st : SlotState) => { t with nva := t.nva.setSlotState k st }
  match f with
  | .torn => state (fault s .torn) .faulted
  | .erased => s
  | .ded => state (fault s .ded) .faulted
  | .invalid => if invalidLogged then state (fault s .ded) .faulted else state s .stale
  | .valid corrected r => if corrected then fault (install s r) .sec else install s r

/-- The rules a slot gives. -/
def installRules (s : State) (r : SlotRecord) : State :=
  match r with
  | .rules r => { s with table := { s.table with rules := r } }
  | .item _ _ => s
  | .promo _ _ => s
  | .schedule _ => s
  | .unknown => s

/-- The promotion a slot gives. -/
def installPromo (i : Fin 32) (s : State) (r : SlotRecord) : State :=
  match r with
  | .promo _ p => { s with table := { s.table with promos := s.table.promos.set i p } }
  | .item _ _ => s
  | .rules _ => s
  | .schedule _ => s
  | .unknown => s

/-- The schedule a slot gives. -/
def installSchedule (s : State) (r : SlotRecord) : State :=
  match r with
  | .schedule es => { s with daypart := { s.daypart with schedule := es } }
  | .item _ _ => s
  | .rules _ => s
  | .promo _ _ => s
  | .unknown => s

/-- R53: the load at one slot. The schedule slot is reached last, with the default schedule of the rules loaded. -/
def loadSlot (torn : Option SlotId) (s : State) (k : SlotId) : State :=
  let f := loadFinding k torn (s.nva.slot k)
  match slotKind k with
  | .item i => loadItemSlot s i f
  | .rules => loadOtherSlot s k f true installRules
  | .promo i => loadOtherSlot s k f true (installPromo i)
  | .schedule =>
    loadOtherSlot { s with daypart := { s.daypart with schedule := standardSchedule s.table.rules } } k f false
      installSchedule

/-- The array as the load finds it. -/
def Nva.found (n : Nva) (slots : List (SlotId × NvSlot)) (journal : Option Journal) : Nva :=
  { slots.foldl (fun n e => n.setSlot e.1 e.2) n with journal := journal.getD n.journal }

/-- R54: a faulty journal is logged with slot number 546. -/
def State.loadJournal (s : State) : State :=
  if s.nva.journal.faulty then s.logFault { slot := 546, kind := .ded, origin := .load } else s

/-- R56, R49: load completion: the journal is erased, the live daypart is fixed, and requests, commands and frame
jobs are taken from here on. -/
def State.endLoad (s : State) : State :=
  { s with nva := { s.nva with journal := Journal.erased, loading := false },
           daypart := { s.daypart with live := s.table.rules.defaultDaypart } }

/-- R3, R57, R65, R138: the table, the lists and the suspended set as they stand when the load begins to fill them,
which is as the reset left them. -/
def State.beginLoad (s : State) : State :=
  { s with table := { items := [], promos := Vector.replicate 32 Promotion.standard, rules := Rules.standard,
                      pendingAvail := [] },
           checker := { s.checker with suspended := [] },
           nva := { s.nva with slotStates := [], queue := [], repairs := [], op := .free, faults := [], more := false } }

/-- LOAD_COMPLETION (R53 to R57, R3, R5, R6, R43, R49). With no load in flight the event does not occur. -/
def execLoadCompletion (slots : List (SlotId × NvSlot)) (journal : Option Journal) (s : State) :
    Host.Outcome State Fault Refusal :=
  .next (if s.nva.loading then
      let t := ({ s with nva := s.nva.found slots journal }).beginLoad
      ((List.finRange 546).foldl (loadSlot t.nva.journal.torn) t.loadJournal).endLoad
    else s)

/-! ### Slot writes -/

/-- R60: the source record of a slot as the table holds it; none is an erase alone. -/
def State.slotSource (s : State) (k : SlotId) : Option SlotRecord :=
  match slotKind k with
  | .item i => (s.table.item i).map (fun it => .item it.code it.body)
  | .rules => some (.rules s.table.rules)
  | .promo i => some (.promo i.val s.table.promos[i])
  | .schedule => some (.schedule s.daypart.schedule)

/-- R60: whether the source body of an item slot is CORRUPT, or is found CORRUPT by the read. -/
def State.sourceCorrupt (s : State) (k : SlotId) : Bool :=
  match slotKind k with
  | .item i =>
    match s.table.item i with
    | some it => decide (it.health = .corrupt) || it.parityFails
    | none => false
  | .rules => false
  | .promo _ => false
  | .schedule => false

/-- R60: the write of the slot at the head of the queue begins, or the slot becomes STALE. An item found CORRUPT already keeps
the reason of its suspension, and no repair is requested (DEDUCED, log entry 19). -/
def State.beginWrite (s : State) (k : SlotId) (rest : List SlotId) : State :=
  if s.sourceCorrupt k then
    let t := { s with nva := { s.nva.setSlotState k .stale with queue := rest } }
    match slotKind k with
    | .item i => t.readBody i
    | .rules => t
    | .promo _ => t
    | .schedule => t
  else
    { s with nva := { s.nva.setSlotState k .writing with
        queue := rest, journal := Journal.names k,
        op := .write { slot := k, copy := s.slotSource k, rewrite := false, repairWaits := false } } }

/-- SLOT_WRITE_BEGIN (R59, R60). It occurs when the array is free, no repair waits and the queue is not empty. -/
def execSlotWriteBegin (upsets : List ItemIndex) (s : State) : Host.Outcome State Fault Refusal :=
  .next (match s.nva.loading, s.nva.op, s.nva.repairs, s.nva.queue with
    | false, .free, [], k :: rest => (s.upsets upsets).beginWrite k rest
    | _, _, _, _ => s)

/-- What a write leaves in its slot when nothing goes wrong (R51). -/
def SlotWrite.written (w : SlotWrite) : NvSlot :=
  match w.copy with
  | some r => NvSlot.programmed r
  | none => NvSlot.erased

/-- R61: the verify of a write against what the slot is read back to hold. -/
def SlotWrite.verifies (w : SlotWrite) (v : NvSlot) : Bool :=
  match w.copy with
  | some r => (decide (v.read = .clean) || decide (v.read = .sec)) && decide (v.record = r)
  | none => decide (v.read = .erased)

/-- R61, part 3: the slot's state at completion. -/
def Nva.afterWrite (n : Nva) (w : SlotWrite) (verified : Bool) : Nva :=
  if w.rewrite then { n.setSlotState w.slot .dirty with queue := n.queue ++ [w.slot] }
  else if verified then n.setSlotState w.slot .clean
  else n.setSlotState w.slot .faulted

/-- R61: a slot write completes. -/
def State.completeWrite (s : State) (w : SlotWrite) (v : NvSlot) : State :=
  let verified := w.verifies v
  let n := { s.nva.setSlot w.slot v with journal := Journal.erased, op := .free }
  let t := { s with nva := n.afterWrite w verified }
  let u := if verified then t else t.logFault { slot := w.slot.val, kind := .ded, origin := .write }
  if w.repairWaits then
    match slotKind w.slot with
    | .item i => u.requestRepair i
    | .rules => u
    | .promo _ => u
    | .schedule => u
  else u

/-- SLOT_WRITE_COMPLETION (R61, R62). With no write in flight the event does not occur. -/
def execSlotWriteCompletion (found : Option NvSlot) (s : State) : Host.Outcome State Fault Refusal :=
  .next (match s.nva.op with
    | .write w => s.completeWrite w (found.getD w.written)
    | .free => s
    | .read _ => s)

/-! ### Repair reads -/

/-- REPAIR_READ_START (R59, R63). It occurs when the array is free and the repair list holds a request. -/
def execRepairReadStart (s : State) : Host.Outcome State Fault Refusal :=
  .next (match s.nva.loading, s.nva.op, s.nva.repairs with
    | false, .free, i :: rest => { s with nva := { s.nva with op := .read i, repairs := rest } }
    | _, _, _ => s)

/-- R13, R64: a restore is made while the item at the index still bears the slot's code and is still CORRUPT; one whose
code differs is discarded and the item is UNREPAIRABLE. -/
def State.restore (s : State) (i : ItemIndex) (code : Nat) (body : ItemBody) : State :=
  match s.table.item i with
  | none => s
  | some it =>
    match it.health with
    | .good => s
    | .corrupt =>
      if it.code = code then
        (s.putItem i { it with body := body, parityFails := false, health := .good }).unsuspendRestored code
      else s.markUnrepairable i

/-- R64: a repair read that cannot be used, of a slot not marked DIRTY. -/
def State.failRepair (s : State) (i : ItemIndex) : State :=
  (({ s with nva := s.nva.setSlotState (itemSlot i) .faulted }).markUnrepairable i).logFault
    { slot := i.val, kind := .ded, origin := .repair }

/-- R64: the contents of an item slot read for a repair, with the result of the read. -/
inductive RepairResult where
  | usable (corrected : Bool) (code : Nat) (body : ItemBody)
  | unusable
deriving DecidableEq, Repr

/-- R52, R64: the result of a repair read; an erased slot and invalid contents are treated as DED. -/
def repairResult (i : ItemIndex) (v : NvSlot) : RepairResult :=
  match loadFinding (itemSlot i) none v with
  | .valid corrected r =>
    match r with
    | .item code body => .usable corrected code body
    | .rules _ => .unusable
    | .promo _ _ => .unusable
    | .schedule _ => .unusable
    | .unknown => .unusable
  | .torn => .unusable
  | .erased => .unusable
  | .invalid => .unusable
  | .ded => .unusable

/-- R64: a repair read completes. With the slot marked DIRTY an erased read is logged as a DED result, which R64 says of
the slot that is not (DEDUCED, log entry 36). -/
def State.completeRepair (s : State) (i : ItemIndex) (v : NvSlot) : State :=
  let t := { s with nva := { s.nva.setSlot (itemSlot i) v with op := .free } }
  let logSec := fun (u : State) => u.logFault { slot := i.val, kind := .sec, origin := .repair }
  let logDed := fun (u : State) => u.logFault { slot := i.val, kind := .ded, origin := .repair }
  if s.nva.slotState (itemSlot i) = .dirty then
    match repairResult i v with
    | .usable corrected _ _ => if corrected then logSec t else t
    | .unusable => logDed t
  else
    match repairResult i v with
    | .usable corrected code body => if corrected then logSec (t.restore i code body) else t.restore i code body
    | .unusable => t.failRepair i

/-- REPAIR_READ_COMPLETION (R64, R13). With no repair read in flight the event does not occur. -/
def execRepairReadCompletion (found : Option NvSlot) (s : State) : Host.Outcome State Fault Refusal :=
  .next (match s.nva.op with
    | .read i => s.completeRepair i (found.getD (s.nva.slot (itemSlot i)))
    | .free => s
    | .write _ => s)

end Sys2Proof.Machine
end

