-- ==== Sys2Proof/Machine/Query.lean ====
section
/-! DEFINITION. STATUS_QUERY: the reports of R114, R131 and R156 assembled by R168 in the layout of Table 12-7. -/

namespace Sys2Proof.Machine

/-- Table 12-7: the code of the job state and stage. -/
def Job.code : Job → Byte
  | .idle => 0
  | .compose _ => 1
  | .check _ _ => 2
  | .patch _ => 3

/-- Table 12-7: the code of a thermal state. -/
def ThermalState.code : ThermalState → Byte
  | .normal => 0
  | .warm => 1
  | .hotOff => 2
  | .cooledWait => 3

/-- Table 12-6: the code of a restart mode. -/
def RestartMode.code : RestartMode → Byte
  | .auto => 0
  | .manual => 1

/-- Table 12-7: pending settings present, enable and resolution; fields with no value are zero. -/
def pendingSettingsBytes : Option PanelSettings → List Byte
  | none => [0, 0, 0]
  | some n => [1, flagByte n.enable, n.resolution.code]

/-- R114: the layer count and PRICE layer count of a scene, zero where there is none. -/
def sceneCounts : Option Scene → List Byte
  | none => [0, 0]
  | some sc => [byteOf sc.layers.length, byteOf sc.priceCount]

/-- Bits from truth values, the first the lowest. -/
def bitsOf : List Bool → Nat
  | [] => 0
  | b :: rest => (if b then 1 else 0) + 2 * bitsOf rest

/-- Table 12-7: the panel block. -/
def panelBlock (s : State) (p : Fin 4) : List Byte :=
  let r := s.panel.panels[p]
  let v := s.scenes.panels[p]
  [flagByte r.installed.enable, r.installed.resolution.code] ++ pendingSettingsBytes r.pendingSettings
    ++ [byteOf (bitsOf [r.pendingCurve.isSome, r.pendingThermal.isSome]), r.thermalState.code, flagByte r.sensorFault,
        r.thermal.restart.code, 0]
    ++ leBytes 2 r.thermal.derateCap ++ leBytes 2 r.target ++ leBytes 2 r.applied ++ leBytes 2 r.lastAmbient
    ++ leBytes 2 r.lastThermistor
    ++ [byteOf (s.engine.frontIndex p).val, flagByte s.engine.outputs[p].showing,
        byteOf (bitsOf [v.building.isSome, v.pending.isSome, v.active.isSome])]
    ++ sceneCounts v.building ++ sceneCounts v.pending ++ sceneCounts v.active ++ [0, 0, 0]

/-- R168: the answer of STATUS_QUERY, from byte 4 of the status record. -/
def statusReport (s : State) : List Byte :=
  [loadByte s.nva.loading, commitByte s.stager.commit] ++ leBytes 2 s.stager.commitNumber.toNat
    ++ [byteOf s.daypart.live.val, s.engine.rate.byte, s.engine.job.code, byteOf s.engine.shown.length]
    ++ leBytes 2 s.engine.late ++ leBytes 2 s.checker.suspended.length
    ++ [flagByte s.checker.latch, flagByte s.checker.armed, byteOf s.checker.lastResult.code,
        byteOf (s.panel.scanPosition.val + (if s.panel.conversion.isSome then 128 else 0))]
    ++ zeros 12 ++ panelBlock s 0 ++ panelBlock s 1 ++ panelBlock s 2 ++ panelBlock s 3

/-- R168: STATUS_QUERY changes no state but the port's own. -/
def statusQueryOwner (s : State) : CommandResult := { state := s, status := .ok, answer := statusReport s }

/-- STATUS_QUERY taken. -/
def takeStatusQuery (go : BitVec 32) (s : State) : State := s.takeCommand 0x41 go statusQueryOwner

/-- STATUS_QUERY (R168, R114, R131, R156, R167). -/
def execStatusQuery (go : BitVec 32) (s : State) : Host.Outcome State Fault Refusal :=
  .next (takeStatusQuery go (s.writeRecord [(0, [0x41])]))

end Sys2Proof.Machine
end

