-- ==== Sys2Proof/Machine/Port.lean ====
section
/-! DEFINITION. The content port controller: the control area as it is read, window reads and writes, the go word,
UNKNOWN_COMMAND and MESSAGE_ENABLE (Chapter 12). -/

namespace Sys2Proof.Machine

/-! ### The control area as it is read -/

/-- R171: the identification words. -/
def identification (s : State) : List Byte :=
  leBytes 4 0x50510004 ++ [Config.revision, flagByte s.assets.large, byteOf s.link.unit, 0]
    ++ leBytes 4 s.assets.poolSize ++ zeros 4

/-- Table 12-9: the code of a load fault's kind. -/
def LoadFaultKind.code : LoadFaultKind → Nat
  | .align => 1
  | .windowMiss => 2
  | .bounds => 3

/-- Table 12-9: the two words of the load-fault record. Without a fault both read 0 (DESIGN CHOICE, log entry 40), and so
do the bits that the table does not name (log entry 39). -/
def loadFaultBytes : Option LoadFault → List Byte
  | none => zeros 8
  | some f =>
    leBytes 4 (1 + (if f.more then 2 else 0) + 256 * f.kind.code + 65536 * f.window.val) ++ leBytes 4 f.offset

/-- R168, Table 12-7: the status record, its answer bytes from byte 4. -/
def statusRecordBytes (r : StatusRecord) : List Byte := [r.code, r.status] ++ leBytes 2 r.tag.toNat ++ r.answer

/-- The control area from 4000000h: identification, go word, summary word, load-fault record, command record, status
record. Offsets beyond these bytes read zero. -/
def controlImage (s : State) : List Byte :=
  identification s ++ leBytes 4 s.port.goTag.toNat ++ leBytes 4 s.port.summary.toNat
    ++ loadFaultBytes s.assets.loadFault ++ s.port.record.toList ++ zeros 32 ++ statusRecordBytes s.port.status

/-- The first offset of the control area. -/
def controlBase : Nat := 0x4000000

/-- R166: a control-area access must be 4 or 8 bytes long and aligned to its length. -/
def accessFits (offset length : Nat) : Bool :=
  decide (length = 4 ∨ length = 8) && decide (offset % length = 0)

/-- Whether an access covers the word at an offset. -/
def coversWord (offset length word : Nat) : Bool := decide (offset ≤ word) && decide (word < offset + length)

/-- The window offset of the go word. -/
def goOffset : Nat := 0x4000010

/-- The window offset of the summary word. -/
def summaryOffset : Nat := 0x4000014

/-- The window offset of the first word of the load-fault record. -/
def loadFaultOffset : Nat := 0x4000018

/-! ### Reads -/

/-- What a window read returns (R89, R166). -/
def State.windowData (s : State) (offset length : Nat) : List Byte :=
  if controlBase ≤ offset ∧ accessFits offset length then
    (List.range length).map (fun k => (controlImage s).getD (offset - controlBase + k) 0)
  else zeros length

/-- R169, R170: a read of the summary word clears every flag and arms the interrupt. -/
def ContentPort.summaryRead (p : ContentPort) : ContentPort := { p with summary := 0, armed := true }

/-- R88, R166, R169: what a window read changes: the words it covers, where its size and alignment fit. -/
def State.windowRead (s : State) (offset length : Nat) : State :=
  let fits := decide (controlBase ≤ offset) && accessFits offset length
  let port := if fits && coversWord offset length summaryOffset then s.port.summaryRead else s.port
  { s with
    port := { port with readData := s.windowData offset length },
    assets := if fits && coversWord offset length loadFaultOffset then { s.assets with loadFault := none } else s.assets }

/-- SUMMARY_WORD_READ (R166, R169, R170). -/
def execSummaryWordRead (offset : BitVec 27) (length : Nat) (s : State) : Host.Outcome State Fault Refusal :=
  .next (s.windowRead offset.toNat length)

/-- LOAD_FAULT_RECORD_READ (R166, R88). -/
def execLoadFaultRecordRead (offset : BitVec 27) (length : Nat) (s : State) : Host.Outcome State Fault Refusal :=
  .next (s.windowRead offset.toNat length)

/-! ### The go word -/

/-- R167: a command whose code is not in Table 12-6. -/
def takeUnknownCommand (code : Byte) (go : BitVec 32) (s : State) : State :=
  s.takeCommand code go (fun t => refuse t .badCommand)

/-- R167, Table 12-6: a go-word write takes the command that the record holds. -/
def State.runRecord (s : State) (go : BitVec 32) : State :=
  let r := s.port.record
  match (rec8 r 0).toNat with
  | 0x01 => takeAssetOpen go (OpenForm.ofRecord r) s
  | 0x02 => takeAssetClose go (rec16 r 4) s
  | 0x03 => takeAssetAbort go (rec16 r 4) s
  | 0x04 => takeAssetFree go (rec16 r 4) s
  | 0x05 => takeAssetQuery go (rec16 r 4) s
  | 0x10 => takeSceneBegin go (SceneForm.ofRecord r) s
  | 0x11 => takeLayerAdd go (LayerForm.ofRecord r) s
  | 0x12 => takeSceneSubmit go (rec8 r 4) s
  | 0x13 => takeSceneDiscard go (rec8 r 4) s
  | 0x20 => takeStyleSet go (StyleForm.ofRecord r) s
  | 0x30 => takePanelSet go (rec8 r 4) (rec8 r 5) (rec8 r 6) s
  | 0x31 => takeCurveSet go (CurveForm.ofRecord r) s
  | 0x32 => takeThermalSet go (ThermalForm.ofRecord r) s
  | 0x33 => takeBacklightRestart go (rec8 r 4) s
  | 0x34 => takeFrameRateSet go (rec8 r 4) s
  | 0x40 => takeItemQuery go (rec16 r 4) s
  | 0x41 => takeStatusQuery go s
  | 0x42 => takeCheckTest go s
  | _ => takeUnknownCommand (rec8 r 0) go s

/-- UNKNOWN_COMMAND (R167). The go word takes the command the record holds, as any go-word write does. -/
def execUnknownCommand (go : BitVec 32) (code : Byte) (s : State) : Host.Outcome State Fault Refusal :=
  .next ((s.writeRecord [(0, [code])]).runRecord go)

/-! ### Writes -/

/-- R166: a control-area write of fitting size and alignment: the go word takes a command, the command record stores,
and every other offset ignores. -/
def State.controlWrite (s : State) (o : Nat) (data : List Byte) : State :=
  if o = 0x10 then s.runRecord (BitVec.ofNat 32 (leAt data 0 4))
  else if 0x20 ≤ o ∧ o < 0x60 then s.writeRecord [(o - 0x20, data)]
  else s

/-- R85, R166: a write to the content window. -/
def State.windowWrite (s : State) (offset : Nat) (data : List Byte) : State :=
  if offset < controlBase then s.apertureWrite offset data
  else if accessFits offset data.length then s.controlWrite (offset - controlBase) data
  else s

/-- REGISTER_WRITE (R166, R167). -/
def execRegisterWrite (offset : BitVec 27) (data : List Byte) (s : State) : Host.Outcome State Fault Refusal :=
  .next (s.windowWrite offset.toNat data)

/-! ### The interrupt message -/

/-- MESSAGE_ENABLE (R170): it sends nothing by itself. -/
def execMessageEnable (enabled : Bool) (s : State) : Host.Outcome State Fault Refusal :=
  .next { s with port := { s.port with messageEnabled := enabled } }

end Sys2Proof.Machine
end

