-- ==== Sys2Proof/Machine/Resets.lean ====
section
/-! DEFINITION. The two resets: POWER_ON_RESET, which also stands for the RESET pin, and PCIE_LINK_RESET (R65, R97, R110,
R130, R144, R165, R171 and the reset tables of every chapter). -/

namespace Sys2Proof.Machine

/-! ### Power-on reset -/

/-- R65: the array as a power-on reset leaves it: a write in flight is cut short and its slot left as the erase or
program stood, a free value (log entry 6). -/
def State.arrayAtReset (s : State) : List (SlotId × NvSlot) :=
  match s.nva.op with
  | .write w => (s.nva.setSlot w.slot (Config.cutShort s.draws)).array
  | .free => s.nva.array
  | .read _ => s.nva.array

/-- The free values drawn once the reset has left the array. -/
def State.drawsAtReset (s : State) : Nat :=
  match s.nva.op with
  | .write _ => s.draws + 1
  | .free => s.draws
  | .read _ => s.draws

/-- POWER_ON_RESET (R3, R65, R80, R98, R115, R130, R144, R158, R165, R168 to R171): every block at its reset state, the
array and the journal kept, the straps sampled, the start-up load in flight. The commands still waiting, the bytes of
asset memory and the model's own output fields stay. -/
def execPowerOnReset (addressStraps : BitVec 5) (largeMemory : Bool) (s : State) : Host.Outcome State Fault Refusal :=
  let t := State.afterReset addressStraps largeMemory s.arrayAtReset s.nva.journal s.assets.memory
  .next { t with
    port := { t.port with messages := s.port.messages, readData := s.port.readData },
    draws := s.drawsAtReset,
    pending := s.pending }

/-! ### PCIe link reset -/

/-- Whether an entry is LOADING. -/
def AssetEntry.isLoading : AssetEntry → Bool
  | .loading _ _ => true
  | .empty => false
  | .ready _ _ _ => false
  | .retiring _ _ _ => false

/-- R97: every LOADING asset is discarded, every window unbound and the load-fault record emptied. -/
def AssetMap.linkReset (m : AssetMap) : AssetMap :=
  { m with entries := m.entries.filter (fun e => !e.2.isLoading), windows := Vector.replicate 4 none, loadFault := none }

/-- R110: the building scene of every panel is discarded, in panel order. -/
def State.discardAllBuilding (s : State) : State := (List.finRange 4).foldl State.discardBuilding s

/-- R167 to R171: what the link reset does to the content port. -/
def ContentPort.linkReset (p : ContentPort) : ContentPort :=
  { p with record := Vector.replicate 64 0, goTag := 0, status := StatusRecord.clear, summary := 0, armed := true,
           messageEnabled := false }

/-- PCIE_LINK_RESET (R97, R110, R167 to R171). -/
def execPcieLinkReset (s : State) : Host.Outcome State Fault Refusal :=
  let t := ({ s with assets := s.assets.linkReset }).discardAllBuilding
  .next { t with port := t.port.linkReset }

end Sys2Proof.Machine
end

