-- ==== Sys2Proof/Machine/Dispatch.lean ====
section
/-! DEFINITION. What each command does to everything but the queue: one arm for each row of spec/opcode_table.json, in the
table's order. -/

namespace Sys2Proof.Machine

def exec (i : Instr) (s : State) : Host.Outcome State Fault Refusal :=
  match i with
  | .powerOnReset addressStraps largeMemory => Sys2Proof.Machine.execPowerOnReset addressStraps largeMemory s
  | .pcieLinkReset => Sys2Proof.Machine.execPcieLinkReset s
  | .loadCompletion slots journal => Sys2Proof.Machine.execLoadCompletion slots journal s
  | .lineByte b framingError => Sys2Proof.Machine.execLineByte b framingError s
  | .idlePeriodExpiry => Sys2Proof.Machine.execIdlePeriodExpiry s
  | .frameGapExpiry => Sys2Proof.Machine.execFrameGapExpiry s
  | .frameDropped frame => Sys2Proof.Machine.execFrameDropped frame s
  | .unknownKind addressing kind payload => Sys2Proof.Machine.execUnknownKind addressing kind payload s
  | .answerBegin => Sys2Proof.Machine.execAnswerBegin s
  | .answerEnd => Sys2Proof.Machine.execAnswerEnd s
  | .status addressing payload => Sys2Proof.Machine.execStatus addressing payload s
  | .itemStage addressing payload => Sys2Proof.Machine.execItemStage addressing payload s
  | .itemRemove addressing payload => Sys2Proof.Machine.execItemRemove addressing payload s
  | .promoStage addressing payload => Sys2Proof.Machine.execPromoStage addressing payload s
  | .rulesStage addressing payload => Sys2Proof.Machine.execRulesStage addressing payload s
  | .stageAbort addressing payload => Sys2Proof.Machine.execStageAbort addressing payload s
  | .commit addressing payload => Sys2Proof.Machine.execCommit addressing payload s
  | .commitCheckCompletion upsets => Sys2Proof.Machine.execCommitCheckCompletion upsets s
  | .apply addressing payload => Sys2Proof.Machine.execApply addressing payload s
  | .commitCancel addressing payload => Sys2Proof.Machine.execCommitCancel addressing payload s
  | .holdExpiry => Sys2Proof.Machine.execHoldExpiry s
  | .availSet addressing payload => Sys2Proof.Machine.execAvailSet addressing payload s
  | .scheduleSet addressing payload => Sys2Proof.Machine.execScheduleSet addressing payload s
  | .daypartForce addressing payload => Sys2Proof.Machine.execDaypartForce addressing payload s
  | .timeSet addressing payload => Sys2Proof.Machine.execTimeSet addressing payload s
  | .itemRead addressing payload => Sys2Proof.Machine.execItemRead addressing payload s
  | .suspendedList addressing payload => Sys2Proof.Machine.execSuspendedList addressing payload s
  | .suspendClear addressing payload => Sys2Proof.Machine.execSuspendClear addressing payload s
  | .nvaReport addressing payload => Sys2Proof.Machine.execNvaReport addressing payload s
  | .checkTest path => Sys2Proof.Machine.execCheckTest path s
  | .secondTick => Sys2Proof.Machine.execSecondTick s
  | .frameStart panelFirst => Sys2Proof.Machine.execFrameStart panelFirst s
  | .composePanelFill => Sys2Proof.Machine.execComposePanelFill s
  | .composeLayer upsets => Sys2Proof.Machine.execComposeLayer upsets s
  | .composeStageEnd => Sys2Proof.Machine.execComposeStageEnd s
  | .checkRecord upsets stuck => Sys2Proof.Machine.execCheckRecord upsets stuck s
  | .checkStageEnd => Sys2Proof.Machine.execCheckStageEnd s
  | .patchRecord => Sys2Proof.Machine.execPatchRecord s
  | .jobCompletion => Sys2Proof.Machine.execJobCompletion s
  | .slotWriteBegin upsets => Sys2Proof.Machine.execSlotWriteBegin upsets s
  | .slotWriteCompletion found => Sys2Proof.Machine.execSlotWriteCompletion found s
  | .repairReadStart => Sys2Proof.Machine.execRepairReadStart s
  | .repairReadCompletion found => Sys2Proof.Machine.execRepairReadCompletion found s
  | .sensorConversionCompletion code => Sys2Proof.Machine.execSensorConversionCompletion code s
  | .apertureWrite offset data => Sys2Proof.Machine.execApertureWrite offset data s
  | .summaryWordRead offset length => Sys2Proof.Machine.execSummaryWordRead offset length s
  | .loadFaultRecordRead offset length => Sys2Proof.Machine.execLoadFaultRecordRead offset length s
  | .registerWrite offset data => Sys2Proof.Machine.execRegisterWrite offset data s
  | .unknownCommand go code => Sys2Proof.Machine.execUnknownCommand go code s
  | .assetOpen go form => Sys2Proof.Machine.execAssetOpen go form s
  | .assetClose go handle => Sys2Proof.Machine.execAssetClose go handle s
  | .assetAbort go handle => Sys2Proof.Machine.execAssetAbort go handle s
  | .assetFree go handle => Sys2Proof.Machine.execAssetFree go handle s
  | .assetQuery go handle => Sys2Proof.Machine.execAssetQuery go handle s
  | .sceneBegin go form => Sys2Proof.Machine.execSceneBegin go form s
  | .layerAdd go form => Sys2Proof.Machine.execLayerAdd go form s
  | .sceneSubmit go panel => Sys2Proof.Machine.execSceneSubmit go panel s
  | .sceneDiscard go panel => Sys2Proof.Machine.execSceneDiscard go panel s
  | .styleSet go form => Sys2Proof.Machine.execStyleSet go form s
  | .panelSet go panel enable resolution => Sys2Proof.Machine.execPanelSet go panel enable resolution s
  | .curveSet go form => Sys2Proof.Machine.execCurveSet go form s
  | .thermalSet go form => Sys2Proof.Machine.execThermalSet go form s
  | .backlightRestart go panel => Sys2Proof.Machine.execBacklightRestart go panel s
  | .frameRateSet go rate => Sys2Proof.Machine.execFrameRateSet go rate s
  | .itemQuery go code => Sys2Proof.Machine.execItemQuery go code s
  | .statusQuery go => Sys2Proof.Machine.execStatusQuery go s
  | .messageEnable enabled => Sys2Proof.Machine.execMessageEnable enabled s

end Sys2Proof.Machine
end

