-- ==== Sys2Proof/WellFormed.lean ====
section
/-! DEFINITION. Which commands can occur: the lengths of Table 12-1, what makes a frame dropped or a kind unknown, and the
sizes and places of window accesses (R85, R88, R157 to R159, R166, R167, R169), and what an upset datapath can give (9.5).
-/

namespace Sys2Proof

open Sys2Proof.Machine

/-- Table 12-1: a payload holds 0..64 bytes. -/
def payloadFits (payload : List Byte) : Bool := decide (payload.length ≤ 64)

/-- Table 12-2: the kinds of requests are 01h..12h. -/
def knownKind (kind : Byte) : Bool := decide (1 ≤ kind.toNat) && decide (kind.toNat ≤ 0x12)

/-- R157: the bytes from the address byte to the low CRC byte are a complete frame. -/
def wholeFrame (frame : List Byte) : Bool :=
  decide (byteAt frame 2 ≤ 64) && decide (frame.length = byteAt frame 2 + 5)

/-- R158: a broadcast request whose CRC agrees is dropped at no unit. -/
def acceptedEverywhere (frame : List Byte) : Bool :=
  decide ((crc16 (frame.take (3 + byteAt frame 2))).toNat = beAt frame (3 + byteAt frame 2) 2)
    && decide (byteAt frame 1 < 128) && decide (byteAt frame 0 = 0)

/-- Table 12-6: the codes of content commands. -/
def commandCodes : List Nat :=
  [0x01, 0x02, 0x03, 0x04, 0x05, 0x10, 0x11, 0x12, 0x13, 0x20, 0x30, 0x31, 0x32, 0x33, 0x34, 0x40, 0x41, 0x42]

/-- R85: an aperture write carries 1..256 bytes and crosses no 4 KiB boundary. -/
def apertureWriteFits (offset length : Nat) : Bool :=
  decide (1 ≤ length) && decide (length ≤ 256) && decide (offset % 4096 + length ≤ 4096)

/-- R166: a control-area access of fitting size and alignment that covers the word at an offset. -/
def accessCovers (offset length word : Nat) : Bool :=
  (decide (length = 4) || decide (length = 8)) && decide (offset % length = 0) && decide (offset ≤ word)
    && decide (word < offset + length)

namespace Machine

/-- R18, R71, R73: an upset datapath still gives a price of 0..999,999 and a string of 1..9 glyphs, each 0..13. -/
def ComposeUpset.fits (u : ComposeUpset) : Bool :=
  u.price.all (fun e => decide (e.1 ≤ maxPrice))
    && u.glyphs.all (fun gs => decide (1 ≤ gs.length) && decide (gs.length ≤ 9) && gs.all (fun g => decide (g ≤ 13)))

end Machine

/-- A command that can occur as the row of the table that it stands for. -/
def Instr.wellFormed (i : Instr) : Bool :=
  match i with
  | .powerOnReset _ _ => true
  | .pcieLinkReset => true
  | .loadCompletion _ _ => true
  | .lineByte _ _ => true
  | .idlePeriodExpiry => true
  | .frameGapExpiry => true
  | .frameDropped frame => wholeFrame frame && !acceptedEverywhere frame
  | .unknownKind _ kind payload => !knownKind kind && decide (kind.toNat < 128) && payloadFits payload
  | .answerBegin => true
  | .answerEnd => true
  | .status _ payload => payloadFits payload
  | .itemStage _ payload => payloadFits payload
  | .itemRemove _ payload => payloadFits payload
  | .promoStage _ payload => payloadFits payload
  | .rulesStage _ payload => payloadFits payload
  | .stageAbort _ payload => payloadFits payload
  | .commit _ payload => payloadFits payload
  | .commitCheckCompletion _ => true
  | .apply _ payload => payloadFits payload
  | .commitCancel _ payload => payloadFits payload
  | .holdExpiry => true
  | .availSet _ payload => payloadFits payload
  | .scheduleSet _ payload => payloadFits payload
  | .daypartForce _ payload => payloadFits payload
  | .timeSet _ payload => payloadFits payload
  | .itemRead _ payload => payloadFits payload
  | .suspendedList _ payload => payloadFits payload
  | .suspendClear _ payload => payloadFits payload
  | .nvaReport _ payload => payloadFits payload
  | .checkTest (.posLink _ payload) => payloadFits payload
  | .checkTest (.contentPort _) => true
  | .secondTick => true
  | .frameStart _ => true
  | .composePanelFill => true
  | .composeLayer upsets => upsets.datapath.fits
  | .composeStageEnd => true
  | .checkRecord _ _ => true
  | .checkStageEnd => true
  | .patchRecord => true
  | .jobCompletion => true
  | .slotWriteBegin _ => true
  | .slotWriteCompletion _ => true
  | .repairReadStart => true
  | .repairReadCompletion _ => true
  | .sensorConversionCompletion _ => true
  | .apertureWrite offset data => apertureWriteFits offset.toNat data.length
  | .summaryWordRead offset length => accessCovers offset.toNat length 0x4000014
  | .loadFaultRecordRead offset length => accessCovers offset.toNat length 0x4000018
  | .registerWrite offset data =>
    decide (0x4000000 ≤ offset.toNat) && !accessCovers offset.toNat data.length 0x4000010
  | .unknownCommand _ code => !commandCodes.contains code.toNat
  | .assetOpen _ _ => true
  | .assetClose _ _ => true
  | .assetAbort _ _ => true
  | .assetFree _ _ => true
  | .assetQuery _ _ => true
  | .sceneBegin _ _ => true
  | .layerAdd _ _ => true
  | .sceneSubmit _ _ => true
  | .sceneDiscard _ _ => true
  | .styleSet _ _ => true
  | .panelSet _ _ _ _ => true
  | .curveSet _ _ => true
  | .thermalSet _ _ => true
  | .backlightRestart _ _ => true
  | .frameRateSet _ _ => true
  | .itemQuery _ _ => true
  | .statusQuery _ => true
  | .messageEnable _ => true

end Sys2Proof
end

