-- ==== Sys2Proof/Safety.lean ====
section
/-! DEFINITION. What a sound state is, block by block: the promises the spec makes about the records, sets, queues and
counts that every step keeps. Each is a plain decidable statement about the state. -/

namespace Sys2Proof.Machine

/-! ### Runs, requests and commands -/

/-- The state after a list of commands, where every one answers a next state. -/
def State.after (s : State) : List Instr → Option State
  | [] => some s
  | c :: rest =>
    match exec c s with
    | .next t => t.after rest
    | .fault _ => none
    | .refused _ => none

/-- Table 12-2: the row of the table that a request kind is. -/
def requestRow (kind : Nat) (a : Addressing) (payload : List Byte) : Option Instr :=
  match kind with
  | 0x01 => some (.status a payload)
  | 0x02 => some (.itemStage a payload)
  | 0x03 => some (.itemRemove a payload)
  | 0x04 => some (.promoStage a payload)
  | 0x05 => some (.rulesStage a payload)
  | 0x06 => some (.stageAbort a payload)
  | 0x07 => some (.commit a payload)
  | 0x08 => some (.apply a payload)
  | 0x09 => some (.commitCancel a payload)
  | 0x0A => some (.availSet a payload)
  | 0x0B => some (.scheduleSet a payload)
  | 0x0C => some (.daypartForce a payload)
  | 0x0D => some (.timeSet a payload)
  | 0x0E => some (.itemRead a payload)
  | 0x0F => some (.suspendedList a payload)
  | 0x10 => some (.suspendClear a payload)
  | 0x11 => some (.nvaReport a payload)
  | 0x12 => some (.checkTest (.posLink a payload))
  | _ => none

/-- The table of 11.2: the payload lengths that fit a kind. -/
def lengthFitsKind (kind : Nat) (payload : List Byte) : Bool :=
  match kind with
  | 0x02 => decide (payload.length = 16)
  | 0x03 => decide (payload.length = 2)
  | 0x04 => decide (payload.length = 6)
  | 0x05 => decide (payload.length = 6)
  | 0x07 => decide (payload.length = 5)
  | 0x0A => [3, 6, 9, 12, 15, 18, 21, 24, 27, 30, 33, 36, 39, 42, 45, 48].contains payload.length
  | 0x0B => match payload with
    | [] => false
    | n :: rest => decide (rest.length = 3 * n.toNat)
  | 0x0C => decide (payload.length = 1)
  | 0x0D => decide (payload.length = 3)
  | 0x0E => decide (payload.length = 2)
  | 0x0F => decide (payload.length = 2)
  | 0x10 => decide (payload.length = 2)
  | _ => decide (payload.length = 0)

/-- The table of 11.2: the kinds that may be broadcast. -/
def broadcastKinds : List Nat := [0x08, 0x0A, 0x0C, 0x0D]

/-- R159: an addressed request passes its first two tests, and the receiver listens. -/
abbrev State.TakesRequests (s : State) : Prop := s.sending = false ∧ s.nva.loading = false ∧ s.checking = false

/-- A request is carried out and its answer held (R161): `t` is what its owner made of the state that the end of the frame
left. -/
def State.answers (t : State) (kind : Byte) (payload : List Byte) : Host.Outcome State Fault Refusal :=
  .next (t.holdAnswer kind payload)

/-- The staging request that stages an entry (Tables 12-2 to 12-4), with its kind. -/
def stagingRow (e : StagedEntry) : Instr × Byte :=
  match e with
  | .itemSet code body => (.itemStage .addressed (itemForm code body), 0x02)
  | .itemRemove code => (.itemRemove .addressed (beBytes 2 code), 0x03)
  | .promoSet i p => (.promoStage .addressed (byteOf i.val :: promoForm p), 0x04)
  | .rulesSet r => (.rulesStage .addressed (rulesForm r), 0x05)

/-- The state with another staging list. -/
def State.withStaging (s : State) (l : List StagedEntry) : State := { s with stager := { s.stager with staging := l } }

/-- The state with another commit record. -/
def State.withCommit (s : State) (c : Option CommitRecord) : State := { s with stager := { s.stager with commit := c } }

/-- Table 12-1: the bytes of a frame, from its start byte to its low CRC byte. -/
def frameBytes (address kind : Byte) (payload : List Byte) : List Byte :=
  let body := [address, kind, byteOf payload.length] ++ payload
  startByte :: (body ++ beBytes 2 (crc16 body).toNat)

/-- The address byte that carries an addressed request, or a broadcast, to a unit. -/
def addressByte (unit : Nat) (a : Addressing) : Byte :=
  match a with
  | .addressed => byteOf unit
  | .broadcast => 0

/-- A content command as the media player writes it (Table 12-6): its code, its go word and its record fields. -/
structure CommandRow where
  code : Byte
  go : BitVec 32
  fields : List (Nat × List Byte)

/-- Table 12-6: what a command row writes; none for the rows that are no content command. -/
def commandRow (i : Instr) : Option CommandRow :=
  match i with
  | .assetOpen go f => some ⟨0x01, go, f.fields⟩
  | .assetClose go h => some ⟨0x02, go, [(4, two h)]⟩
  | .assetAbort go h => some ⟨0x03, go, [(4, two h)]⟩
  | .assetFree go h => some ⟨0x04, go, [(4, two h)]⟩
  | .assetQuery go h => some ⟨0x05, go, [(4, two h)]⟩
  | .sceneBegin go f => some ⟨0x10, go, f.fields⟩
  | .layerAdd go f => some ⟨0x11, go, f.fields⟩
  | .sceneSubmit go p => some ⟨0x12, go, [(4, [p])]⟩
  | .sceneDiscard go p => some ⟨0x13, go, [(4, [p])]⟩
  | .styleSet go f => some ⟨0x20, go, f.fields⟩
  | .panelSet go p e r => some ⟨0x30, go, [(4, [p, e, r])]⟩
  | .curveSet go f => some ⟨0x31, go, f.fields⟩
  | .thermalSet go f => some ⟨0x32, go, f.fields⟩
  | .backlightRestart go p => some ⟨0x33, go, [(4, [p])]⟩
  | .frameRateSet go r => some ⟨0x34, go, [(4, [r])]⟩
  | .itemQuery go c => some ⟨0x40, go, [(4, two c)]⟩
  | .statusQuery go => some ⟨0x41, go, []⟩
  | .checkTest (.contentPort go) => some ⟨0x42, go, []⟩
  | _ => none

/-- The state when a command is taken: its fields in the command record, its tag in the go word. -/
def State.taken (s : State) (r : CommandRow) : State := (s.writeRecord ((0, [r.code]) :: r.fields)).tagged r.go

/-- A content command completes: `effect` is what its owner makes of the state in which it is taken; its status record and
CMD_DONE follow (R167, R168). -/
def State.Completes (s : State) (i : Instr) (effect : State → State) (st : ContentStatus) (answer : List Byte) : Prop :=
  ∃ r, commandRow i = some r ∧ exec i s = .next ((effect (s.taken r)).completed r.code r.go st answer)

/-- A content command is refused with a status and changes nothing but the port's own registers (R168). -/
abbrev State.Refuses (s : State) (i : Instr) (st : ContentStatus) : Prop := s.Completes i id st []

/-! ### Records (R1, R2, R4, R6, R23, R28, R43) -/

/-- R1, R4, R6: a staged entry carries a code and a record that satisfy the conditions of their kind. -/
def StagedEntry.valid (e : StagedEntry) : Bool :=
  match e with
  | .itemSet code body => validCode code && body.valid
  | .itemRemove code => validCode code
  | .promoSet _ p => p.valid
  | .rulesSet r => r.valid

/-- A list of staged entries as R23 keeps it: at most 64, one for each key, each valid. -/
abbrev EntriesSound (l : List StagedEntry) : Prop :=
  l.length ≤ 64 ∧ (l.map StagedEntry.key).Nodup ∧ ∀ e ∈ l, e.valid = true

/-- R2: indices strictly rising, codes distinct, each code and body as R1 asks. -/
abbrev ItemsSound (items : List (ItemIndex × Item)) : Prop :=
  Sparse.rising items = true ∧ (items.map (fun e => e.2.code)).Nodup ∧
    ∀ e ∈ items, validCode e.2.code = true ∧ e.2.body.valid = true

/-- R4, R6, R43: the promotions, the rules and the schedule satisfy the conditions of their kind. -/
abbrev SettingsSound (s : State) : Prop :=
  (∀ i : Fin 32, s.table.promos[i].valid = true) ∧ s.table.rules.valid = true ∧ scheduleValid s.daypart.schedule = true

/-- R28, R29: a CHECKING record holds no entries, any other record holds the entries of a staging list. -/
abbrev CommitSound (c : CommitRecord) : Prop :=
  EntriesSound c.entries ∧ (c.state = .checking → c.entries = [])

/-- The records of the price table, the change stager and the daypart unit are sound. -/
structure RecordsSound (s : State) : Prop where
  items : ItemsSound s.table.items
  settings : SettingsSound s
  staging : EntriesSound s.stager.staging
  commit : ∀ c, s.stager.commit = some c → CommitSound c

/-! ### Entries that exist for live items only (R10, R138) -/

/-- R10, R138: pending-availability and suspension entries exist only for items of the live table, one for a code. -/
structure SetsSound (s : State) : Prop where
  availRising : Sparse.rising s.table.pendingAvail = true
  availLive : ∀ e ∈ s.table.pendingAvail, s.table.has e.1 = true
  suspendedRising : Sparse.rising s.checker.suspended = true
  suspendedLive : ∀ e ∈ s.checker.suspended, s.table.has e.1 = true

/-! ### The NV price array (R58 to R63) -/

/-- Whether the array writes a slot now. -/
def Nva.writes (n : Nva) (k : SlotId) : Bool :=
  match n.op with
  | .write w => decide (w.slot = k)
  | .free => false
  | .read _ => false

/-- R58 to R63: the queue holds exactly the DIRTY slots, each once; the WRITING slot is the one being written; a slot
whose repair is listed is CLEAN, listed once and not being read. -/
structure NvaSound (n : Nva) : Prop where
  queueOnce : n.queue.Nodup
  queueDirty : ∀ k, k ∈ n.queue ↔ n.slotState k = .dirty
  writing : ∀ k, n.slotState k = .writing ↔ n.writes k = true
  repairsOnce : n.repairs.Nodup
  repairsClean : ∀ i ∈ n.repairs, n.slotState (itemSlot i) = .clean
  readAlone : ∀ i, n.op = .read i → i ∉ n.repairs
  readState : ∀ i, n.op = .read i → n.slotState (itemSlot i) = .clean ∨ n.slotState (itemSlot i) = .dirty
  states : Sparse.canonical SlotState.clean n.slotStates = true

/-! ### Assets (R80 to R84, R94) -/

/-- R81, R83: an entry's geometry is one that ASSET_OPEN takes, and it has the pages that geometry needs. -/
def AssetEntry.sound (e : AssetEntry) : Bool :=
  match e with
  | .empty => true
  | .loading g pages => g.fieldsValid && decide (g.size ≤ maxAssetSize) && decide (pages.length = g.pageCount)
  | .ready g pages _ => g.fieldsValid && decide (g.size ≤ maxAssetSize) && decide (pages.length = g.pageCount)
  | .retiring g pages n =>
    g.fieldsValid && decide (g.size ≤ maxAssetSize) && decide (pages.length = g.pageCount) && decide (0 < n)

/-- Whether a page number lies in the pool of the strapped asset memory (R82, R83). -/
def AssetMap.inPool (m : AssetMap) (page : Nat) : Bool :=
  decide (poolStart ≤ page) && decide (page < poolStart + m.poolSize)

/-- R80 to R84: the entries are sound, no page belongs to two assets, every page lies in the pool, and a window is bound
to a handle exactly when that handle's asset is LOADING, to one window at most. -/
structure AssetsSound (m : AssetMap) : Prop where
  entries : Sparse.canonical AssetEntry.empty m.entries = true
  each : ∀ e ∈ m.entries, e.2.sound = true
  pagesOnce : m.usedPages.Nodup
  pagesInPool : ∀ p ∈ m.usedPages, m.inPool p = true
  windowLoading : ∀ n : Fin 4, ∀ h, m.windows[n] = some h → (m.entry h).isLoading = true
  loadingWindow : ∀ h, (m.entry h).isLoading = true → ∃ n : Fin 4, m.windows[n] = some h
  oneWindow : ∀ n k : Fin 4, ∀ h, m.windows[n] = some h → m.windows[k] = some h → n = k

/-- The handles that the PHOTO layers of a scene name, one for each layer. -/
def sceneNames (sc : Option Scene) : List Handle :=
  match sc with
  | none => []
  | some sc => sc.layers.filterMap Layer.asset

/-- The handles that the scenes of a panel name. -/
def PanelScenes.names (v : PanelScenes) : List Handle := sceneNames v.building ++ sceneNames v.pending ++ sceneNames v.active

/-- The fonts that the records of a style name. -/
def StyleSlot.names (v : StyleSlot) : List Handle :=
  v.current.font.toList ++ (v.pending.bind (·.font)).toList

/-- R94: what `k` releases leave of an entry: a count lowered by `k`, and EMPTY once the last reference of a RETIRING
asset is gone. -/
def AssetEntry.afterReleases (e : AssetEntry) (k : Nat) : AssetEntry :=
  match e with
  | .empty => .empty
  | .loading g pages => .loading g pages
  | .ready g pages n => .ready g pages (n - k)
  | .retiring g pages n => if k = 0 ∨ k < n then .retiring g pages (n - k) else .empty

/-- Every handle named by a layer or a style record, with repeats (R94). -/
def State.names (s : State) : List Handle :=
  s.scenes.panels.toList.flatMap PanelScenes.names ++ s.former.styles.toList.flatMap StyleSlot.names

/-- R94: an asset's reference count is the number of layers and style records that name it; EMPTY and LOADING assets are
named by none. -/
abbrev RefsSound (s : State) : Prop := ∀ h, (s.assets.entry h).refs = s.names.count h

/-! ### Panels (R144, R149, R151, R152) -/

/-- R151: the duty never exceeds the cap; R144, R150: a disabled panel has target and duty 0; R149, R152: curves and
thermal settings are such as their commands take. -/
structure PanelSound (r : PanelRecord) : Prop where
  cap : r.applied ≤ r.cap
  target : r.target ≤ 1000
  disabled : r.installed.enable = false → r.applied = 0 ∧ r.target = 0
  curve : r.curve.valid = true
  pendingCurve : ∀ c, r.pendingCurve = some c → c.valid = true
  thermal : r.thermal.valid = true
  pendingThermal : ∀ t, r.pendingThermal = some t → t.valid = true

/-! ### The glass (R76, R128, R136) -/

/-- The shown records that the patch stage has passed: all of them once the job has completed. -/
def FrameEngine.passed (e : FrameEngine) : List ShownRecord :=
  match e.job with
  | .idle => e.shown
  | .patch n => e.shown.take n
  | .compose _ => []
  | .check _ _ => []

/-- R76, R128: a record carries digit glyphs only when its dash reason is NONE. R136: of the records that the patch stage
has passed, none that the check stage rejected carries digits, and none does while the check-path-fail latch is set. -/
structure GlassSound (s : State) : Prop where
  digits : ∀ r ∈ s.engine.shown, r.reason ≠ .none → r.glyphs.any isDigitGlyph = false
  rejected : ∀ r ∈ s.engine.passed, r.mark.isSome = true → r.reason ≠ .none
  latched : s.checker.latch = true → ∀ r ∈ s.engine.passed, r.reason ≠ .none

/-! ### The POS link (R157, R158) -/

/-- R157, R158, R161: the unit address is 1..31; a frame in assembly is shorter than a whole one; no answer is held while
it is assembled. -/
structure LinkSound (l : PosLink) : Prop where
  unit : 1 ≤ l.unit ∧ l.unit ≤ 31
  assembling : ∀ b, l.receiver = .assembling b → b.length < 5 ∨ b.length < byteAt b 2 + 5
  lengthByte : ∀ b, l.receiver = .assembling b → 3 ≤ b.length → byteAt b 2 ≤ 64
  answer : ∀ b, l.receiver = .assembling b → l.answer = none

end Sys2Proof.Machine
end

