-- ==== Sys2Proof/Certificates/Slice0/Obligations.lean ====
section
/-! DEFINITION. The statements for the provers. Each names the rules it formalises or rests on in OBLIGATIONS.json. -/

open Sys2Proof Sys2Proof.Machine

/-! ### The queue and the resets -/

/-- The command at the front of the queue is carried out over the queue's rest.
The queue is the model's own field (log entry 1). -/
def Obligations.StepRunsFrontCommand : Prop :=
  ∀ (c : Instr) (s : State), step (s.pushed c) = exec c s

/-- Every command answers a next state, whatever the state, and leaves the waiting commands as they are. -/
def Obligations.EveryCommandCompletes : Prop :=
  ∀ (c : Instr) (s : State), ∃ t, exec c s = .next t ∧ t.pending = s.pending

/-- POWER_ON_RESET: every block at its reset state, the straps sampled, the load in flight, the array and journal kept. -/
def Obligations.PowerOnResetLeaves : Prop :=
  ∀ (straps : BitVec 5) (large : Bool) (s : State), ∃ t, exec (.powerOnReset straps large) s = .next t ∧
    t.table.items = [] ∧ t.table.pendingAvail = [] ∧
    t.stager = { staging := [], commit := none, commitNumber := 0, lastOutcome := .none } ∧
    t.daypart.time = none ∧ t.daypart.force = none ∧
    (t.nva.loading = true ∧ t.nva.op = .free ∧ t.nva.queue = [] ∧ t.nva.repairs = [] ∧ t.nva.faults = [] ∧
      t.nva.more = false ∧ t.nva.journal = s.nva.journal ∧
      ∀ k, s.nva.writes k = false → t.nva.slot k = s.nva.slot k) ∧
    (∀ i : Fin 16, t.former.styles[i] = { current := Style.standard, pending := none }) ∧
    ((∀ h, t.assets.entry h = .empty) ∧ (∀ n : Fin 4, t.assets.windows[n] = none) ∧ t.assets.loadFault = none ∧
      t.assets.freeCount = if large then 15360 else 7168) ∧
    (∀ p : Fin 4, t.scenes.panels[p] = { building := none, pending := none, active := none }) ∧
    (t.engine.rate = .hz60 ∧ t.engine.job = .idle ∧ t.engine.shown = [] ∧ t.engine.late = 0 ∧
      (∀ p : Fin 4, t.engine.outputs[p].showing = false ∧ (t.engine.frontIndex p).val = 2 * p.val) ∧
      ∀ (b : Fin 8) (x y : Nat), t.engine.buffers[b].read x y = Rgb.black) ∧
    t.checker = { suspended := [], armed := false, lastResult := .none, latch := false } ∧
    ((∀ p : Fin 4, t.panel.panels[p] = PanelRecord.standard) ∧ t.panel.scanPosition = 7 ∧ t.panel.conversion = none) ∧
    t.link = { unit := if straps.toNat = 0 then 1 else straps.toNat, receiver := .waitIdle, answer := none, summary := 0 } ∧
    ((∀ k : Fin 64, t.port.record[k] = 0) ∧ t.port.goTag = 0 ∧ t.port.status = StatusRecord.clear ∧
      t.port.summary = 0 ∧ t.port.armed = true ∧ t.port.messageEnabled = false)

/-- PCIE_LINK_RESET: the content port is cleared, LOADING assets and building scenes are discarded with the references that
the scenes held, and every other block keeps its state. An asset that becomes EMPTY has its pages back in the pool. -/
def Obligations.LinkResetClearsContentSideOnly : Prop :=
  ∀ s : State, Sparse.rising s.assets.entries = true → ∃ t, exec .pcieLinkReset s = .next t ∧
    t.table = s.table ∧ t.stager = s.stager ∧ t.daypart = s.daypart ∧ t.nva = s.nva ∧ t.former = s.former ∧
    t.engine = s.engine ∧ t.checker = s.checker ∧ t.panel = s.panel ∧ t.link = s.link ∧ t.draws = s.draws ∧
    t.pending = s.pending ∧
    t.port = { s.port with record := Vector.replicate 64 0, goTag := 0, status := StatusRecord.clear, summary := 0,
                           armed := true, messageEnabled := false } ∧
    (∀ p : Fin 4, t.scenes.panels[p] = { s.scenes.panels[p] with building := none }) ∧
    t.assets.large = s.assets.large ∧ t.assets.memory = s.assets.memory ∧ t.assets.loadFault = none ∧
    (∀ n : Fin 4, t.assets.windows[n] = none) ∧
    (∀ h, (s.assets.entry h).isLoading = true → t.assets.entry h = .empty) ∧
    (∀ h g pages n, s.assets.entry h = .ready g pages n →
      t.assets.entry h = .ready g pages
        (n - (s.scenes.panels.toList.flatMap (fun v => sceneNames v.building)).count h)) ∧
    (∀ h g pages n, s.assets.entry h = .retiring g pages n →
      let k := (s.scenes.panels.toList.flatMap (fun v => sceneNames v.building)).count h
      (k = 0 ∨ k < n → t.assets.entry h = .retiring g pages (n - k)) ∧
      (k ≠ 0 → n ≤ k → t.assets.entry h = .empty)) ∧
    (∀ h, s.assets.entry h = .empty → t.assets.entry h = .empty) ∧
    (AssetsSound s.assets → ∀ h, t.assets.entry h = .empty → ∀ x ∈ (s.assets.entry h).pageList, x ∉ t.assets.usedPages)

/-! ### The POS link -/

/-- LINE_BYTE, IDLE_PERIOD_EXPIRY and FRAME_GAP_EXPIRY: every move of the receiver that takes no frame.
That an expiry which is not due changes nothing is the model's choice (log entry 14). -/
def Obligations.ReceiverMovesByByteAndQuiet : Prop :=
  (∀ (s : State) (b : Byte) (fe : Bool),
      (s.sending = true → exec (.lineByte b fe) s = .next s) ∧
      (s.sending = false →
        (s.link.receiver = .waitIdle → exec (.lineByte b fe) s = .next s) ∧
        (s.link.receiver = .ready → b = 0xA5 → fe = false →
          exec (.lineByte b fe) s = .next (s.withdrawAnswer.setReceiver (.assembling []))) ∧
        (s.link.receiver = .ready → b ≠ 0xA5 ∨ fe = true → exec (.lineByte b fe) s = .next (s.setReceiver .waitIdle)) ∧
        (∀ bytes, s.link.receiver = .assembling bytes →
          (fe = true → exec (.lineByte b fe) s = .next (s.setReceiver .waitIdle)) ∧
          (fe = false → bytes.length = 2 → 64 < b.toNat → exec (.lineByte b fe) s = .next (s.setReceiver .waitIdle)) ∧
          (fe = false → bytes.length < 2 ∨ (bytes.length = 2 ∧ b.toNat ≤ 64) ∨
              (2 < bytes.length ∧ bytes.length + 1 ≠ byteAt bytes 2 + 5 ∧ (bytes.length = 3 → byteAt bytes 2 ≤ 64)) →
            exec (.lineByte b fe) s = .next (s.setReceiver (.assembling (bytes ++ [b]))))))) ∧
  (∀ s : State,
      (s.sending = false → s.link.receiver = .waitIdle → exec .idlePeriodExpiry s = .next (s.setReceiver .ready)) ∧
      (s.sending = true ∨ s.link.receiver ≠ .waitIdle → exec .idlePeriodExpiry s = .next s) ∧
      (∀ bytes, s.sending = false → s.link.receiver = .assembling bytes →
        exec .frameGapExpiry s = .next (s.setReceiver .ready)) ∧
      (s.sending = true ∨ (∀ bytes, s.link.receiver ≠ .assembling bytes) → exec .frameGapExpiry s = .next s))

/-- A request whose frame arrives byte by byte does what its row of the table does.
That the last byte of a frame takes the request is the model's reading (log entry 13). -/
def Obligations.FrameBytesTakeRequest : Prop :=
  ∀ (s : State) (k : Nat) (a : Addressing) (payload : List Byte) (i : Instr),
    requestRow k a payload = some i → payload.length ≤ 64 → s.sending = false → s.link.receiver = .ready →
    1 ≤ s.link.unit → s.link.unit ≤ 31 →
    ∃ t, exec i s = .next t ∧
      s.after ((frameBytes (addressByte s.link.unit a) (byteOf k) payload).map (fun b => .lineByte b false)) = some t

/-- FRAME_DROPPED ends in WAIT_IDLE and reaches no owner. UNKNOWN_KIND: BUSY comes before BAD_KIND when addressed, and a
broadcast is ignored. -/
def Obligations.FramesThatReachNoOwner : Prop :=
  (∀ (s : State) (frame : List Byte), s.sending = false →
      (crc16 (frame.take (3 + byteAt frame 2))).toNat ≠ beAt frame (3 + byteAt frame 2) 2 ∨ 128 ≤ byteAt frame 1 ∨
        (byteAt frame 0 ≠ s.link.unit ∧ byteAt frame 0 ≠ 0) →
      exec (.frameDropped frame) s = .next s.frameEnd) ∧
  (∀ (s : State) (kind : Byte) (payload : List Byte), s.sending = false → knownKind kind = false →
      kind.toNat < 128 →
      exec (.unknownKind .broadcast kind payload) s = .next s.frameEnd ∧
      exec (.unknownKind .addressed kind payload) s =
        .next (s.frameEnd.holdAnswer kind [if s.nva.loading || s.checking then 0x01 else 0x03]))

/-- ANSWER_BEGIN and ANSWER_END: a held answer is sent whole, byte for byte as Table 12-1 lays it out; its end frees the
link and fixes a hold expiry. An answer that is ready and not begun is withdrawn, its COMMIT record then taking its hold
expiry; one being sent is not, and the end of a frame is that with the receiver in WAIT_IDLE.
That either changes nothing when it is not its turn is the model's choice (log entry 14). -/
def Obligations.AnswerSentThenReleased : Prop :=
  (∀ (s : State) (a : Answer), s.link.answer = some a →
    (a.sending = false → exec .answerBegin s = .next { s with link := { s.link with answer := some { a with sending := true } } }) ∧
    (a.sending = true → exec .answerBegin s = .next s) ∧
    (a.sending = true → exec .answerEnd s = .next { s with
      link := { s.link with answer := none, receiver := .waitIdle },
      stager := if a.kind = 0x87 then s.stager.fixExpiry else s.stager }) ∧
    (a.sending = false → exec .answerEnd s = .next s)) ∧
  (∀ s : State, s.link.answer = none → exec .answerBegin s = .next s ∧ exec .answerEnd s = .next s) ∧
  (∀ st : Stager,
    (∀ c f, st.commit = some c → c.state = .held f →
      st.fixExpiry = { st with commit := some { c with state := .held true } }) ∧
    ((∀ c f, st.commit = some c → c.state ≠ .held f) → st.fixExpiry = st)) ∧
  (∀ (s : State) (kind : Byte) (payload : List Byte),
    (s.holdAnswer kind payload).link.answer = some { kind := kind + 0x80, payload := payload, sending := false }) ∧
  (∀ s : State, s.link.answer = none ∨ s.sending = true → s.withdrawAnswer = s) ∧
  (∀ (s : State) (a : Answer), s.link.answer = some a → a.sending = false → s.withdrawAnswer = { s with
    link := { s.link with answer := none },
    stager := if a.kind = 0x87 then s.stager.fixExpiry else s.stager }) ∧
  (∀ s : State, s.frameEnd = s.withdrawAnswer.setReceiver .waitIdle) ∧
  (∀ s : State, s.sending = false → s.lineOut = none) ∧
  (∀ (s : State) (a : Answer), s.link.answer = some a → a.sending = true → ∃ bytes, s.lineOut = some bytes ∧
    bytes.length = a.payload.length + 6 ∧ byteAt bytes 0 = 0xA5 ∧ (s.link.unit < 256 → byteAt bytes 1 = s.link.unit) ∧
    byteAt bytes 2 = a.kind.toNat ∧ (a.payload.length < 256 → byteAt bytes 3 = a.payload.length) ∧
    (bytes.drop 4).take a.payload.length = a.payload ∧
    beAt bytes (4 + a.payload.length) 2 = (crc16 ((bytes.drop 1).take (3 + a.payload.length))).toNat)

/-- R159: an addressed request that meets the load or a commit check is answered BUSY; then one whose length does not fit
its kind BAD_LENGTH; neither reaches an owner. While the part sends an answer a request is not received at all.
That this goes for a COMMIT too, whose owner would answer COMMIT_BUSY (R29), is read from R159's order (log entry 35). -/
def Obligations.RequestTestsBeforeOwner : Prop :=
  (∀ (s : State) (k : Nat) (payload : List Byte) (i : Instr), requestRow k .addressed payload = some i →
      (s.sending = true → exec i s = .next s) ∧
      (s.sending = false → s.nva.loading = true ∨ s.checking = true →
        exec i s = .next (s.frameEnd.holdAnswer (byteOf k) [0x01]))) ∧
  (∀ (s : State) (k : Nat) (payload : List Byte) (i : Instr), requestRow k .addressed payload = some i →
      s.TakesRequests → lengthFitsKind k payload = false →
      exec i s = .next (s.frameEnd.holdAnswer (byteOf k) [0x02]))

/-- R160: a broadcast is ignored, or acts as the same addressed request does and is not answered. -/
def Obligations.BroadcastActsUnanswered : Prop :=
  ∀ (s : State) (k : Nat) (payload : List Byte) (i j : Instr), requestRow k .broadcast payload = some i →
    requestRow k .addressed payload = some j → s.sending = false →
    (s.nva.loading = true ∨ s.checking = true ∨ k ∉ broadcastKinds ∨ lengthFitsKind k payload = false →
      exec i s = .next s.frameEnd) ∧
    (s.nva.loading = false → s.checking = false → k ∈ broadcastKinds → lengthFitsKind k payload = true →
      ∃ t, exec j s = .next t ∧ exec i s = .next { t with link := { t.link with answer := s.frameEnd.link.answer } })

/-- STATUS: the answer carries the summary as it stands and the state of the blocks (Table 12-5), and the summary is then
clear. ATTN is low exactly while some flag of the summary is set: STATUS releases it, the event of a flag drives it low,
and a PCIe link reset leaves it.
The second of an unset time is a free value and is not stated (log entry 11); that the bits of the last byte which Table
12-5 does not name are 0 is the model's choice (log entry 39). -/
def Obligations.StatusReportsAndClears : Prop :=
  (∀ s : State, s.attnLow = true ↔ ∃ f, s.posFlag f = true) ∧
  (∀ s : State, s.TakesRequests → ∃ t, exec (.status .addressed []) s = .next t ∧ t.attnLow = false) ∧
  (∀ (s : State) (f : PosFlag), (s.raisePos f).attnLow = true ∧ (∀ g, (s.raisePos f).posFlag g = (decide (g = f) || s.posFlag g)) ∧
    s.raisePos f = { s with link := { s.link with summary := (s.raisePos f).link.summary } }) ∧
  (State.reset.attnLow = false ∧ ∀ s, ∃ t, exec .pcieLinkReset s = .next t ∧ t.attnLow = s.attnLow) ∧
  ∀ s : State, s.TakesRequests → s.stager.staging.length ≤ 64 → s.checker.suspended.length ≤ 512 →
    (∀ m, s.daypart.time = some m → m.minute < 1440 ∧ m.second < 60) →
    ∃ p, exec (.status .addressed []) s =
        ({ s.frameEnd with link := { s.frameEnd.link with summary := 0 } }).answers 0x01 p ∧
      p.length = 16 ∧ byteAt p 0 = 0 ∧ byteAt p 1 = s.link.summary.toNat ∧
      byteAt p 2 = (match s.stager.commit with
        | none => 0
        | some c => match c.state with
          | .checking => 1
          | .held _ => 2
          | .pending => 3) ∧
      beAt p 3 2 = s.stager.commitNumber.toNat ∧
      byteAt p 5 = (match s.stager.lastOutcome with
        | .none => 0
        | .applied => 1
        | .cancelled => 2
        | .expired => 3) ∧
      byteAt p 6 = s.stager.staging.length ∧ byteAt p 7 = s.daypart.live.val ∧
      byteAt p 8 = (match s.daypart.force with
        | none => 255
        | some d => d.val) ∧
      (s.daypart.time = none → beAt p 9 2 = 0xFFFF) ∧
      (∀ m, s.daypart.time = some m → beAt p 9 2 = m.minute ∧ byteAt p 11 = m.second) ∧
      byteAt p 12 = 1 ∧ beAt p 13 2 = s.checker.suspended.length ∧
      (byteAt p 15).testBit 0 = s.checker.latch ∧ (byteAt p 15).testBit 1 = s.checker.armed ∧
      byteAt p 15 / 16 = (match s.checker.lastResult with
        | .none => 0
        | .pass => 1
        | .fail => 2)

/-! ### Staging and commits -/

/-- ITEM_STAGE, ITEM_REMOVE, PROMO_STAGE, RULES_STAGE of a valid entry: replaced in place, appended, or STAGE_FULL.
STAGE_ABORT empties the list, whatever it held, and leaves the commit record. -/
def Obligations.StagingKeepsOneEntryPerKeyOrEmpties : Prop :=
  (∀ (s : State) (e : StagedEntry), s.TakesRequests → e.valid = true → s.stager.staging.length ≤ 64 →
      ((∃ x ∈ s.stager.staging, x.key = e.key) →
        exec (stagingRow e).1 s =
          (s.frameEnd.withStaging (s.stager.staging.map (fun x => if x.key = e.key then e else x))).answers
            (stagingRow e).2 [0x00, byteOf s.stager.staging.length, 0x01]) ∧
      ((∀ x ∈ s.stager.staging, x.key ≠ e.key) → s.stager.staging.length < 64 →
        exec (stagingRow e).1 s =
          (s.frameEnd.withStaging (s.stager.staging ++ [e])).answers
            (stagingRow e).2 [0x00, byteOf (s.stager.staging.length + 1), 0x00]) ∧
      ((∀ x ∈ s.stager.staging, x.key ≠ e.key) → s.stager.staging.length = 64 →
        exec (stagingRow e).1 s = s.frameEnd.answers (stagingRow e).2 [0x05])) ∧
  (∀ s : State, s.TakesRequests →
      exec (.stageAbort .addressed []) s = (s.frameEnd.withStaging []).answers 0x06 [0x00, 0x00])

/-- A staging request whose payload is the form of no valid entry is refused BAD_VALUE and stages nothing. -/
def Obligations.StagingRefusesEveryOtherForm : Prop :=
  ∀ (s : State) (payload : List Byte), s.TakesRequests →
    (payload.length = 16 →
      (∀ code body, validCode code = true → body.valid = true → payload ≠ itemForm code body) →
      exec (.itemStage .addressed payload) s = s.frameEnd.answers 0x02 [0x04]) ∧
    (payload.length = 2 → (∀ code, validCode code = true → payload ≠ beBytes 2 code) →
      exec (.itemRemove .addressed payload) s = s.frameEnd.answers 0x03 [0x04]) ∧
    (payload.length = 6 →
      (∀ (i : Fin 32) (p : Promotion), p.valid = true → payload ≠ byteOf i.val :: promoForm p) →
      exec (.promoStage .addressed payload) s = s.frameEnd.answers 0x04 [0x04]) ∧
    (payload.length = 6 → (∀ r : Rules, r.valid = true → payload ≠ rulesForm r) →
      exec (.rulesStage .addressed payload) s = s.frameEnd.answers 0x05 [0x04])

/-- COMMIT: refused at once in the order of R29, or a CHECKING record is made and no answer is held yet. The owner itself
answers so in every state of the part and of the record. -/
def Obligations.CommitTakenOrRefusedAtOnce : Prop :=
  (∀ (s : State) (payload : List Byte),
    (2 ≤ byteAt payload 4 → commitOwner payload s = (s, some [0x04])) ∧
    (byteAt payload 4 ≤ 1 → s.stager.commit ≠ none → commitOwner payload s = (s, some [0x08]))) ∧
  ∀ (s : State) (payload : List Byte), s.TakesRequests → payload.length = 5 →
    (2 ≤ byteAt payload 4 → exec (.commit .addressed payload) s = s.frameEnd.answers 0x07 [0x04]) ∧
    (byteAt payload 4 ≤ 1 → s.stager.commit ≠ none →
      exec (.commit .addressed payload) s = s.frameEnd.answers 0x07 [0x08]) ∧
    (byteAt payload 4 ≤ 1 → s.stager.commit = none → s.stager.staging = [] →
      exec (.commit .addressed payload) s = s.frameEnd.answers 0x07 [0x07]) ∧
    (byteAt payload 4 ≤ 1 → s.stager.commit = none → s.stager.staging ≠ [] →
      exec (.commit .addressed payload) s = .next (s.frameEnd.withCommit (some
        { state := .checking, entries := [], hold := decide (byteAt payload 4 = 1),
          digest := BitVec.ofNat 32 (beAt payload 0 4) })))

/-- COMMIT_CHECK_COMPLETION: the first condition of R32 that holds ends the record and keeps the list; with none of them
the list moves into the record. Over a table whose GOOD bodies pass parity the walk changes nothing; else it reads every
body of the table in ascending order of code, each failure is handled at its read, whether it is a needed fault or not, and
the decision is made over the table that the whole walk leaves. -/
def Obligations.CommitCheckDecides : Prop :=
  ∀ (s : State) (c : CommitRecord), s.stager.commit = some c → c.state = .checking →
    s.link.answer = none → (∀ b, s.link.receiver ≠ .assembling b) →
    let l := s.stager.staging
    let decides := fun (u : State) =>
      let needed := u.table.items.filter (fun e =>
        decide (e.2.health = .corrupt) && !l.any (fun x => decide (x.key = .item e.2.code)))
      let count := fun k => (l.take k).foldl (runningCount u.table) u.table.items.length
      let n := (projectedItems u.table l).length
      (needed ≠ [] → ∃ low, (∃ e ∈ needed, e.2.code = low) ∧ (∀ e ∈ needed, low ≤ e.2.code) ∧
        exec (.commitCheckCompletion []) s =
          (u.withCommit none).answers 0x07 (0x0B :: (beBytes 2 low ++ beBytes 2 needed.length))) ∧
      (∀ k, needed = [] → k < l.length → 512 < count (k + 1) → (∀ j ≤ k, count j ≤ 512) →
        exec (.commitCheckCompletion []) s = (u.withCommit none).answers 0x07 [0x0A, byteOf k]) ∧
      (needed = [] → (∀ j ≤ l.length, count j ≤ 512) → commitDigest u.table l ≠ c.digest →
        exec (.commitCheckCompletion []) s =
          (u.withCommit none).answers 0x07 (0x09 :: (beBytes 4 (commitDigest u.table l).toNat ++ beBytes 2 n))) ∧
      (needed = [] → (∀ j ≤ l.length, count j ≤ 512) → commitDigest u.table l = c.digest →
        exec (.commitCheckCompletion []) s =
          ((u.withStaging []).withCommit (some { c with
              entries := l, state := if c.hold then .held false else .pending })).answers 0x07
            ([0x00, if c.hold then 0x02 else 0x03, byteOf l.length] ++ beBytes 2 n))
    ((∀ e ∈ s.table.items, e.2.health = .good → e.2.parityFails = false) → decides s) ∧
    (ItemsSound s.table.items → ∃ (order : List ItemIndex) (u : State),
      order.Perm (s.table.items.map (·.1)) ∧
      order.Pairwise (fun i j => ∀ a b, s.table.item i = some a → s.table.item j = some b → a.code < b.code) ∧
      u = order.foldl State.readBody s ∧
      (∀ i, u.table.item i = (s.table.item i).map (fun it =>
        if it.health = .good ∧ it.parityFails = true then { it with health := .corrupt } else it)) ∧
      (∀ i it, s.table.item i = some it → it.health = .good → it.parityFails = true →
        u.suspension it.code = some .parity ∨ u.suspension it.code = some .unrepairable) ∧
      u.table.promos = s.table.promos ∧ u.table.rules = s.table.rules ∧ u.table.pendingAvail = s.table.pendingAvail ∧
      u.stager = s.stager ∧ decides u)

/-- The table that a commit check digests is the table that the commit's application leaves. The digest is the CRC-32 of
the digest form, which is laid out byte for byte: the projected items in ascending code, the 32 projected promotions in index
order, the projected rules. -/
def Obligations.CheckedTableIsAppliedTable : Prop :=
  (∀ (s : State) (c : CommitRecord), RecordsSound s → s.stager.commit = some c → c.state = .pending →
    (∀ k ≤ c.entries.length, (c.entries.take k).foldl (runningCount s.table) s.table.items.length ≤ 512) →
    digestForm s.applyCommit.table [] = digestForm s.table c.entries) ∧
  (∀ (t : PriceTable) (l : List StagedEntry), commitDigest t l = crc32 (digestForm t l)) ∧
  (∀ (t : PriceTable) (l : List StagedEntry), ItemsSound t.items → (∀ i : Fin 32, t.promos[i].valid = true) →
    t.rules.valid = true → EntriesSound l →
    ∃ (items : List (Nat × ItemBody)) (promos : Vector Promotion 32) (rules : Rules),
      items = projectedItems t l ∧ items.Pairwise (fun a b => a.1 < b.1) ∧
      (∀ code body, (code, body) ∈ items ↔ .itemSet code body ∈ l ∨
        ((∀ e ∈ l, e.key ≠ .item code) ∧ ∃ i it, t.item i = some it ∧ it.code = code ∧ it.body = body)) ∧
      (∀ i p, .promoSet i p ∈ l → promos[i] = p) ∧
      (∀ i : Fin 32, (∀ p, .promoSet i p ∉ l) → promos[i] = t.promos[i]) ∧
      (∀ r, .rulesSet r ∈ l → rules = r) ∧ ((∀ r, .rulesSet r ∉ l) → rules = t.rules) ∧
      (digestForm t l).length = 16 * items.length + 166 ∧
      (∀ k code body, items[k]? = some (code, body) →
        let b := (digestForm t l).drop (16 * k)
        beAt b 0 2 = code ∧ byteAt b 2 < 32 ∧ (byteAt b 2).testBit 4 = body.promo.isSome ∧ byteAt b 15 = body.promo.getD 0 ∧
        (∀ d : Daypart, (byteAt b 2).testBit d.val = body.price[d].isSome ∧
          beAt b (3 + 3 * d.val) 3 = body.price[d].getD 0)) ∧
      (∀ i : Fin 32,
        let b := (digestForm t l).drop (16 * items.length + 5 * i.val)
        byteAt b 0 = (if promos[i].enabled then 128 else 0) + (match promos[i].kind with
          | .percent => 0
          | .amount => 1
          | .fixed => 2) ∧
        beAt b 1 3 = promos[i].value ∧ byteAt b 4 = promos[i].mask.toNat) ∧
      (let b := (digestForm t l).drop (16 * items.length + 160)
       byteAt b 0 = (match rules.taxMode with
         | .exclusive => 0
         | .inclusive => 1) ∧
       beAt b 1 2 = rules.taxRate ∧ byteAt b 3 = rules.step ∧
       byteAt b 4 = (match rules.rounding with
         | .nearest => 0
         | .up => 1
         | .down => 2) ∧
       byteAt b 5 = 16 * (if rules.twoDigits then 2 else 0) + rules.defaultDaypart.val))

/-- APPLY, COMMIT_CANCEL and HOLD_EXPIRY by the state of the commit record.
That HOLD_EXPIRY changes nothing where no HELD record has its expiry fixed is the model's choice (log entry 14). -/
def Obligations.HeldCommitEndsThreeWays : Prop :=
  ∀ s : State,
    (s.TakesRequests →
      (s.stager.commit = none →
        exec (.apply .addressed []) s = s.frameEnd.answers 0x08 [0x0C] ∧
        exec (.commitCancel .addressed []) s =
          s.frameEnd.answers 0x09 [if s.stager.lastOutcome = .applied then 0x0D else 0x0C]) ∧
      (∀ c f, s.stager.commit = some c → c.state = .held f →
        exec (.apply .addressed []) s =
          (s.frameEnd.withCommit (some { c with state := .pending })).answers 0x08
            ([0x00, 0x03] ++ beBytes 2 s.stager.commitNumber.toNat) ∧
        exec (.commitCancel .addressed []) s =
          ({ s.frameEnd with stager := { s.stager with commit := none, lastOutcome := .cancelled } }).answers 0x09 [0x00]) ∧
      (∀ c, s.stager.commit = some c → c.state = .pending →
        exec (.apply .addressed []) s =
          s.frameEnd.answers 0x08 ([0x00, 0x03] ++ beBytes 2 s.stager.commitNumber.toNat) ∧
        exec (.commitCancel .addressed []) s = s.frameEnd.answers 0x09 [0x0D])) ∧
    (∀ c, s.stager.commit = some c → c.state = .held true →
      exec .holdExpiry s = .next { s with
        stager := { s.stager with commit := none, lastOutcome := .expired },
        link := { s.link with summary := s.link.summary ||| 4#8 } }) ∧
    (∀ c, s.stager.commit = some c → c.state = .held true → ∃ t, exec .holdExpiry s = .next t ∧ t.attnLow = true) ∧
    ((∀ c, s.stager.commit = some c → c.state ≠ .held true) → exec .holdExpiry s = .next s)

/-- The application of a commit: each entry by its kind, then the end of the record. What marking a slot DIRTY does by its
state, and what withdrawing a repair does to one that is listed, waits on a write, or is being read. -/
def Obligations.CommitAppliedEntryByEntry : Prop :=
  ∀ s : State,
    (∀ c, s.stager.commit = some c → c.state = .pending →
      ∃ t, t = c.entries.foldl State.applyEntry s ∧ t.stager = s.stager ∧ s.applyCommit = ({ t with
        stager := { s.stager with commit := none, commitNumber := s.stager.commitNumber + 1,
                                  lastOutcome := .applied } }).raiseBoth .commitApplied .commitApplied ∧
        (∀ fl, fl ≠ .commitApplied → fl ≠ .suspendedChanged → s.applyCommit.posFlag fl = s.posFlag fl) ∧
        (∀ fl, fl ≠ .commitApplied → fl ≠ .priceSuspended → s.applyCommit.contentFlag fl = s.contentFlag fl) ∧
        s.applyCommit.posFlag .commitApplied = true ∧ s.applyCommit.contentFlag .commitApplied = true ∧
        (s.applyCommit.checker = s.checker →
          s.applyCommit.posFlag .suspendedChanged = s.posFlag .suspendedChanged ∧
          s.applyCommit.contentFlag .priceSuspended = s.contentFlag .priceSuspended) ∧
        (s.applyCommit.checker ≠ s.checker →
          s.applyCommit.posFlag .suspendedChanged = true ∧ s.applyCommit.contentFlag .priceSuspended = true)) ∧
    ((∀ c, s.stager.commit = some c → c.state ≠ .pending) → s.applyCommit = s) ∧
    (∀ code body,
      let t := s.applyEntry (.itemSet code body)
      ∀ i, s.table.indexOf code = some i ∨
          (s.table.has code = false ∧ s.table.item i = none ∧ ∀ j, j.val < i.val → s.table.item j ≠ none) →
        t.table.item i = some ⟨code, body, false, .good,
          if s.table.has code then ((s.table.item i).map (·.avail)).getD .available else .available⟩ ∧
        (∀ j, j ≠ i → t.table.item j = s.table.item j) ∧ t.table.pendingAvail = s.table.pendingAvail ∧
        t.table.promos = s.table.promos ∧ t.table.rules = s.table.rules ∧
        t.suspension code = none ∧ (∀ x, x ≠ code → t.suspension x = s.suspension x) ∧
        t.nva = (s.nva.withdrawRepair i).markDirty (itemSlot i)) ∧
    (∀ code,
      let t := s.applyEntry (.itemRemove code)
      (s.table.has code = false → t = s) ∧
      ∀ i, s.table.indexOf code = some i →
        t.table.item i = none ∧ (∀ j, j ≠ i → t.table.item j = s.table.item j) ∧
        t.table.pendingAvail = s.table.pendingAvail.filter (fun e => !decide (e.1 = code)) ∧
        t.table.promos = s.table.promos ∧ t.table.rules = s.table.rules ∧
        t.suspension code = none ∧ (∀ x, x ≠ code → t.suspension x = s.suspension x) ∧
        t.nva = (s.nva.withdrawRepair i).markDirty (itemSlot i)) ∧
    (∀ i p, s.applyEntry (.promoSet i p) = { s with
      table := { s.table with promos := s.table.promos.set i p }, nva := s.nva.markDirty (promoSlot i) }) ∧
    (∀ r, s.applyEntry (.rulesSet r) = { s with table := { s.table with rules := r }, nva := s.nva.markDirty rulesSlot }) ∧
    (∀ (n : Nva) (k : SlotId),
      (n.slotState k = .clean ∨ n.slotState k = .stale ∨ n.slotState k = .faulted →
        ∃ m, n.markDirty k = { n with slotStates := m, queue := n.queue ++ [k] } ∧
          ∀ j, (n.markDirty k).slotState j = if j = k then .dirty else n.slotState j) ∧
      (n.slotState k = .dirty → n.markDirty k = n) ∧
      (∀ w, n.slotState k = .writing → n.op = .write w → w.slot = k →
        n.markDirty k = { n with op := .write { w with rewrite := true } })) ∧
    (∀ (n : Nva) (i : ItemIndex),
      let l := n.repairs.filter (fun j => !decide (j = i))
      (∀ w, n.op = .write w → w.slot = itemSlot i →
        n.withdrawRepair i = { n with repairs := l, op := .write { w with repairWaits := false } }) ∧
      ((∀ w, n.op = .write w → w.slot ≠ itemSlot i) → n.withdrawRepair i = { n with repairs := l }) ∧
      (n.withdrawRepair i).repairOutstanding i = decide (n.op = .read i))

/-! ### Availability, dayparts and time -/

/-- AVAIL_SET: all pairs enter the pending map in order, or the first failing pair decides and none does.
That a pair's state is tested before its code is the model's choice (log entry 20). -/
def Obligations.AvailSetTakenWholeOrNotAtAll : Prop :=
  ∀ (s : State) (l : List (Nat × Nat)), s.TakesRequests → 1 ≤ l.length → l.length ≤ 16 →
    (∀ e ∈ l, e.1 < 65536 ∧ e.2 < 256) →
    let payload := l.flatMap (fun (e : Nat × Nat) => beBytes 2 e.1 ++ [byteOf e.2])
    ((∀ e ∈ l, e.2 ≤ 1 ∧ s.table.has e.1 = true) →
      exec (.availSet .addressed payload) s =
        ({ s.frameEnd with table := { s.table with
          pendingAvail := l.foldl (fun m (e : Nat × Nat) => Sparse.put m e.1 (if e.2 = 0 then .available else .soldOut))
            s.table.pendingAvail } }).answers 0x0A [0x00]) ∧
    (∀ (good : List (Nat × Nat)) (e : Nat × Nat) (rest : List (Nat × Nat)), l = good ++ e :: rest →
      (∀ g ∈ good, g.2 ≤ 1 ∧ s.table.has g.1 = true) →
      (2 ≤ e.2 → exec (.availSet .addressed payload) s = s.frameEnd.answers 0x0A [0x04, byteOf good.length]) ∧
      (e.2 ≤ 1 → s.table.has e.1 = false →
        exec (.availSet .addressed payload) s = s.frameEnd.answers 0x0A [0x06, byteOf good.length]))

/-- SCHEDULE_SET: a valid schedule replaces the old one and marks slot 545 DIRTY; the first failing entry is named. -/
def Obligations.ScheduleSetReplacesWhole : Prop :=
  ∀ (s : State) (l : List (Nat × Nat)), s.TakesRequests → l.length ≤ 21 → (∀ e ∈ l, e.1 < 65536 ∧ e.2 < 256) →
    let payload := byteOf l.length :: l.flatMap (fun (e : Nat × Nat) => beBytes 2 e.1 ++ [byteOf e.2])
    (l.length = 0 ∨ 4 < l.length → exec (.scheduleSet .addressed payload) s = s.frameEnd.answers 0x0B [0x04, 0x00]) ∧
    (∀ es : List ScheduleEntry, scheduleValid es = true → l = es.map (fun e => (e.start, e.daypart.val)) →
      exec (.scheduleSet .addressed payload) s =
        ({ s.frameEnd with daypart := { s.daypart with schedule := es },
                           nva := s.nva.markDirty scheduleSlot }).answers 0x0B [0x00, byteOf es.length]) ∧
    (∀ (good : List ScheduleEntry) (e : Nat × Nat) (rest : List (Nat × Nat)), l.length ≤ 4 →
      l = good.map (fun e => (e.start, e.daypart.val)) ++ e :: rest → startsRising none good = true →
      1440 ≤ e.1 ∨ 4 ≤ e.2 ∨ (∃ g ∈ good, e.1 ≤ g.start) →
      exec (.scheduleSet .addressed payload) s = s.frameEnd.answers 0x0B [0x04, byteOf good.length])

/-- DAYPART_FORCE: a daypart or the release code sets the force state and leaves the live daypart.
TIME_SET sets the time base or is refused; SECOND_TICK advances a set time base with its two carries. -/
def Obligations.ForceAndTimeSetAndTicked : Prop :=
  (∀ (s : State) (b : Byte), s.TakesRequests →
      (∀ d : Daypart, b.toNat = d.val →
        exec (.daypartForce .addressed [b]) s =
          ({ s.frameEnd with daypart := { s.daypart with force := some d } }).answers 0x0C
            [0x00, b, byteOf s.daypart.live.val]) ∧
      (b = 0xFF → exec (.daypartForce .addressed [b]) s =
        ({ s.frameEnd with daypart := { s.daypart with force := none } }).answers 0x0C
          [0x00, 0xFF, byteOf s.daypart.live.val]) ∧
      (4 ≤ b.toNat → b ≠ 0xFF → exec (.daypartForce .addressed [b]) s = s.frameEnd.answers 0x0C [0x04])) ∧
  (∀ s : State,
      (s.TakesRequests → ∀ m sec : Nat, m < 65536 → sec < 256 →
        (m < 1440 → sec < 60 →
          exec (.timeSet .addressed (beBytes 2 m ++ [byteOf sec])) s =
            ({ s.frameEnd with daypart := { s.daypart with time := some { minute := m, second := sec } } }).answers 0x0D
              (0x00 :: (beBytes 2 m ++ [byteOf sec]))) ∧
        (1440 ≤ m ∨ 60 ≤ sec →
          exec (.timeSet .addressed (beBytes 2 m ++ [byteOf sec])) s = s.frameEnd.answers 0x0D [0x04])) ∧
      (s.daypart.time = none → exec .secondTick s = .next s) ∧
      (∀ m sec, s.daypart.time = some { minute := m, second := sec } → m < 1440 → sec < 60 →
        exec .secondTick s = .next { s with daypart := { s.daypart with 
          time := some ⟨if sec = 59 then (m + 1) % 1440 else m, (sec + 1) % 60⟩ } }))

/-! ### Items read back, suspension, the self-test and the report -/

/-- A body is read with its parity test: a GOOD body that fails becomes CORRUPT, its item is suspended and its repair meets
the slot in the state it has; every other read changes nothing.
An upset body fails its next read; the rows that read bodies carry the upsets since the last step.
That an outstanding repair is tested first is the model's choice (log entry 19), and so are the upsets (log entry 9) and
that COMMIT_CHECK_COMPLETION with no CHECKING record changes nothing (log entry 14). -/
def Obligations.ParityFailureHandledAtRead : Prop :=
  (∀ (s : State) (i : ItemIndex) (it : Item), s.table.item i = some it →
    (it.health = .corrupt ∨ it.parityFails = false → s.readBody i = s) ∧
    (it.health = .good → it.parityFails = true →
      let t := s.readBody i
      let k := itemSlot i
      t.table.item i = some { it with health := .corrupt } ∧ (∀ j, j ≠ i → t.table.item j = s.table.item j) ∧
      t.table.pendingAvail = s.table.pendingAvail ∧ t.table.promos = s.table.promos ∧ t.table.rules = s.table.rules ∧
      (∀ c, c ≠ it.code → t.suspension c = s.suspension c) ∧ t.checker = { s.checker with suspended := t.checker.suspended } ∧
      (s.nva.repairOutstanding i = true → t.nva = s.nva ∧
        t.suspension it.code = if s.suspension it.code = some .unrepairable then some .unrepairable else some .parity) ∧
      (s.nva.repairOutstanding i = false →
        (s.nva.slotState k = .clean → t.nva = { s.nva with repairs := s.nva.repairs ++ [i] } ∧
          t.suspension it.code = if s.suspension it.code = some .unrepairable then some .unrepairable else some .parity) ∧
        (∀ w, s.nva.slotState k = .writing → s.nva.op = .write w → w.slot = k →
          t.nva = { s.nva with op := .write { w with repairWaits := true } } ∧
          t.suspension it.code = if s.suspension it.code = some .unrepairable then some .unrepairable else some .parity) ∧
        (s.nva.slotState k = .dirty →
          t.nva = { s.nva.setSlotState k .stale with queue := s.nva.queue.filter (fun j => !decide (j = k)) } ∧
          t.suspension it.code = some .unrepairable) ∧
        (s.nva.slotState k = .stale ∨ s.nva.slotState k = .faulted →
          t.nva = s.nva ∧ t.suspension it.code = some .unrepairable)) ∧
      (s.suspension it.code ≠ t.suspension it.code →
        t.posFlag .suspendedChanged = true ∧ t.contentFlag .priceSuspended = true) ∧
      (s.suspension it.code = t.suspension it.code → t.link = s.link ∧ t.port = s.port) ∧
      (∀ fl, fl ≠ .suspendedChanged → t.posFlag fl = s.posFlag fl) ∧
      (∀ fl, fl ≠ .priceSuspended → t.contentFlag fl = s.contentFlag fl) ∧
      t.stager = s.stager ∧ t.daypart = s.daypart ∧ t.former = s.former ∧ t.assets = s.assets ∧ t.scenes = s.scenes ∧
      t.engine = s.engine ∧ t.panel = s.panel ∧ t.draws = s.draws ∧ t.pending = s.pending ∧
      t.link = { s.link with summary := t.link.summary } ∧
      t.port = { s.port with summary := t.port.summary, armed := t.port.armed, messages := t.port.messages })) ∧
  (∀ (s : State) (i : ItemIndex),
    (s.table.item i = none → s.readBody i = s ∧ s.upset i = s) ∧
    (∀ it, s.table.item i = some it →
      (s.upset i).table.item i = some { it with parityFails := true } ∧
      (∀ j, j ≠ i → (s.upset i).table.item j = s.table.item j) ∧
      s.upset i = { s with table := { s.table with items := (s.upset i).table.items } })) ∧
  (∀ (s : State) (l : List ItemIndex) (d : ComposeUpset) (stuck : Bool),
    exec (.commitCheckCompletion l) s = (match s.stager.commit with
      | some c => if c.state = .checking then exec (.commitCheckCompletion []) (l.foldl State.upset s) else .next s
      | none => .next s) ∧
    (∀ p k, s.engine.job = .compose (.layer p k) →
      exec (.composeLayer ⟨l, d⟩) s = exec (.composeLayer ⟨[], d⟩) (l.foldl State.upset s)) ∧
    (∀ i testing, s.engine.job = .check i testing → i < s.engine.shown.length →
      exec (.checkRecord l stuck) s = exec (.checkRecord [] stuck) (l.foldl State.upset s)) ∧
    (s.nva.loading = false → s.nva.op = .free → s.nva.repairs = [] → s.nva.queue ≠ [] →
      exec (.slotWriteBegin l) s = exec (.slotWriteBegin []) (l.foldl State.upset s)))

/-- ITEM_READ: refused, or RECORD_FAULT for a CORRUPT body, or every field of the item at its place (Table 12-5).
That an absent price and an absent promotion read 0 there is the model's reading (log entry 24). -/
def Obligations.ItemReadReports : Prop :=
  ∀ (s : State) (code : Nat), s.TakesRequests → code < 65536 →
    (code = 0 ∨ code = 65535 → exec (.itemRead .addressed (beBytes 2 code)) s = s.frameEnd.answers 0x0E [0x04]) ∧
    (1 ≤ code → code ≤ 65534 → s.table.has code = false →
      exec (.itemRead .addressed (beBytes 2 code)) s = s.frameEnd.answers 0x0E [0x06]) ∧
    (∀ (i : ItemIndex) (it : Item), 1 ≤ code → code ≤ 65534 → s.table.indexOf code = some i → s.table.item i = some it →
      it.code = code →
      (it.health = .corrupt →
        exec (.itemRead .addressed (beBytes 2 code)) s =
          s.frameEnd.answers 0x0E (0x0B :: (beBytes 2 code ++ beBytes 2 i.val))) ∧
      (it.health = .good → it.parityFails = true →
        exec (.itemRead .addressed (beBytes 2 code)) s =
          (s.frameEnd.readBody i).answers 0x0E (0x0B :: (beBytes 2 code ++ beBytes 2 i.val))) ∧
      (it.health = .good → it.parityFails = false → it.body.valid = true →
        ∃ p, exec (.itemRead .addressed (beBytes 2 code)) s = s.frameEnd.answers 0x0E p ∧
          p.length = 35 ∧ byteAt p 0 = 0 ∧ beAt p 1 2 = code ∧ beAt p 3 2 = i.val ∧
          (∀ d : Daypart, (byteAt p 5).testBit d.val = it.body.price[d].isSome ∧
            beAt p (6 + 3 * d.val) 3 = it.body.price[d].getD 0 ∧
            beAt p (22 + 3 * d.val) 3 = (shownPrice s.table.promos s.table.rules it.body d).1.getD 0 ∧
            (byteAt p 34).testBit d.val = (shownPrice s.table.promos s.table.rules it.body d).1.isSome ∧
            (byteAt p 34).testBit (4 + d.val) = (shownPrice s.table.promos s.table.rules it.body d).2) ∧
          (byteAt p 5).testBit 4 = it.body.promo.isSome ∧ byteAt p 18 = it.body.promo.getD 0 ∧
          byteAt p 19 = (match it.avail with
            | .available => 0
            | .soldOut => 1) ∧
          byteAt p 20 = (match Sparse.find s.table.pendingAvail code with
            | some .available => 0
            | some .soldOut => 1
            | none => 255) ∧
          byteAt p 21 = (match s.suspension code with
            | none => 0
            | some .mismatch => 1
            | some .parity => 2
            | some .unrepairable => 3)))

/-- ITEM_QUERY: BAD_VALUE, not present, a CORRUPT record without prices, or every field of the item (Table 12-7).
That an absent price and an absent promotion read 0 there is the model's reading (log entry 24). -/
def Obligations.ItemQueryReports : Prop :=
  ∀ (s : State) (go : BitVec 32) (code : BitVec 16), s.nva.loading = false →
    (code = 0 ∨ code = 0xFFFF → s.Refuses (.itemQuery go code) .badValue) ∧
    (code ≠ 0 → code ≠ 0xFFFF → s.table.has code.toNat = false → s.Completes (.itemQuery go code) id .ok [0x00]) ∧
    (∀ (i : ItemIndex) (it : Item), code ≠ 0 → code ≠ 0xFFFF → s.table.indexOf code.toNat = some i →
      s.table.item i = some it → it.code = code.toNat →
      (it.health = .corrupt ∨ it.parityFails = true →
        ∃ p, s.Completes (.itemQuery go code) (fun t => t.readBody i) .ok p ∧ p.length = 9 ∧
          byteAt p 0 = 1 ∧ byteAt p 1 = 1 ∧ leAt p 2 2 = code.toNat ∧ leAt p 4 2 = i.val ∧
          byteAt p 6 = (match it.avail with
            | .available => 0
            | .soldOut => 1) ∧
          byteAt p 7 = (match Sparse.find s.table.pendingAvail code.toNat with
            | some .available => 0
            | some .soldOut => 1
            | none => 255) ∧
          byteAt p 8 = (match (s.readBody i).suspension code.toNat with
            | none => 0
            | some .mismatch => 1
            | some .parity => 2
            | some .unrepairable => 3)) ∧
      (it.health = .good → it.parityFails = false → it.body.valid = true →
        ∃ p, s.Completes (.itemQuery go code) id .ok p ∧ p.length = 44 ∧
          byteAt p 0 = 1 ∧ byteAt p 1 = 0 ∧ leAt p 2 2 = code.toNat ∧ leAt p 4 2 = i.val ∧
          byteAt p 6 = (match it.avail with
            | .available => 0
            | .soldOut => 1) ∧
          byteAt p 7 = (match Sparse.find s.table.pendingAvail code.toNat with
            | some .available => 0
            | some .soldOut => 1
            | none => 255) ∧
          byteAt p 8 = (match s.suspension code.toNat with
            | none => 0
            | some .mismatch => 1
            | some .parity => 2
            | some .unrepairable => 3) ∧
          (byteAt p 9).testBit 4 = it.body.promo.isSome ∧ byteAt p 10 = it.body.promo.getD 0 ∧
          (∀ d : Daypart, (byteAt p 9).testBit d.val = it.body.price[d].isSome ∧
            leAt p (12 + 4 * d.val) 4 = it.body.price[d].getD 0 ∧
            leAt p (28 + 4 * d.val) 4 = (shownPrice s.table.promos s.table.rules it.body d).1.getD 0 ∧
            (byteAt p 11).testBit d.val = (shownPrice s.table.promos s.table.rules it.body d).1.isSome ∧
            (byteAt p 11).testBit (4 + d.val) = (shownPrice s.table.promos s.table.rules it.body d).2)))

/-- SUSPENDED_LIST answers up to 19 entries from a position; SUSPEND_CLEAR removes a MISMATCH entry and no other.
CHECK_TEST arms the self-test from either port while the check-path-fail latch is clear, and is REFUSED while it is set. -/
def Obligations.SuspensionsAndSelfTestRequests : Prop :=
  (∀ (s : State) (n : Nat), s.TakesRequests → n < 65536 →
      (s.checker.suspended.length ≤ 512 → (∀ e ∈ s.checker.suspended, e.1 < 65536) →
        ∃ p, exec (.suspendedList .addressed (beBytes 2 n)) s = s.frameEnd.answers 0x0F p ∧
          byteAt p 0 = 0 ∧ beAt p 1 2 = s.checker.suspended.length ∧ beAt p 3 2 = n ∧
          p.length = 5 + 3 * min 19 (s.checker.suspended.length - n) ∧
          ∀ k, k < 19 → ∀ e, s.checker.suspended[n + k]? = some e →
            beAt p (5 + 3 * k) 2 = e.1 ∧ byteAt p (7 + 3 * k) = (match e.2 with
              | .mismatch => 1
              | .parity => 2
              | .unrepairable => 3)) ∧
      (n = 0 ∨ n = 65535 → exec (.suspendClear .addressed (beBytes 2 n)) s = s.frameEnd.answers 0x10 [0x04]) ∧
      (1 ≤ n → n ≤ 65534 →
        (s.suspension n = none → exec (.suspendClear .addressed (beBytes 2 n)) s = s.frameEnd.answers 0x10 [0x06]) ∧
        (s.suspension n = some .parity ∨ s.suspension n = some .unrepairable →
          exec (.suspendClear .addressed (beBytes 2 n)) s = s.frameEnd.answers 0x10 [0x04]) ∧
        (s.suspension n = some .mismatch →
          exec (.suspendClear .addressed (beBytes 2 n)) s =
            (({ s.frameEnd with checker := { s.checker with
                suspended := s.checker.suspended.filter (fun e => !decide (e.1 = n)) } }).raiseBoth
              .suspendedChanged .priceSuspended).answers 0x10 [0x00]))) ∧
  (∀ (s : State) (go : BitVec 32),
      (s.TakesRequests → s.checker.latch = false →
        exec (.checkTest (.posLink .addressed [])) s =
          ({ s.frameEnd with checker := { s.checker with armed := true } }).answers 0x12 [0x00]) ∧
      (s.TakesRequests → s.checker.latch = true →
        exec (.checkTest (.posLink .addressed [])) s = s.frameEnd.answers 0x12 [0x0E]) ∧
      (s.nva.loading = false → s.checker.latch = false →
        s.Completes (.checkTest (.contentPort go)) (fun t => { t with checker := { t.checker with armed := true } }) .ok []) ∧
      (s.nva.loading = false → s.checker.latch = true → s.Refuses (.checkTest (.contentPort go)) .refused))

/-- NVA_REPORT: the fault list, the counts of the five slot states, which make 546, and the repairs outstanding.
R57: a fault found joins the fault list while it holds fewer than 16 and sets its more flag from then on; NVA_FAULT is set
in both summaries.
That the two bits of an entry which Table 12-5 does not name are 0 is the model's choice (log entry 39). -/
def Obligations.NvaReportCountsSlots : Prop :=
  (∀ (s : State) (f : FaultEntry),
    let t := s.logFault f
    (s.nva.faults.length < 16 → t.nva = { s.nva with faults := s.nva.faults ++ [f] }) ∧
    (16 ≤ s.nva.faults.length → t.nva = { s.nva with more := true }) ∧
    (∀ fl, t.posFlag fl = (s.posFlag fl || decide (fl = .nvaFault))) ∧
    (∀ fl, t.contentFlag fl = (s.contentFlag fl || decide (fl = .nvaFault))) ∧
    t = { s with nva := t.nva, link := { s.link with summary := t.link.summary },
                 port := { s.port with summary := t.port.summary, armed := t.port.armed,
                                       messages := t.port.messages } }) ∧
  (∀ s : State, s.TakesRequests → s.nva.faults.length ≤ 16 → (∀ f ∈ s.nva.faults, f.slot ≤ 546) →
    s.nva.repairs.length ≤ 512 →
    ∃ p, exec (.nvaReport .addressed []) s = s.frameEnd.answers 0x11 p ∧ p.length = 48 ∧
      byteAt p 0 = 0 ∧ byteAt p 1 = s.nva.faults.length ∧ byteAt p 2 = (if s.nva.more then 1 else 0) ∧ byteAt p 3 = 1 ∧
      (∀ (k : Fin 5) (st : SlotState), [SlotState.clean, .dirty, .writing, .stale, .faulted][k.val]? = some st →
        beAt p (4 + 2 * k.val) 2 = ((List.finRange 546).filter (fun j => decide (s.nva.slotState j = st))).length) ∧
      beAt p 4 2 + beAt p 6 2 + beAt p 8 2 + beAt p 10 2 + beAt p 12 2 = 546 ∧
      beAt p 14 2 = s.nva.repairs.length + (match s.nva.op with
        | .free => 0
        | .write w => if w.repairWaits then 1 else 0
        | .read _ => 1) ∧
      (∀ k f, s.nva.faults[k]? = some f →
        beAt p (16 + 2 * k) 2 % 1024 = f.slot ∧
        beAt p (16 + 2 * k) 2 / 1024 % 4 = (match f.origin with
          | .load => 0
          | .write => 1
          | .repair => 2) ∧
        beAt p (16 + 2 * k) 2 / 4096 = (match f.kind with
          | .sec => 0
          | .ded => 1
          | .torn => 2
          | .duplicate => 3)) ∧
      (∀ j, 16 + 2 * s.nva.faults.length ≤ j → j < 48 → byteAt p j = 0))

/-! ### The shown price, its string and its pixels -/

/-- R16 and R17, stage by stage: tax and step. -/
def Obligations.TaxAndStepStages : Prop :=
  ∀ (r : Rules) (v w : Nat),
    (r.taxMode = .inclusive → taxStage r v = (v * (10000 + r.taxRate) + 5000) / 10000) ∧
    (r.taxMode = .exclusive → taxStage r v = v) ∧
    (r.taxMode = .inclusive → r.taxRate = 0 → taxStage r v = v) ∧
    (v ≤ 999999 → r.taxRate ≤ 2500 → taxStage r v ≤ 1249999) ∧
    (r.taxMode = .inclusive → r.taxRate = 2500 → taxStage r 999999 = 1249999) ∧
    (r.rounding = .nearest → stepStage r w = ((w + r.step / 2) / r.step) * r.step) ∧
    (r.rounding = .up → stepStage r w = ((w + r.step - 1) / r.step) * r.step) ∧
    (r.rounding = .down → stepStage r w = (w / r.step) * r.step) ∧
    (r.step = 1 → stepStage r w = w) ∧
    (r.rounding = .nearest → r.step % 2 = 0 → 0 < r.step → w % r.step = r.step / 2 → stepStage r w = w + r.step / 2) ∧
    (r.rounding = .nearest → r.step % 2 = 1 → (w % r.step ≤ r.step / 2 → stepStage r w = w - w % r.step) ∧
      (r.step / 2 < w % r.step → stepStage r w = w - w % r.step + r.step))

/-- The shown price: absent with its base, else within 0..999,999, a multiple of the step, and clamped exactly when the
step stage passed the limit. -/
def Obligations.ShownPriceInRangeOnStep : Prop :=
  ∀ (promos : Vector Promotion 32) (r : Rules) (b : ItemBody) (d : Daypart),
    (∀ i : Fin 32, promos[i].valid = true) → r.valid = true → b.valid = true →
    (b.price[d] = none → shownPrice promos r b d = (none, false)) ∧
    (∀ base, b.price[d] = some base → ∃ q c v, shownPrice promos r b d = (some q, c) ∧
      q ≤ 999999 ∧ q % r.step = 0 ∧ v ≤ base ∧
      (∀ (i : Fin 32), b.promo = some i.val → promos[i].enabled = true → promos[i].mask.getLsbD d.val = true →
        v = match promos[i].kind with
          | .percent => base - (base * promos[i].value + 50) / 100
          | .amount => if promos[i].value ≤ base then base - promos[i].value else 0
          | .fixed => if promos[i].value < base then promos[i].value else base) ∧
      ((∀ (i : Fin 32), b.promo = some i.val → promos[i].enabled = false ∨ promos[i].mask.getLsbD d.val = false) →
        v = base) ∧
      (stepStage r (taxStage r v) ≤ 999999 → q = stepStage r (taxStage r v) ∧ c = false) ∧
      (999999 < stepStage r (taxStage r v) → c = true ∧ 999999 < q + r.step))

/-- R75: where a string that fits stands, and that it lies wholly inside its tile. -/
def Obligations.PlacementInsideTile : Prop :=
  ∀ (st : Style) (n : Nat) (tile : Box),
    (¬ (n * st.cw ≤ tile.w ∧ st.ch ≤ tile.h) → placeOrigin st n tile = none) ∧
    (n * st.cw ≤ tile.w → st.ch ≤ tile.h → ∃ o, placeOrigin st n tile = some o ∧
      (stringBox st n o).w = n * st.cw ∧ (stringBox st n o).h = st.ch ∧
      (stringBox st n o).x = (match st.alignment with
        | .left => tile.x
        | .right => tile.x + tile.w - n * st.cw
        | .center => tile.x + (tile.w - n * st.cw) / 2) ∧
      (stringBox st n o).y = tile.y + (tile.h - st.ch) / 2 ∧
      tile.x ≤ (stringBox st n o).x ∧ (stringBox st n o).x + (stringBox st n o).w ≤ tile.x + tile.w ∧
      tile.y ≤ (stringBox st n o).y ∧ (stringBox st n o).y + (stringBox st n o).h ≤ tile.y + tile.h)

/-- The glyph string of a shown price reads back as the price, with the length, the separators and the marks of R72 and R73.
The outcomes of R74 and R76: a price, dashes or nothing, with the box and the reason handed back; and the same for a string
that an upset has changed, which is the model's choice (log entry 37). -/
def Obligations.PriceStringAndTile : Prop :=
  (∀ (st : Style) (two : Bool) (q : Nat), q ≤ 999999 →
      let str := priceString st two q
      let digits := str.filter isDigitGlyph
      let value := fun (l : List Nat) => l.foldl (fun n g => n * 10 + g) 0
      let major := if two then q / 100 else q
      let minor := two && !(decide (st.minor = .trimZero) && decide (q % 100 = 0))
      let d := if major < 10 then 1 else if major < 100 then 2 else if major < 1000 then 3 else if major < 10000 then 4
        else if major < 100000 then 5 else 6
      value digits = (if minor then q else major) ∧
      digits.length = d + (if minor then 2 else 0) ∧
      str.length = (if st.symbol = .none then 0 else 1) + d + (if st.grouping = .none then 0 else (d - 1) / 3) +
        (if minor then 3 else 0) ∧
      str.length ≤ 9 ∧ (∀ g ∈ str, g ≤ 12) ∧
      (st.symbol = .before → str.head? = some 12) ∧ (st.symbol = .after → str.getLast? = some 12) ∧
      (st.symbol = .none → 12 ∉ str) ∧
      (st.grouping = .none ∨ d ≤ 3 → (str.filter (fun g => !decide (g = 12))).take d = digits.take d) ∧
      (st.grouping ≠ .none → 3 < d → (str.filter (fun g => !decide (g = 12))).take (d + 1) =
        digits.take (d - 3) ++ (if st.grouping = .comma then 11 else 10) :: (digits.drop (d - 3)).take 3) ∧
      (minor = true → (str.filter (fun g => !decide (g = 12))).drop (str.filter (fun g => !decide (g = 12))).length.pred.pred.pred =
        [match st.mark with
          | .point => 10
          | .comma => 11, q % 100 / 10, q % 10])) ∧
  (∀ (st : Style) (two : Bool) (tile : Box),
      let fits := fun (n : Nat) => n * st.cw ≤ tile.w ∧ st.ch ≤ tile.h
      let nothing := fun (why : DashReason) (flag : Bool) =>
        ({ glyphs := [], box := { x := tile.x, y := tile.y, w := 0, h := 0 }, reason := why, overflow := flag } : Formed)
      (∀ why, (st.font = none ∨ ¬ fits 3 → formTile st two tile (.dashes why) = nothing why false) ∧
        (st.font ≠ none → fits 3 → ∃ o, placeOrigin st 3 tile = some o ∧ formTile st two tile (.dashes why) =
          { glyphs := [13, 13, 13], box := stringBox st 3 o, reason := why, overflow := false })) ∧
      (∀ q, let str := priceString st two q
        (st.font = none → formTile st two tile (.price q) = nothing .overflow true) ∧
        (st.font ≠ none → fits str.length → ∃ o, placeOrigin st str.length tile = some o ∧ formTile st two tile (.price q) =
          { glyphs := str, box := stringBox st str.length o, reason := .none, overflow := false }) ∧
        (st.font ≠ none → ¬ fits str.length → fits 3 → ∃ o, placeOrigin st 3 tile = some o ∧
          formTile st two tile (.price q) =
            { glyphs := [13, 13, 13], box := stringBox st 3 o, reason := .overflow, overflow := true }) ∧
        (¬ fits str.length → ¬ fits 3 → formTile st two tile (.price q) = nothing .overflow true)) ∧
      (∀ request, formTileUpset st two tile request none = formTile st two tile request) ∧
      (∀ why changed, formTileUpset st two tile (.dashes why) changed = formTile st two tile (.dashes why)) ∧
      (∀ q str,
        (st.font = none → formTileUpset st two tile (.price q) (some str) = nothing .overflow true) ∧
        (st.font ≠ none → fits str.length → ∃ o, placeOrigin st str.length tile = some o ∧
          formTileUpset st two tile (.price q) (some str) =
            { glyphs := str, box := stringBox st str.length o, reason := .none, overflow := false }) ∧
        (st.font ≠ none → ¬ fits str.length → formTileUpset st two tile (.price q) (some str) =
          { formTile st two tile (.dashes .overflow) with overflow := true })))

/-- R126: the blend of a pixel into a buffer, channel by channel. R81, R124: the pixel of an asset, from its bytes.
R124, R125: what a PHOTO layer makes of it, dimmed or not. R71, R77, R78: the pixels that a glyph string writes. -/
def Obligations.PixelBlendedIntoBuffer : Prop :=
  (∀ (src dst : Byte) (a : Nat), a ≤ 255 →
    (blendChannel src dst a).toNat = (src.toNat * a + dst.toNat * (255 - a) + 127) / 255 ∧
    (a = 255 → blendChannel src dst a = src) ∧ (a = 0 → blendChannel src dst a = dst)) ∧
  (∀ (b : FrameBuffer) (clip : Clip) (x y : Nat) (src : Rgb) (a : Nat), x < clip.width → y < clip.height →
    (b.blendAt clip x y src a).read x y =
      { red := blendChannel src.red (b.read x y).red a, green := blendChannel src.green (b.read x y).green a,
        blue := blendChannel src.blue (b.read x y).blue a }) ∧
  blendChannel 200 40 128 = 120 ∧
  (∀ (m : AssetMap) (pages : List Nat) (i : Nat),
    (∀ q, pages[i / 65536]? = some q → m.byte pages i = Memory.read m.memory (q * 65536 + i % 65536))) ∧
  (∀ (m : AssetMap) (g : Geometry) (pages : List Nat) (c r : Nat),
    let px := m.pixel g pages c r
    (g.format = .argb8888 →
      let at0 := r * g.stride + c * 4
      px.colour.blue = m.byte pages at0 ∧ px.colour.green = m.byte pages (at0 + 1) ∧
      px.colour.red = m.byte pages (at0 + 2) ∧ px.alpha = m.byte pages (at0 + 3)) ∧
    (g.format = .rgb565 →
      let at0 := r * g.stride + c * 2
      let v := (m.byte pages at0).toNat + 256 * (m.byte pages (at0 + 1)).toNat
      px.colour.red.toNat = v / 2048 * 8 + v / 2048 / 4 ∧ px.colour.green.toNat = v / 32 % 64 * 4 + v / 32 % 64 / 16 ∧
      px.colour.blue.toNat = v % 32 * 8 + v % 32 / 4) ∧
    (g.format = .a8 → px.alpha = m.byte pages (r * g.stride + c))) ∧
  (∀ (dimmed : Bool) (dim : Byte) (c : Rgb),
    (dimmed = false → dimIf dimmed dim c = c) ∧
    (dimmed = true → (dimIf dimmed dim c).red.toNat = (c.red.toNat * dim.toNat + 127) / 255 ∧
      (dimIf dimmed dim c).green.toNat = (c.green.toNat * dim.toNat + 127) / 255 ∧
      (dimIf dimmed dim c).blue.toNat = (c.blue.toNat * dim.toNat + 127) / 255) ∧
    (dim = 255 → dimIf dimmed dim c = c)) ∧
  (∀ (m : AssetMap) (g : Geometry) (pages : List Nat) (l : Layer) (dimmed : Bool) (dim : Byte) (c r : Nat),
    let px := m.pixel g pages c r
    let source := photoSource m g pages l dimmed dim c r
    source.1 = dimIf dimmed dim px.colour ∧
    (g.format = .argb8888 → source.2 = (px.alpha.toNat * l.alpha.toNat + 127) / 255) ∧
    (g.format = .rgb565 → source.2 = l.alpha.toNat)) ∧
  (∀ (m : AssetMap) (st : Style) (clip : Clip) (colour : Rgb) (alpha : Byte) (glyphs : List Nat) (x0 y0 : Nat)
      (b : FrameBuffer), clip.width ≤ 4096 →
    (st.font = none → drawGlyphs m st clip colour alpha glyphs x0 y0 b = b) ∧
    (∀ h g pages n, st.font = some h → m.entry h = .ready g pages n ∨ m.entry h = .retiring g pages n → g.format = .a8 →
      ∀ x y, x < 4096 →
        let p := (drawGlyphs m st clip colour alpha glyphs x0 y0 b).read x y
        (∀ k glyph, glyphs[k]? = some glyph → x0 + k * st.cw ≤ x → x < x0 + k * st.cw + st.cw → y0 ≤ y → y < y0 + st.ch →
          x < clip.width → y < clip.height →
          let mask := (m.byte pages ((y - y0) * g.stride + (glyph * st.cw + (x - (x0 + k * st.cw))))).toNat
          let a := ((st.alpha.toNat * mask + 127) / 255 * alpha.toNat + 127) / 255
          p = { red := blendChannel colour.red (b.read x y).red a, green := blendChannel colour.green (b.read x y).green a,
                blue := blendChannel colour.blue (b.read x y).blue a }) ∧
        (x < x0 ∨ x0 + glyphs.length * st.cw ≤ x ∨ y < y0 ∨ y0 + st.ch ≤ y ∨ clip.width ≤ x ∨ clip.height ≤ y →
          p = b.read x y)))

/-! ### The frame job -/

/-- A frame start that finds the job IDLE: exchange, then every part of the render begin, with the references that the
replaced scenes and styles release, and what each panel is sent from then on.
The order of the two parts that R115 leaves open is an operand (log entry 16). -/
def Obligations.FrameStartBeginsJob : Prop :=
  ∀ (s : State) (panelFirst : Bool), s.nva.loading = false → s.engine.job = .idle →
    ∃ t, exec (.frameStart panelFirst) s = .next t ∧
      let a := s.applyCommit
      let d := s.daypart.choose a.table.rules
      (t.stager = a.stager ∧ t.nva = a.nva ∧ t.checker = a.checker ∧ t.table.promos = a.table.promos ∧
        t.table.rules = a.table.rules ∧ t.table.pendingAvail = []) ∧
      (ItemsSound a.table.items → Sparse.rising a.table.pendingAvail = true → ∀ i, t.table.item i =
        (a.table.item i).map (fun it => { it with
          avail := (Sparse.find a.table.pendingAvail it.code).getD it.avail })) ∧
      t.daypart = { s.daypart with live := d } ∧
      (∀ f, s.daypart.force = some f → d = f) ∧
      (s.daypart.force = none → s.daypart.time = none → d = a.table.rules.defaultDaypart) ∧
      (∀ m, s.daypart.force = none → s.daypart.time = some m → scheduleValid s.daypart.schedule = true →
        ∃ e ∈ s.daypart.schedule, d = e.daypart ∧
          ((e.start ≤ m.minute ∧ ∀ x ∈ s.daypart.schedule, x.start ≤ m.minute → x.start ≤ e.start) ∨
            ((∀ x ∈ s.daypart.schedule, m.minute < x.start) ∧ ∀ x ∈ s.daypart.schedule, x.start ≤ e.start))) ∧
      (d ≠ s.daypart.live → t.posFlag .daypartChanged = true ∧ t.contentFlag .daypartChanged = true) ∧
      (∀ fl, t.posFlag fl = (a.posFlag fl || (decide (fl = .daypartChanged) && !decide (d = s.daypart.live)))) ∧
      (∀ fl, t.contentFlag fl = (a.contentFlag fl || (decide (fl = .daypartChanged) && !decide (d = s.daypart.live)))) ∧
      (∀ c, s.stager.commit = some c → c.state = .pending →
        t.posFlag .commitApplied = true ∧ t.contentFlag .commitApplied = true) ∧
      (∀ i : Fin 16, t.former.styles[i] =
        { current := s.former.styles[i].pending.getD s.former.styles[i].current, pending := none }) ∧
      (∀ p : Fin 4, t.scenes.panels[p] = { s.scenes.panels[p] with
        pending := none,
        active := if s.scenes.panels[p].pending.isSome then s.scenes.panels[p].pending else s.scenes.panels[p].active }) ∧
      (∀ p : Fin 4,
        let r := s.panel.panels[p]
        let r' := t.panel.panels[p]
        let n := r.pendingSettings.getD r.installed
        r' = { r with installed := n, pendingSettings := none, curve := r.pendingCurve.getD r.curve, pendingCurve := none,
                      target := r'.target, applied := r'.applied } ∧
        (r.installed.enable = true → n.enable = false → r'.target = 0 ∧ r'.applied = 0) ∧
        t.engine.outputs[p] =
          if r.installed.enable then { frontOdd := !s.engine.outputs[p].frontOdd,
                                       showing := n.enable && decide (n.resolution = r.installed.resolution) }
          else s.engine.outputs[p]) ∧
      ((∀ p : Fin 4, s.panel.panels[p].pendingSettings = none) → t.panel = s.panel.frameStart) ∧
      (let install := fun (u : PanelUnit) => ({
          panels := Vector.ofFn (fun p : Fin 4 =>
            let r := u.panels[p]
            let n := r.pendingSettings.getD r.installed
            let off := r.installed.enable && !n.enable
            { r with installed := n, pendingSettings := none, target := if off then 0 else r.target,
                     applied := if off then 0 else r.applied })
          scanPosition := u.scanPosition
          conversion := u.conversion.map (fun c =>
            let r := u.panels[c.channel.val / 2]
            let n := r.pendingSettings.getD r.installed
            { c with discard := c.discard || (r.installed.enable && !n.enable) }) } : PanelUnit);
        t.panel = if panelFirst then install s.panel.frameStart else (install s.panel).frameStart) ∧
      (∀ p : Fin 4,
        let r := s.panel.panels[p].installed
        let n := s.panel.panels[p].pendingSettings.getD r
        ∀ x y, x < (t.clip p).width → y < (t.clip p).height →
          (r.enable = true → n.enable = true → n.resolution = r.resolution →
            t.outputPixel p x y = some (s.engine.buffers[s.engine.backIndex p].read x y)) ∧
          (r.enable = true → n.enable = false ∨ n.resolution ≠ r.resolution → t.outputPixel p x y = some Rgb.black) ∧
          (r.enable = false → s.engine.outputs[p].showing = false → t.outputPixel p x y = some Rgb.black)) ∧
      (t.engine.buffers = s.engine.buffers) ∧
      (let replaced := (List.finRange 4).flatMap (fun p =>
          if s.scenes.panels[p].pending.isSome then sceneNames s.scenes.panels[p].active else []) ++
          (List.finRange 16).flatMap (fun i =>
            if s.former.styles[i].pending.isSome then s.former.styles[i].current.font.toList else [])
        ∀ h, t.assets.entry h = (s.assets.entry h).afterReleases (replaced.count h)) ∧
      t.engine = { s.engine with rate := s.engine.nextRate, shown := [], outputs := t.engine.outputs, job := t.engine.job } ∧
      (∀ p : Fin 4, t.panel.panels[p].installed.enable = true →
        (∀ j : Fin 4, j.val < p.val → t.panel.panels[j].installed.enable = false) →
        t.engine.job = .compose (.fill p)) ∧
      ((∀ p : Fin 4, t.panel.panels[p].installed.enable = false) → t.engine.job = .compose .finished) ∧
      t.assets = { s.assets with entries := t.assets.entries } ∧
      t.link = { s.link with summary := t.link.summary } ∧
      t.port = { s.port with summary := t.port.summary, armed := t.port.armed, messages := t.port.messages } ∧
      t.draws = s.draws ∧ t.pending = s.pending

/-- FRAME_START during the start-up load, or with a job in flight: a late frame; the panel unit's part goes on.
What a frame start does in the panel unit: pending curves, then target duties, then one move of each duty, and the
begin of one conversion, of a channel whose panel is enabled. -/
def Obligations.PanelUnitAtFrameStart : Prop :=
  (∀ (s : State) (panelFirst : Bool),
      (s.nva.loading = true →
        exec (.frameStart panelFirst) s =
          .next { s with engine := { s.engine with rate := s.engine.nextRate }, panel := s.panel.frameStart }) ∧
      (s.nva.loading = false → s.engine.job ≠ .idle →
        exec (.frameStart panelFirst) s =
          .next { s with
            engine := { s.engine with rate := s.engine.nextRate,
                                      late := if s.engine.late < 65535 then s.engine.late + 1 else s.engine.late },
            panel := s.panel.frameStart,
            port := s.port.raise .frameLate })) ∧
  (∀ u : PanelUnit,
      (∀ (c : Channel) (p : Fin 4), c.val / 2 = p.val → u.inScan c = u.panels[p].installed.enable) ∧
      (∀ p : Fin 4,
        let r := u.panels[p]
        let r' := u.frameStart.panels[p]
        let c := r.pendingCurve.getD r.curve
        let n := r.lastAmbient
        (r'.curve = c ∧ r'.pendingCurve = none) ∧
        (r.installed.enable = false → r' = { r with curve := c, pendingCurve := none }) ∧
        (r.installed.enable = true →
          r' = { r with curve := c, pendingCurve := none, target := r'.target, applied := r'.applied } ∧
          (n ≤ c.p0.a → r'.target = c.p0.d) ∧
          (c.p0.a < n → c.p3.a ≤ n → r'.target = c.p3.d) ∧
          (∀ x y : CurvePoint, c.valid = true → (x = c.p0 ∧ y = c.p1) ∨ (x = c.p1 ∧ y = c.p2) ∨ (x = c.p2 ∧ y = c.p3) →
            x.a ≤ n → n < y.a →
            r'.target = (x.d * (y.a - n) + y.d * (n - x.a) + (y.a - x.a) / 2) / (y.a - x.a) ∧
              min x.d y.d ≤ r'.target ∧ r'.target ≤ max x.d y.d) ∧
          (r.cap < r.applied → r'.applied = r.cap) ∧
          (r.applied ≤ r.cap →
            let g := min r'.target r.cap
            (r.applied ≤ g → r'.applied = min g (r.applied + 20)) ∧
            (g ≤ r.applied → r'.applied = max g (r.applied - 20))) ∧
          r'.applied ≤ r.cap)) ∧
      (∀ c, u.conversion = some c → u.frameStart.conversion = some c ∧ u.frameStart.scanPosition = u.scanPosition) ∧
      (u.conversion = none → (∀ c : Channel, u.inScan c = false) →
        u.frameStart.conversion = none ∧ u.frameStart.scanPosition = u.scanPosition) ∧
      (∀ k : Nat, u.conversion = none → 1 ≤ k → k ≤ 8 →
        (∀ c : Channel, c.val = (u.scanPosition.val + k) % 8 → u.inScan c = true) →
        (∀ j, 1 ≤ j → j < k → ∀ c : Channel, c.val = (u.scanPosition.val + j) % 8 → u.inScan c = false) →
        ∃ c : Channel, c.val = (u.scanPosition.val + k) % 8 ∧ u.frameStart.scanPosition = c ∧
          u.frameStart.conversion = some { channel := c, discard := false }))

/-- COMPOSE_PANEL_FILL replaces every pixel within the installed resolution and writes nothing else.
Where the traversal goes: to the next layer of the panel's active scene, else to the next enabled panel, else to its end.
COMPOSE_STAGE_END, CHECK_STAGE_END and JOB_COMPLETION: when each occurs and what it passes on.
What a panel is sent: its front buffer while its output is FRONT, black while it is BLANK; nothing but a frame start and a
power-on reset changes it.
That a stage end which is not due changes nothing is the model's choice (log entry 14). -/
def Obligations.PanelFilledAndStagesEnd : Prop :=
  (∀ (s : State) (p : Fin 4), s.engine.job = .compose (.fill p) →
      ∃ b : FrameBuffer,
        exec .composePanelFill s = .next { s with engine := { s.engine with
          buffers := s.engine.buffers.set (s.engine.backIndex p) b, job := .compose (s.layerFrom p 0) } } ∧
        ∀ x y, x < 4096 →
          b.read x y =
            if x < (s.clip p).width ∧ y < (s.clip p).height then
              (match s.scenes.panels[p].active with
                | some sc => sc.background
                | none => Rgb.black)
            else s.engine.buffers[s.engine.backIndex p].read x y) ∧
  (∀ (s : State) (p : Fin 4) (k : Nat),
      (∀ sc, s.scenes.panels[p].active = some sc → k < sc.layers.length → s.layerFrom p k = .layer p k) ∧
      ((∀ sc, s.scenes.panels[p].active = some sc → sc.layers.length ≤ k) →
        (∀ q : Fin 4, p < q → s.panel.panels[q].installed.enable = true →
          (∀ r : Fin 4, p < r → r < q → s.panel.panels[r].installed.enable = false) → s.layerFrom p k = .fill q) ∧
        ((∀ q : Fin 4, p < q → s.panel.panels[q].installed.enable = false) → s.layerFrom p k = .finished))) ∧
  (∀ s : State,
      (s.engine.job = .compose .finished → exec .composeStageEnd s = .next { s with engine := { s.engine with
        shown := s.engine.shown.map (fun r => { r with mark := none }),
        job := .check 0 (s.checker.armed && s.engine.shown.any (fun r => decide (r.reason = .none))) } }) ∧
      (s.engine.job ≠ .compose .finished → exec .composeStageEnd s = .next s) ∧
      (∀ i testing, s.engine.job = .check i testing →
        (s.engine.shown.length ≤ i → exec .checkStageEnd s = .next (s.setJob (.patch 0))) ∧
        (i < s.engine.shown.length → exec .checkStageEnd s = .next s)) ∧
      (∀ i, s.engine.job = .patch i →
        (s.engine.shown.length ≤ i → exec .jobCompletion s = .next (s.setJob .idle)) ∧
        (i < s.engine.shown.length → exec .jobCompletion s = .next s))) ∧
  (∀ (s : State) (p : Fin 4) (x y : Nat),
      let size := match s.panel.panels[p].installed.resolution with
        | .w1920h1080 => (1920, 1080)
        | .w1080h1920 => (1080, 1920)
        | .w1280h720 => (1280, 720)
        | .w720h1280 => (720, 1280)
      (size.1 ≤ x ∨ size.2 ≤ y → s.outputPixel p x y = none) ∧
      (x < size.1 → y < size.2 → s.engine.outputs[p].showing = false → s.outputPixel p x y = some Rgb.black) ∧
      (x < size.1 → y < size.2 → s.engine.outputs[p].showing = true → ∀ b : Fin 8,
        b.val = 2 * p.val + (if s.engine.outputs[p].frontOdd then 1 else 0) →
        s.outputPixel p x y = some (s.engine.buffers[b].read x y))) ∧
  (∀ (c : Instr) (s t : State), (∀ b, c ≠ .frameStart b) → (∀ straps large, c ≠ .powerOnReset straps large) →
      exec c s = .next t → ∀ p x y, t.outputPixel p x y = s.outputPixel p x y)

/-- COMPOSE_LAYER of a layer that its visibility test hides: the traversal goes on, where PanelFilledAndStagesEnd
says, and nothing else changes, but for the handling of a failure that the test's own read finds (R113).
COMPOSE_LAYER of a visible PHOTO or FILL layer: each pixel of its rectangle within the panel is blended once. -/
def Obligations.LayerHiddenOrBlended : Prop :=
  (∀ (s : State) (p : Fin 4) (k : Nat) (sc : Scene) (l : Layer), s.engine.job = .compose (.layer p k) →
      s.scenes.panels[p].active = some sc → sc.layers[k]? = some l → ∀ d : ComposeUpset,
      (l.mask.getLsbD s.daypart.live.val = false ∨
        (∃ code, l.code = some code ∧ s.table.has code = false) ∨
        (∃ code i it, l.code = some code ∧ s.table.indexOf code = some i ∧ s.table.item i = some it ∧
          ((l.soldOut = .hide ∧ it.avail = .soldOut) ∨ (l.soldOut = .only ∧ it.avail = .available) ∨
            (it.health = .corrupt ∧ l.isPrice = false) ∨
            (it.health = .good ∧ it.parityFails = false ∧ it.body.price[s.daypart.live] = none)))) →
      exec (.composeLayer ⟨[], d⟩) s = .next (s.setJob (.compose (s.layerFrom p (k + 1))))) ∧
  (∀ (s : State) (p : Fin 4) (k : Nat) (sc : Scene) (l : Layer) (code : Nat) (i : ItemIndex) (it : Item),
      s.engine.job = .compose (.layer p k) → s.scenes.panels[p].active = some sc → sc.layers[k]? = some l →
      l.mask.getLsbD s.daypart.live.val = true → l.code = some code → s.table.indexOf code = some i →
      s.table.item i = some it → (l.soldOut = .hide → it.avail = .available) → (l.soldOut = .only → it.avail = .soldOut) →
      it.health = .good → it.parityFails = true → l.isPrice = false → ∀ d : ComposeUpset,
      exec (.composeLayer ⟨[], d⟩) s = .next ((s.readBody i).setJob (.compose (s.layerFrom p (k + 1))))) ∧
  (∀ (s : State) (p : Fin 4) (k : Nat) (sc : Scene) (l : Layer) (dimmed : Bool), s.engine.job = .compose (.layer p k) →
      s.scenes.panels[p].active = some sc → sc.layers[k]? = some l → l.mask.getLsbD s.daypart.live.val = true →
      ((l.code = none ∧ dimmed = false) ∨
        (∃ code i it, l.code = some code ∧ s.table.indexOf code = some i ∧ s.table.item i = some it ∧
          it.health = .good ∧ it.parityFails = false ∧ it.body.price[s.daypart.live] ≠ none ∧
          ((l.soldOut = .always ∧ dimmed = false) ∨ (l.soldOut = .hide ∧ it.avail = .available ∧ dimmed = false) ∨
            (l.soldOut = .dim ∧ dimmed = decide (it.avail = .soldOut)) ∨
            (l.soldOut = .only ∧ it.avail = .soldOut ∧ dimmed = false)))) →
      ∀ (d : ComposeUpset) (source : Nat → Nat → Rgb × Nat),
        ((∃ colour, l.content = .fill colour ∧ source = fun _ _ => (dimIf dimmed sc.dim colour, l.alpha.toNat)) ∨
          (∃ h g pages n, l.content = .photo h ∧
            (s.assets.entry h = .ready g pages n ∨ s.assets.entry h = .retiring g pages n) ∧
            source = photoSource s.assets g pages l dimmed sc.dim)) →
        ∃ b : FrameBuffer,
          exec (.composeLayer ⟨[], d⟩) s = .next { s with engine := { s.engine with
            buffers := s.engine.buffers.set (s.engine.backIndex p) b, job := .compose (s.layerFrom p (k + 1)) } } ∧
          ∀ x y, x < 4096 →
            let old := s.engine.buffers[s.engine.backIndex p].read x y
            b.read x y =
              if l.x ≤ x ∧ x < l.x + l.w ∧ l.y ≤ y ∧ y < l.y + l.h ∧ x < (s.clip p).width ∧ y < (s.clip p).height then
                blend (source (x - l.x) (y - l.y)).1 old (source (x - l.x) (y - l.y)).2
              else old)

/-- COMPOSE_LAYER of a PRICE layer that is drawn or has a record fault, found by this read or before it: its tile, its shown
record and its flags.
An upset of the compose stage's datapath, which may give another price, clamped cause and string, is an operand (log
entry 37). -/
def Obligations.PriceLayerMakesShownRecord : Prop :=
  ∀ (s : State) (p : Fin 4) (k : Nat) (sc : Scene) (l : Layer) (style : Fin 16) (code : Nat) (i : ItemIndex) (it : Item)
    (d : ComposeUpset),
    s.engine.job = .compose (.layer p k) → s.scenes.panels[p].active = some sc → sc.layers[k]? = some l →
    l.mask.getLsbD s.daypart.live.val = true → l.content = .price style → l.code = some code →
    s.table.indexOf code = some i → s.table.item i = some it →
    (l.soldOut = .hide → it.avail = .available) → (l.soldOut = .only → it.avail = .soldOut) →
    ∀ (price : Option Nat) (clamped : Bool) (request : TileRequest),
      (((it.health = .corrupt ∨ it.parityFails = true) ∧ price = none ∧ clamped = false ∧ request = .dashes .recordFault) ∨
        (∃ q q' c, it.health = .good ∧ it.parityFails = false ∧
          shownPrice s.table.promos s.table.rules it.body s.daypart.live = (some q', c) ∧
          (d.price = none → q = q' ∧ clamped = c) ∧ (∀ e, d.price = some e → q = e.1 ∧ clamped = e.2) ∧ price = some q ∧
          request = if s.checker.latch then .dashes .checkPathFail
            else if s.suspension code ≠ none then .dashes .suspended
            else .price q)) →
      let u := s.readBody i
      let st := s.former.styles[style].current
      let f := formTileUpset st s.table.rules.twoDigits { x := l.x, y := l.y, w := l.w, h := l.h } request d.glyphs
      let dimmed := decide (l.soldOut = .dim) && decide (it.avail = .soldOut)
      ∃ t, exec (.composeLayer ⟨[], d⟩) s = .next t ∧
        t.engine = { s.engine with
          buffers := t.engine.buffers, job := .compose (s.layerFrom p (k + 1)),
          shown := s.engine.shown ++ [{ panel := p, layer := k, code := code, daypart := s.daypart.live, price := price,
                                        clamped := clamped, glyphs := f.glyphs, reason := f.reason, box := f.box,
                                        mark := none }] } ∧
        t.engine.buffers[s.engine.backIndex p] = drawGlyphs s.assets st (s.clip p) (dimIf dimmed sc.dim st.colour) l.alpha
          f.glyphs f.box.x f.box.y s.engine.buffers[s.engine.backIndex p] ∧
        (∀ b : Fin 8, b ≠ s.engine.backIndex p → t.engine.buffers[b] = s.engine.buffers[b]) ∧
        (∀ x y, x < 4096 → ¬ (f.box.x ≤ x ∧ x < f.box.x + f.box.w ∧ f.box.y ≤ y ∧ y < f.box.y + f.box.h) →
          t.engine.buffers[s.engine.backIndex p].read x y = s.engine.buffers[s.engine.backIndex p].read x y) ∧
        (∀ fl, t.posFlag fl = (u.posFlag fl || (decide (fl = .priceClamped) && clamped))) ∧
        (∀ fl, t.contentFlag fl = (u.contentFlag fl || (decide (fl = .priceClamped) && clamped) ||
          (decide (fl = .priceOverflow) && f.overflow))) ∧
        t = { u with engine := t.engine, link := { u.link with summary := t.link.summary },
                     port := { u.port with summary := t.port.summary, armed := t.port.armed,
                                           messages := t.port.messages } }

/-- CHECK_RECORD: the read, the mark by the tests of R133 or R134, and the suspension of a rejected item.
The self-test at a record: made at the first record that reaches test 6, passed by a working comparator, failed by one
that reports every pair equal. The two suspension flags are set exactly when a suspension changes, and no flag but these and
CHECK_RESULT changes.
The comparator's failure is an operand (log entry 18). -/
def Obligations.RecordJudgedAndComparatorTested : Prop :=
  (∀ (s : State) (i : Nat) (testing : Bool) (r : ShownRecord), s.engine.job = .check i testing →
      s.engine.shown[i]? = some r →
      ∃ t, exec (.checkRecord [] false) s = .next t ∧
        let u := s.readRecordBody r.code
        let good := ∃ k it, u.table.indexOf r.code = some k ∧ u.table.item k = some it ∧ it.health = .good
        let equal := ∃ k it st q, u.table.indexOf r.code = some k ∧ u.table.item k = some it ∧
          r.daypart = s.daypart.live ∧ s.recordStyle r = some st ∧ r.price = some q ∧
          shownPrice s.table.promos s.table.rules it.body s.daypart.live = (some q, r.clamped) ∧
          r.glyphs = priceString st s.table.rules.twoDigits q
        ∃ m, t.engine.shown = s.engine.shown.set i { r with mark := m } ∧
          (¬ good → m = some .recordFault) ∧
          (good → r.reason = .none → u.suspension r.code ≠ none → m = some .suspended) ∧
          (good → r.reason = .none → u.suspension r.code = none → equal → m = none) ∧
          (good → r.reason = .none → u.suspension r.code = none → ¬ equal → m = some .mismatch) ∧
          (good → r.reason ≠ .none → (∃ g ∈ r.glyphs, g ≤ 9) → m = some .mismatch) ∧
          (good → r.reason ≠ .none → (∀ g ∈ r.glyphs, 9 < g) → m = none) ∧
          (∀ c, t.suspension c = if c = r.code ∧ m ≠ none ∧ u.suspension c = none ∧ u.table.has c = true
            then some .mismatch else u.suspension c) ∧
          (∃ testing', t.engine.job = .check (i + 1) testing') ∧
          t.engine.buffers = s.engine.buffers ∧ t.engine.outputs = s.engine.outputs ∧ t.engine.late = s.engine.late ∧
          t.table = u.table ∧ t.nva = u.nva ∧ t.checker.latch = s.checker.latch ∧
          t = { s with table := t.table, nva := t.nva, engine := t.engine, checker := t.checker,
                       link := { s.link with summary := t.link.summary },
                       port := { s.port with summary := t.port.summary, armed := t.port.armed,
                                             messages := t.port.messages } }) ∧
  (∀ (s : State) (i : Nat) (testing stuck : Bool) (r : ShownRecord), s.engine.job = .check i testing →
      s.engine.shown[i]? = some r →
      let u := s.readRecordBody r.code
      let reaches := r.reason = .none ∧ u.suspension r.code = none ∧ r.daypart = s.daypart.live ∧
        s.recordStyle r ≠ none ∧ ∃ k it q, u.table.indexOf r.code = some k ∧ u.table.item k = some it ∧
          it.health = .good ∧ r.price = some q ∧
          shownPrice s.table.promos s.table.rules it.body s.daypart.live = (some q, r.clamped)
      (∀ st, s.recordStyle r = some st ↔ ∃ sc l style, s.scenes.panels[r.panel].active = some sc ∧
        sc.layers[r.layer]? = some l ∧ l.content = .price style ∧ st = s.former.styles[style].current) ∧
      (∀ k, s.table.indexOf r.code = some k → u = s.readBody k) ∧ (s.table.indexOf r.code = none → u = s) ∧
      ∃ t, exec (.checkRecord [] stuck) s = .next t ∧
        ((∃ c, t.suspension c ≠ s.suspension c) →
          t.posFlag .suspendedChanged = true ∧ t.contentFlag .priceSuspended = true) ∧
        ((∀ c, t.suspension c = s.suspension c) →
          t.posFlag .suspendedChanged = s.posFlag .suspendedChanged ∧
          t.contentFlag .priceSuspended = s.contentFlag .priceSuspended) ∧
        (∀ fl, fl ≠ .suspendedChanged → fl ≠ .checkResult → t.posFlag fl = s.posFlag fl) ∧
        (∀ fl, fl ≠ .priceSuspended → fl ≠ .checkResult → t.contentFlag fl = s.contentFlag fl) ∧
        (testing = true → reaches → t.engine.job = .check (i + 1) false ∧ t.checker.armed = false ∧
          t.checker.lastResult = (if stuck then .fail else .pass) ∧ t.checker.latch = (s.checker.latch || stuck) ∧
          t.posFlag .checkResult = true ∧ t.contentFlag .checkResult = true) ∧
        (testing = false ∨ ¬ reaches → t.engine.job = .check (i + 1) testing ∧ t.checker.armed = s.checker.armed ∧
          t.checker.lastResult = s.checker.lastResult ∧ t.checker.latch = s.checker.latch ∧
          t.posFlag .checkResult = s.posFlag .checkResult ∧ t.contentFlag .checkResult = s.contentFlag .checkResult))

/-- PATCH_RECORD: which records are patched, the reason each takes, and the pixels a patch writes. -/
def Obligations.RejectedTilePatched : Prop :=
  ∀ (s : State) (i : Nat) (r : ShownRecord), s.engine.job = .patch i → s.engine.shown[i]? = some r →
    (r.mark = none → r.reason ≠ .none ∨ (s.checker.latch = false ∧ s.suspension r.code = none) →
      exec .patchRecord s = .next (s.setJob (.patch (i + 1)))) ∧
    (∀ why, (r.mark ≠ none ∧ why = .mismatch) ∨
        (r.mark = none ∧ r.reason = .none ∧ s.checker.latch = true ∧ why = .checkPathFail) ∨
        (r.mark = none ∧ r.reason = .none ∧ s.checker.latch = false ∧ s.suspension r.code ≠ none ∧ why = .mismatch) →
      ∃ b : FrameBuffer,
        exec .patchRecord s = .next { s with engine := { s.engine with
          shown := s.engine.shown.set i { r with glyphs := [13, 13, 13], reason := why }, job := .patch (i + 1),
          buffers := s.engine.buffers.set (s.engine.backIndex r.panel) b } } ∧
        (r.box.w = 0 → r.box.h = 0 → b = s.engine.buffers[s.engine.backIndex r.panel]) ∧
        (∀ st, s.recordStyle r = some st → ¬ (r.box.w = 0 ∧ r.box.h = 0) → ∃ filled : FrameBuffer,
          b = drawGlyphs s.assets st (s.clip r.panel) st.colour 255 [13, 13, 13] r.box.x r.box.y filled ∧
          ∀ x y, x < 4096 → filled.read x y =
            if r.box.x ≤ x ∧ x < r.box.x + r.box.w ∧ r.box.y ≤ y ∧ y < r.box.y + r.box.h ∧
                x < (s.clip r.panel).width ∧ y < (s.clip r.panel).height then
              (match s.scenes.panels[r.panel].active with
                | some a => a.background
                | none => Rgb.black)
            else s.engine.buffers[s.engine.backIndex r.panel].read x y) ∧
        (∀ st, s.recordStyle r = some st → ∀ x y, x < 4096 →
          ¬ (r.box.x ≤ x ∧ x < r.box.x + 3 * st.cw ∧ r.box.y ≤ y ∧ y < r.box.y + st.ch) →
          b.read x y =
            if r.box.x ≤ x ∧ x < r.box.x + r.box.w ∧ r.box.y ≤ y ∧ y < r.box.y + r.box.h ∧
                x < (s.clip r.panel).width ∧ y < (s.clip r.panel).height then
              (match s.scenes.panels[r.panel].active with
                | some a => a.background
                | none => Rgb.black)
            else s.engine.buffers[s.engine.backIndex r.panel].read x y))

/-! ### The NV price array -/

/-- LOAD_COMPLETION: what the table, the slots and the lists hold, from what the array is found to hold.
How a slot is classed by its three words, its record and its position, and the journal by its word and number; what the load
meets at a slot is the last value given for it (log entry 17), or what the array holds.
That a corrected journal is not itself logged is the model's reading (log entry 23), and that LOAD_COMPLETION after the
load changes nothing is its choice (log entry 14). -/
def Obligations.LoadFillsTableFromArray : Prop :=
  (∀ (k : SlotId) (torn : Option SlotId) (v : NvSlot),
    let words := [v.word0, v.word1, v.word2]
    let read := ∀ w ∈ words, w = .clean ∨ w = .sec
    let fits := (∃ i code body, k = itemSlot i ∧ v.record = .item code body ∧ 1 ≤ code ∧ code ≤ 65534 ∧
        (∃ d : Daypart, body.price[d] ≠ none) ∧ (∀ (d : Daypart) q, body.price[d] = some q → q ≤ 999999) ∧
        (∀ j, body.promo = some j → j < 32)) ∨
      (∃ r, k = rulesSlot ∧ v.record = .rules r ∧ r.taxRate ≤ 2500 ∧ r.step ∈ [1, 2, 5, 10, 25, 50, 100]) ∨
      (∃ (i : Fin 32) (p : Promotion), k = promoSlot i ∧ v.record = .promo i.val p ∧ p.mask ≠ 0 ∧ (match p.kind with
        | .percent => 1 ≤ p.value ∧ p.value ≤ 90
        | .amount => 1 ≤ p.value ∧ p.value ≤ 999999
        | .fixed => p.value ≤ 999999)) ∨
      (∃ es, k = scheduleSlot ∧ v.record = .schedule es ∧ 1 ≤ es.length ∧ es.length ≤ 4 ∧ (∀ e ∈ es, e.start < 1440) ∧
        es.Pairwise (fun a b => a.start < b.start))
    (torn = some k → loadFinding k torn v = .torn) ∧
    (torn ≠ some k →
      ((∀ w ∈ words, w = .erased) → loadFinding k torn v = .erased) ∧
      ((∃ w ∈ words, w ≠ .erased) → (∃ w ∈ words, w = .erased ∨ w = .ded) → loadFinding k torn v = .ded) ∧
      (read → fits → ∃ sec : Bool, (sec = true ↔ ∃ w ∈ words, w = .sec) ∧ loadFinding k torn v = .valid sec v.record) ∧
      (read → ¬ fits → loadFinding k torn v = .invalid))) ∧
  (∀ j : Journal,
    (j.word = .erased → j.torn = none ∧ j.faulty = false) ∧ (j.word = .ded → j.torn = none ∧ j.faulty = true) ∧
    (j.word = .clean ∨ j.word = .sec →
      (∀ k : SlotId, j.slot = k.val → j.torn = some k ∧ j.faulty = false) ∧
      (545 < j.slot → j.torn = none ∧ j.faulty = true))) ∧
  (∀ (n : Nva) (slots : List (SlotId × NvSlot)) (journal : Option Journal),
    (n.found slots journal).journal = journal.getD n.journal ∧
    (∀ k, (∀ e ∈ slots, e.1 ≠ k) → (n.found slots journal).slot k = n.slot k) ∧
    (∀ before k v after, slots = before ++ (k, v) :: after → (∀ e ∈ after, e.1 ≠ k) →
      (n.found slots journal).slot k = v)) ∧
  ∀ (s : State) (slots : List (SlotId × NvSlot)) (journal : Option Journal),
    (s.nva.loading = false → exec (.loadCompletion slots journal) s = .next s) ∧
    (s.nva.loading = true →
      let n := s.nva.found slots journal
      let finding := fun (k : SlotId) => loadFinding k n.journal.torn (n.slot k)
      let bears := fun (k : ItemIndex) (code : Nat) (body : ItemBody) =>
        ∃ sec, finding (itemSlot k) = .valid sec (.item code body)
      ∃ t, exec (.loadCompletion slots journal) s = .next t ∧
        (∀ i code body, bears i code body → (∀ j : ItemIndex, j.val < i.val → ∀ b, ¬ bears j code b) →
          t.table.item i = some { code := code, body := body, parityFails := false, health := .good,
                                  avail := .available } ∧
          t.nva.slotState (itemSlot i) = .clean) ∧
        (∀ (i j : ItemIndex) code body b, bears i code body → j.val < i.val → bears j code b →
          t.table.item i = none ∧ t.nva.slotState (itemSlot i) = .dirty) ∧
        (∀ i : ItemIndex, finding (itemSlot i) = .erased →
          t.table.item i = none ∧ t.nva.slotState (itemSlot i) = .clean) ∧
        (∀ i : ItemIndex, finding (itemSlot i) = .torn ∨ finding (itemSlot i) = .ded ∨ finding (itemSlot i) = .invalid →
          t.table.item i = none ∧ t.nva.slotState (itemSlot i) = .dirty) ∧
        (∀ sec r, finding rulesSlot = .valid sec (.rules r) →
          t.table.rules = r ∧ t.nva.slotState rulesSlot = .clean) ∧
        ((∀ sec r, finding rulesSlot ≠ .valid sec r) → t.table.rules = Rules.standard ∧
          t.nva.slotState rulesSlot = if finding rulesSlot = .erased then .clean else .faulted) ∧
        (∀ (i : Fin 32) sec j p, finding (promoSlot i) = .valid sec (.promo j p) →
          t.table.promos[i] = p ∧ t.nva.slotState (promoSlot i) = .clean) ∧
        (∀ i : Fin 32, (∀ sec r, finding (promoSlot i) ≠ .valid sec r) → t.table.promos[i] = Promotion.standard ∧
          t.nva.slotState (promoSlot i) = if finding (promoSlot i) = .erased then .clean else .faulted) ∧
        (∀ sec es, finding scheduleSlot = .valid sec (.schedule es) →
          t.daypart.schedule = es ∧ t.nva.slotState scheduleSlot = .clean) ∧
        ((∀ sec r, finding scheduleSlot ≠ .valid sec r) →
          t.daypart.schedule = [{ start := 0, daypart := t.table.rules.defaultDaypart }] ∧
          t.nva.slotState scheduleSlot =
            if finding scheduleSlot = .erased then .clean
            else if finding scheduleSlot = .invalid then .stale else .faulted) ∧
        (t.table.pendingAvail = [] ∧ t.checker.suspended = [] ∧ t.nva.repairs = [] ∧ t.nva.op = .free ∧
          t.nva.loading = false ∧ t.nva.journal = Journal.erased ∧ t.nva.array = n.array ∧
          t.daypart.live = t.table.rules.defaultDaypart) ∧
        (∀ k, k ∈ t.nva.queue ↔ ∃ i : ItemIndex, k = itemSlot i ∧ t.nva.slotState k = .dirty) ∧
        Sparse.rising (t.nva.queue.map (fun k => (k, ()))) = true ∧
        (t.nva.faults = [] ↔ n.journal.faulty = false ∧
          (∀ k : SlotId, finding k ≠ .torn ∧ finding k ≠ .ded ∧ (∀ r, finding k ≠ .valid true r)) ∧
          (∀ k : SlotId, k ≠ scheduleSlot → finding k ≠ .invalid) ∧
          (∀ (i j : ItemIndex) code body b, bears i code body → j.val < i.val → ¬ bears j code b)) ∧
        (let lowerBears := fun (k : SlotId) (code : Nat) => (List.finRange 512).any (fun j =>
            decide (j.val < k.val) && (match finding (itemSlot j) with
              | .valid _ (.item c _) => decide (c = code)
              | _ => false))
          let entry := fun (k : SlotId) (kind : FaultKind) => (⟨k.val, kind, .load⟩ : FaultEntry)
          let logged := (if n.journal.faulty then [⟨546, .ded, .load⟩] else []) ++
            (List.finRange 546).filterMap (fun k => match finding k with
              | .torn => some (entry k .torn)
              | .erased => none
              | .ded => some (entry k .ded)
              | .invalid => if k = scheduleSlot then none else some (entry k .ded)
              | .valid sec (.item code _) =>
                if lowerBears k code then some (entry k .duplicate) else if sec then some (entry k .sec) else none
              | .valid sec _ => if sec then some (entry k .sec) else none)
          t.nva.faults = logged.take 16 ∧ t.nva.more = decide (16 < logged.length)) ∧
        (t.nva.faults = [] → t.link.summary = s.link.summary ∧ t.port.summary = s.port.summary) ∧
        (t.nva.faults ≠ [] → t.posFlag .nvaFault = true ∧ t.contentFlag .nvaFault = true) ∧
        t.stager = s.stager ∧ t.former = s.former ∧ t.assets = s.assets ∧ t.scenes = s.scenes ∧ t.engine = s.engine ∧
        t.panel = s.panel)

/-- SLOT_WRITE_BEGIN: a source that is not CORRUPT is copied and the write is in flight; a CORRUPT one leaves the slot
STALE, and one that is CORRUPT already keeps the reason of its suspension (log entry 19).
SLOT_WRITE_COMPLETION: the journal erased, the array free, the slot's state by the verify and the rewrite mark, and a
repair that waited handed back to the new state. -/
def Obligations.SlotWriteCopiedAndVerified : Prop :=
  (∀ (s : State) (k : SlotId) (rest : List SlotId), s.nva.loading = false → s.nva.op = .free → s.nva.repairs = [] →
      s.nva.queue = k :: rest →
      (∀ copy : Option SlotRecord,
        ((∃ i, k = itemSlot i ∧ s.table.item i = none ∧ copy = none) ∨
          (∃ i it, k = itemSlot i ∧ s.table.item i = some it ∧ it.health = .good ∧ it.parityFails = false ∧
            copy = some (.item it.code it.body)) ∨
          (k = rulesSlot ∧ copy = some (.rules s.table.rules)) ∨
          (∃ i : Fin 32, k = promoSlot i ∧ copy = some (.promo i.val s.table.promos[i])) ∨
          (k = scheduleSlot ∧ copy = some (.schedule s.daypart.schedule))) →
        exec (.slotWriteBegin []) s = .next { s with nva := { s.nva.setSlotState k .writing with
          queue := rest, journal := { word := .clean, slot := k.val },
          op := .write { slot := k, copy := copy, rewrite := false, repairWaits := false } } }) ∧
      (∀ i it, k = itemSlot i → s.table.item i = some it → it.health = .corrupt →
        exec (.slotWriteBegin []) s = .next { s with nva := { s.nva.setSlotState k .stale with queue := rest } }) ∧
      (∀ i it, k = itemSlot i → s.table.item i = some it → it.health = .good → it.parityFails = true →
        exec (.slotWriteBegin []) s =
          .next (({ s with nva := { s.nva.setSlotState k .stale with queue := rest } }).readBody i))) ∧
  (∀ (s : State) (w : SlotWrite) (found : Option NvSlot), s.nva.op = .write w →
      let v := found.getD (match w.copy with
        | some r => NvSlot.programmed r
        | none => NvSlot.erased)
      let passes := match w.copy with
        | some r => (v.read = .clean ∨ v.read = .sec) ∧ v.record = r
        | none => v.read = .erased
      let n := { s.nva.setSlot w.slot v with journal := Journal.erased, op := .free }
      let clear := { s with nva := if w.rewrite then { n.setSlotState w.slot .dirty with queue := n.queue ++ [w.slot] }
                                   else n.setSlotState w.slot .clean }
      let failed := ({ s with nva := if w.rewrite then { n.setSlotState w.slot .dirty with queue := n.queue ++ [w.slot] }
                                     else n.setSlotState w.slot .faulted }).logFault
        { slot := w.slot.val, kind := .ded, origin := .write }
      (found = none → passes) ∧
      (w.repairWaits = false →
        (passes → exec (.slotWriteCompletion found) s = .next clear) ∧
        (¬ passes → exec (.slotWriteCompletion found) s = .next failed)) ∧
      (∀ i, w.repairWaits = true → w.slot = itemSlot i →
        (passes → exec (.slotWriteCompletion found) s = .next (clear.requestRepair i)) ∧
        (¬ passes → exec (.slotWriteCompletion found) s = .next (failed.requestRepair i))))

/-- REPAIR_READ_START takes the head of the repair list; REPAIR_READ_COMPLETION restores the record, or makes the slot
FAULTED or the item UNREPAIRABLE.
That an erased or invalid read of a slot marked DIRTY is logged as DED is the model's reading (log entry 36). -/
def Obligations.RepairRestoresOrFails : Prop :=
  ∀ s : State,
    (∀ i rest, s.nva.loading = false → s.nva.op = .free → s.nva.repairs = i :: rest →
      exec .repairReadStart s = .next { s with nva := { s.nva with op := .read i, repairs := rest } }) ∧
    (∀ (i : ItemIndex) (found : Option NvSlot), s.nva.op = .read i →
      let v := found.getD (s.nva.slot (itemSlot i))
      let t := { s with nva := { s.nva.setSlot (itemSlot i) v with op := .free } }
      let usable := fun (code : Nat) (body : ItemBody) =>
        (v.read = .clean ∨ v.read = .sec) ∧ v.record = .item code body ∧ validCode code = true ∧ body.valid = true
      let sec := fun (u : State) =>
        if v.read = .sec then u.logFault { slot := i.val, kind := .sec, origin := .repair } else u
      let ded := fun (u : State) => u.logFault { slot := i.val, kind := .ded, origin := .repair }
      (s.nva.slotState (itemSlot i) ≠ .dirty →
        (∀ code body it, usable code body → s.table.item i = some it → it.health = .corrupt → it.code = code →
          exec (.repairReadCompletion found) s = .next (sec
            ((t.putItem i { it with body := body, parityFails := false, health := .good }).unsuspendRestored code))) ∧
        (∀ code body it, usable code body → s.table.item i = some it → it.health = .corrupt → it.code ≠ code →
          exec (.repairReadCompletion found) s = .next (sec (t.markUnrepairable i))) ∧
        (∀ code body, usable code body → (∀ it, s.table.item i = some it → it.health = .good) →
          exec (.repairReadCompletion found) s = .next (sec t)) ∧
        ((∀ code body, ¬ usable code body) →
          exec (.repairReadCompletion found) s =
            .next (ded (({ t with nva := t.nva.setSlotState (itemSlot i) .faulted }).markUnrepairable i)))) ∧
      (s.nva.slotState (itemSlot i) = .dirty →
        (∀ code body, usable code body → exec (.repairReadCompletion found) s = .next (sec t)) ∧
        ((∀ code body, ¬ usable code body) → exec (.repairReadCompletion found) s = .next (ded t))))

/-! ### Panels and sensors -/

/-- PANEL_SET, CURVE_SET, THERMAL_SET, BACKLIGHT_RESTART and FRAME_RATE_SET: what each writes when its fields are in
range, BAD_VALUE when one is not; installation waits.
That a rate equal to the one in effect also replaces one that waits is the model's reading (log entry 38). -/
def Obligations.PanelCommandsSetPending : Prop :=
  ∀ (s : State) (go : BitVec 32) (p : Fin 4), s.nva.loading = false →
    (∀ (e : Bool) (r : Resolution),
      s.Completes (.panelSet go (byteOf p.val) (flagByte e) r.code)
        (fun t => t.setPanel p { t.panel.panels[p] with pendingSettings := some { enable := e, resolution := r } }) .ok []) ∧
    (∀ a b c : Byte, 4 ≤ a.toNat ∨ 2 ≤ b.toNat ∨ 4 ≤ c.toNat → s.Refuses (.panelSet go a b c) .badValue) ∧
    (∀ (f : CurveForm), f.panel.toNat = p.val →
      let inRange := f.a[0].toNat < f.a[1].toNat ∧ f.a[1].toNat < f.a[2].toNat ∧ f.a[2].toNat < f.a[3].toNat ∧
        f.a[3].toNat ≤ 1023 ∧ ∀ i : Fin 4, f.d[i].toNat ≤ 1000
      (inRange → s.Completes (.curveSet go f)
        (fun t => t.setPanel p { t.panel.panels[p] with pendingCurve := some f.curve }) .ok []) ∧
      (¬ inRange → s.Refuses (.curveSet go f) .badValue)) ∧
    (∀ f : ThermalForm, f.panel.toNat = p.val →
      let inRange := 1 ≤ f.restore.toNat ∧ f.restore.toNat < f.warn.toNat ∧ f.warn.toNat < f.shutdown.toNat ∧
        f.shutdown.toNat ≤ 1022 ∧ 100 ≤ f.cap.toNat ∧ f.cap.toNat ≤ 1000 ∧ f.restart.toNat ≤ 1
      (inRange → s.Completes (.thermalSet go f)
        (fun t => t.setPanel p { t.panel.panels[p] with pendingThermal := some {
          restore := f.restore.toNat, warn := f.warn.toNat, shutdown := f.shutdown.toNat, derateCap := f.cap.toNat,
          restart := if f.restart.toNat = 0 then .auto else .manual } }) .ok []) ∧
      (¬ inRange → s.Refuses (.thermalSet go f) .badValue)) ∧
    (s.panel.panels[p].thermalState = .cooledWait →
      s.Completes (.backlightRestart go (byteOf p.val))
        (fun t => (t.setPanel p { t.panel.panels[p] with thermalState := .normal }).raiseContent .panelThermal) .ok []) ∧
    (s.panel.panels[p].thermalState = .hotOff → s.Refuses (.backlightRestart go (byteOf p.val)) .stillHot) ∧
    (s.panel.panels[p].thermalState = .normal ∨ s.panel.panels[p].thermalState = .warm →
      s.Refuses (.backlightRestart go (byteOf p.val)) .notWaiting) ∧
    (∀ a : Byte, 4 ≤ a.toNat → s.Refuses (.backlightRestart go a) .badValue ∧
      (∀ f : CurveForm, f.panel = a → s.Refuses (.curveSet go f) .badValue) ∧
      (∀ f : ThermalForm, f.panel = a → s.Refuses (.thermalSet go f) .badValue)) ∧
    s.Completes (.frameRateSet go 50) (fun t => { t with engine := { t.engine with nextRate := .hz50 } }) .ok [] ∧
    s.Completes (.frameRateSet go 60) (fun t => { t with engine := { t.engine with nextRate := .hz60 } }) .ok [] ∧
    (∀ a : Byte, a ≠ 50 → a ≠ 60 → s.Refuses (.frameRateSet go a) .badValue)

/-- SENSOR_CONVERSION_COMPLETION: discarded, an ambient code stored, or a thermistor code tested: settings first, then the
sensor fault, then the thermal state, the duty never above a cap on the way.
That it changes nothing with no conversion in flight is the model's choice (log entry 14). -/
def Obligations.ConversionUsedOrDiscarded : Prop :=
  ∀ (s : State) (code : BitVec 10),
    (s.panel.conversion = none → exec (.sensorConversionCompletion code) s = .next s) ∧
    (∀ (p : Fin 4) (c : Conversion), s.panel.conversion = some c → c.channel.val / 2 = p.val →
      let t := { s with panel := { s.panel with conversion := none } }
      let r := s.panel.panels[p]
      let n := code.toNat
      let bad := decide (n = 0 ∨ n = 1023)
      let th := r.pendingThermal.getD r.thermal
      let st : ThermalState := if bad then r.thermalState else match r.thermalState with
        | .normal => if th.shutdown ≤ n then .hotOff else if th.warn ≤ n then .warm else .normal
        | .warm => if th.shutdown ≤ n then .hotOff else if n ≤ th.restore then .normal else .warm
        | .hotOff => if th.restore < n then .hotOff else match th.restart with
          | .auto => .normal
          | .manual => .cooledWait
        | .cooledWait => if th.shutdown ≤ n then .hotOff else .cooledWait
      let cap := fun (x : ThermalState) (f : Bool) => match x with
        | .normal => if f then th.derateCap else 1000
        | .warm => th.derateCap
        | .hotOff => 0
        | .cooledWait => 0
      let first := if r.pendingThermal.isSome then min r.applied (cap r.thermalState r.sensorFault) else r.applied
      (c.discard = true → exec (.sensorConversionCompletion code) s = .next t) ∧
      (c.discard = false → c.channel.val % 2 = 0 →
        exec (.sensorConversionCompletion code) s = .next (t.setPanel p { r with lastAmbient := n })) ∧
      (c.discard = false → c.channel.val % 2 = 1 →
        exec (.sensorConversionCompletion code) s = .next { t with
          panel := t.panel.setPanel p { r with
            thermal := th, pendingThermal := none, lastThermistor := n, sensorFault := bad, thermalState := st,
            applied := min (min first (cap r.thermalState bad)) (cap st bad) },
          port :=
            let q := if bad = r.sensorFault then s.port else s.port.raise .sensorFault
            if st = r.thermalState then q else q.raise .panelThermal }))

/-! ### Assets, scenes and styles -/

/-- ASSET_OPEN: its six checks in order, and what a taken one leaves. -/
def Obligations.AssetOpenedOrRefused : Prop :=
  ∀ (s : State) (go : BitVec 32) (f : OpenForm), s.nva.loading = false →
    (f.handle.toNat = 0 ∨ 256 ≤ f.handle.toNat → s.Refuses (.assetOpen go f) .badValue) ∧
    (∀ h : Handle, f.handle.toNat = h.val + 1 →
      let fields := 1 ≤ f.format.toNat ∧ f.format.toNat ≤ 3 ∧ 1 ≤ f.width.toNat ∧ f.width.toNat ≤ 4096 ∧
        1 ≤ f.height.toNat ∧ f.height.toNat ≤ 4096 ∧ f.stride.toNat % 8 = 0 ∧ f.stride.toNat ≤ 16384 ∧
        f.width.toNat * (if f.format.toNat = 1 then 4 else if f.format.toNat = 2 then 2 else 1) ≤ f.stride.toNat
      let size := f.stride.toNat * f.height.toNat
      let pages := (size + 65535) / 65536
      (¬ fields → s.Refuses (.assetOpen go f) .badValue) ∧
      (fields → 16777216 < size → s.Refuses (.assetOpen go f) .tooLarge) ∧
      (fields → size ≤ 16777216 → s.assets.entry h ≠ .empty → s.Refuses (.assetOpen go f) .handleInUse) ∧
      (fields → size ≤ 16777216 → s.assets.entry h = .empty → (∀ n : Fin 4, s.assets.windows[n] ≠ none) →
        s.Refuses (.assetOpen go f) .noWindow) ∧
      (∀ n : Fin 4, fields → size ≤ 16777216 → s.assets.entry h = .empty → s.assets.windows[n] = none →
        (∀ k : Fin 4, k.val < n.val → s.assets.windows[k] ≠ none) →
        (s.assets.freeCount < pages → s.Refuses (.assetOpen go f) .noSpace) ∧
        (pages ≤ s.assets.freeCount → AssetsSound s.assets →
          ∃ g m p, s.Completes (.assetOpen go f) (fun t => { t with assets := m }) .ok p ∧
            m.entry h = .loading g ((s.assets.takePages pages).map (fun x => { page := x, touched := false })) ∧
            g.format.code = f.format ∧ g.width = f.width.toNat ∧ g.height = f.height.toNat ∧ g.stride = f.stride.toNat ∧
            (s.assets.takePages pages).length = pages ∧ (∀ x ∈ s.assets.takePages pages, x ∉ s.assets.usedPages) ∧
            (∀ x ∈ s.assets.takePages pages, ∀ y, s.assets.inPool y = true → y < x →
              y ∈ s.assets.usedPages ∨ y ∈ s.assets.takePages pages) ∧
            (∀ k, k ≠ h → m.entry k = s.assets.entry k) ∧ m.windows = s.assets.windows.set n (some h) ∧
            m.memory = s.assets.memory ∧ m.loadFault = s.assets.loadFault ∧ m.large = s.assets.large ∧
            m.freeCount = s.assets.freeCount - pages ∧
            byteAt p 0 = n.val ∧ leAt p 4 4 = n.val * 16777216 ∧ leAt p 8 4 = size ∧ leAt p 12 2 = pages ∧
            leAt p 14 2 = m.freeCount)))

/-- ASSET_CLOSE, ASSET_ABORT and ASSET_FREE by the state of the entry. -/
def Obligations.AssetLifeByEntryState : Prop :=
  ∀ (s : State) (go : BitVec 32) (v : BitVec 16), s.nva.loading = false →
    (v.toNat = 0 ∨ 256 ≤ v.toNat → s.Refuses (.assetClose go v) .badValue ∧ s.Refuses (.assetAbort go v) .badValue ∧
      s.Refuses (.assetFree go v) .badValue) ∧
    (∀ h : Handle, v.toNat = h.val + 1 →
      let e := s.assets.entry h
      (e.isLoading = false → s.Refuses (.assetClose go v) .notLoading ∧ s.Refuses (.assetAbort go v) .notLoading) ∧
      (∀ g pages, e = .loading g pages →
        (∀ low, (∃ q, pages[low]? = some q ∧ q.touched = false) →
          (∀ k q, k < low → pages[k]? = some q → q.touched = true) →
          s.Completes (.assetClose go v) id .incomplete
            (leBytes 2 ((pages.filter (fun q => !q.touched)).length) ++ leBytes 2 low)) ∧
        ((∀ q ∈ pages, q.touched = true) →
          s.Completes (.assetClose go v)
            (fun t => { t with assets := (t.assets.unbind h).setEntry h (.ready g (pages.map (·.page)) 0) }) .ok []) ∧
        s.Completes (.assetAbort go v) (fun t => { t with assets := (t.assets.unbind h).setEntry h .empty }) .ok
          (leBytes 2 ((s.assets.unbind h).setEntry h .empty).freeCount) ∧
        s.Refuses (.assetFree go v) .notReady) ∧
      (e = .empty → s.Completes (.assetFree go v)
        (fun t => { t with assets := t.assets.setEntry h .empty }) .ok [0, 0, 0, 0]) ∧
      (∀ g pages, e = .ready g pages 0 → s.Completes (.assetFree go v)
        (fun t => { t with assets := t.assets.setEntry h .empty }) .ok [0, 0, 0, 0]) ∧
      (∀ g pages n, e = .ready g pages (n + 1) ∨ e = .retiring g pages (n + 1) → s.Completes (.assetFree go v)
        (fun t => { t with assets := t.assets.setEntry h (.retiring g pages (n + 1)) }) .ok
          ([3, 0] ++ leBytes 2 (n + 1))))

/-- ASSET_QUERY reports the map, or one entry, and changes nothing. -/
def Obligations.AssetQueryReports : Prop :=
  ∀ (s : State) (go : BitVec 32) (v : BitVec 16), s.nva.loading = false →
    (256 ≤ v.toNat → s.Refuses (.assetQuery go v) .badValue) ∧
    (v = 0 → ∃ p, s.Completes (.assetQuery go v) id .ok p ∧ p.length = 17 ∧
      leAt p 0 2 = s.assets.poolSize ∧ leAt p 2 2 = s.assets.freeCount ∧
      leAt p 4 2 + leAt p 6 2 + leAt p 8 2 + leAt p 10 2 = 255 ∧
      leAt p 4 2 = ((List.finRange 255).filter (fun h => decide (s.assets.entry h = .empty))).length ∧
      leAt p 6 2 = ((List.finRange 255).filter (fun h => (s.assets.entry h).isLoading)).length ∧
      leAt p 8 2 = ((List.finRange 255).filter (fun h => match s.assets.entry h with
        | .ready _ _ _ => true
        | _ => false)).length ∧
      leAt p 10 2 = ((List.finRange 255).filter (fun h => match s.assets.entry h with
        | .retiring _ _ _ => true
        | _ => false)).length ∧
      (∀ n : Fin 4, byteAt p (12 + n.val) = match s.assets.windows[n] with
        | some h => h.val + 1
        | none => 0) ∧
      byteAt p 16 = if s.assets.loadFault.isSome then 1 else 0) ∧
    (∀ h : Handle, v.toNat = h.val + 1 → ∃ p, s.Completes (.assetQuery go v) id .ok p ∧ p.length = 21 ∧
      (s.assets.entry h = .empty → (∀ k, k < 18 → byteAt p k = 0) ∧ leAt p 18 2 = 65535 ∧ byteAt p 20 = 255) ∧
      (∀ g pages, s.assets.entry h = .loading g pages → (s.assets.entry h).sound = true →
        byteAt p 0 = 1 ∧ byteAt p 1 = g.format.code.toNat ∧ leAt p 2 2 = g.width ∧ leAt p 4 2 = g.height ∧
        leAt p 6 2 = g.stride ∧ leAt p 8 4 = g.size ∧ leAt p 12 2 = pages.length ∧ leAt p 14 2 = 0 ∧
        leAt p 16 2 = (pages.filter (·.touched)).length ∧
        ((∀ q ∈ pages, q.touched = true) → leAt p 18 2 = 65535) ∧
        (∀ low q, pages[low]? = some q → q.touched = false →
          (∀ k r, k < low → pages[k]? = some r → r.touched = true) → leAt p 18 2 = low) ∧
        (∀ n : Fin 4, s.assets.windowOf h = some n → byteAt p 20 = n.val)) ∧
      (∀ g pages n, (s.assets.entry h = .ready g pages n ∨ s.assets.entry h = .retiring g pages n) →
        (s.assets.entry h).sound = true → n < 65536 →
        byteAt p 0 = (if s.assets.entry h = .ready g pages n then 2 else 3) ∧ byteAt p 1 = g.format.code.toNat ∧
        leAt p 2 2 = g.width ∧ leAt p 4 2 = g.height ∧ leAt p 6 2 = g.stride ∧ leAt p 8 4 = g.size ∧
        leAt p 12 2 = pages.length ∧ leAt p 14 2 = n ∧ leAt p 16 2 = 0 ∧ leAt p 18 2 = 65535 ∧ byteAt p 20 = 255))

/-- APERTURE_WRITE: dropped whole with its highest fault, or stored through the page list, its page filled with zeros first
when it is the first write there. -/
def Obligations.ApertureWriteStoredOrDropped : Prop :=
  ∀ (s : State) (n : Fin 4) (o : Nat) (data : List Byte), o < 16777216 →
    let i : Instr := .apertureWrite (BitVec.ofNat 26 (n.val * 16777216 + o)) data
    let aligned := o % 4 = 0 ∧ data.length % 4 = 0
    let faults := fun (kind : LoadFaultKind) => exec i s = .next { s with
      assets := { s.assets with loadFault := some (match s.assets.loadFault with
        | none => { kind := kind, window := n, offset := o, more := false }
        | some f => { f with more := true }) },
      port := s.port.raise .loadFault }
    (¬ aligned → faults .align) ∧
    (aligned → s.assets.windows[n] = none → faults .windowMiss) ∧
    (∀ h g pages, aligned → s.assets.windows[n] = some h → s.assets.entry h = .loading g pages → 0 < data.length →
      (g.size < o + data.length → faults .bounds) ∧
      (o + data.length ≤ g.size → o % 4096 + data.length ≤ 4096 → (s.assets.entry h).sound = true →
        ∃ q, pages[o / 65536]? = some q ∧ ∃ memory : List Host.Cell,
          exec i s = .next { s with assets := { (s.assets.setEntry h
            (.loading g (pages.set (o / 65536) { q with touched := true }))) with memory := memory } } ∧
          ∀ a, Memory.read memory a =
            if q.page * 65536 + o % 65536 ≤ a ∧ a < q.page * 65536 + o % 65536 + data.length then
              data.getD (a - (q.page * 65536 + o % 65536)) 0
            else if a / 65536 = q.page ∧ q.touched = false then 0
            else Memory.read s.assets.memory a))

/-- SCENE_BEGIN, SCENE_SUBMIT and SCENE_DISCARD: the panel's records and the releases of a discarded scene.
That a dim-given byte above 1 is BAD_VALUE is the model's reading (log entry 22). -/
def Obligations.SceneCommandsMoveScenes : Prop :=
  ∀ (s : State) (go : BitVec 32) (p : Fin 4), s.nva.loading = false →
    let v := s.scenes.panels[p]
    (∀ f : SceneForm, f.panel.toNat = p.val → f.dimGiven.toNat ≤ 1 →
      s.Completes (.sceneBegin go f) (fun t => ({ t with assets := t.assets.releaseScene v.building }).setScenes p { v with
        building := some { background := { red := f.red, green := f.green, blue := f.blue },
                           dim := if f.dimGiven = 1 then f.dim else 96, layers := [] } }) .ok []) ∧
    (∀ f : SceneForm, 4 ≤ f.panel.toNat ∨ 2 ≤ f.dimGiven.toNat → s.Refuses (.sceneBegin go f) .badValue) ∧
    (∀ sc, v.building = some sc → sc.layers.length ≤ 64 →
      s.Completes (.sceneSubmit go (byteOf p.val))
        (fun t => ({ t with assets := t.assets.releaseScene v.pending }).setScenes p
          { v with building := none, pending := some sc }) .ok [byteOf sc.layers.length, byteOf sc.priceCount] ∧
      s.Completes (.sceneDiscard go (byteOf p.val))
        (fun t => ({ t with assets := t.assets.releaseScene v.building }).setScenes p { v with building := none }) .ok []) ∧
    (v.building = none → s.Refuses (.sceneSubmit go (byteOf p.val)) .noScene ∧
      s.Refuses (.sceneDiscard go (byteOf p.val)) .noScene) ∧
    (∀ a : Byte, 4 ≤ a.toNat → s.Refuses (.sceneSubmit go a) .badValue ∧ s.Refuses (.sceneDiscard go a) .badValue)

/-- LAYER_ADD: its eight checks in order, and what a taken one appends. -/
def Obligations.LayerAddedAfterEightChecks : Prop :=
  ∀ (s : State) (go : BitVec 32) (f : LayerForm), s.nva.loading = false →
    let common := f.x.toNat ≤ 4095 ∧ f.y.toNat ≤ 4095 ∧ 1 ≤ f.w.toNat ∧ f.w.toNat ≤ 4096 ∧ 1 ≤ f.h.toNat ∧
      f.h.toNat ≤ 4096 ∧ 1 ≤ f.mask.toNat ∧ f.mask.toNat ≤ 15 ∧ f.soldOut.toNat ≤ 3 ∧ f.code.toNat ≤ 65534 ∧
      (f.code = 0 → f.soldOut = 0)
    let photo := f.kind = 1 ∧ 1 ≤ f.handle.toNat ∧ f.handle.toNat ≤ 255
    let price := f.kind = 2 ∧ f.code ≠ 0 ∧ f.style.toNat ≤ 15
    let fill := f.kind = 3
    let valid := common ∧ (photo ∨ price ∨ fill)
    (4 ≤ f.panel.toNat ∨ ¬ valid → s.Refuses (.layerAdd go f) .badValue) ∧
    (∀ p : Fin 4, f.panel.toNat = p.val → valid → s.scenes.panels[p].building = none →
      s.Refuses (.layerAdd go f) .noScene) ∧
    (∀ (p : Fin 4) (sc : Scene), f.panel.toNat = p.val → valid → s.scenes.panels[p].building = some sc →
      (∀ h : Handle, photo → f.handle.toNat = h.val + 1 → (∀ g pages n, s.assets.entry h ≠ .ready g pages n) →
        s.Refuses (.layerAdd go f) .notReady) ∧
      (∀ (h : Handle) g pages n, photo → f.handle.toNat = h.val + 1 → s.assets.entry h = .ready g pages n →
        g.format = .a8 ∨ g.width < f.w.toNat ∨ g.height < f.h.toNat → s.Refuses (.layerAdd go f) .badValue) ∧
      ((∀ h : Handle, photo → f.handle.toNat = h.val + 1 → ∃ g pages n, s.assets.entry h = .ready g pages n ∧
          g.format ≠ .a8 ∧ f.w.toNat ≤ g.width ∧ f.h.toNat ≤ g.height) →
        (64 ≤ sc.layers.length → s.Refuses (.layerAdd go f) .sceneFull) ∧
        (sc.layers.length < 64 → price → 32 ≤ sc.priceCount → s.Refuses (.layerAdd go f) .priceLayersFull) ∧
        (sc.layers.length < 64 → (price → sc.priceCount < 32) →
          ∃ l : Layer, (l.x = f.x.toNat ∧ l.y = f.y.toNat ∧ l.w = f.w.toNat ∧ l.h = f.h.toNat ∧ l.alpha = f.alpha ∧
              l.mask.toNat = f.mask.toNat ∧ soldOutOf f.soldOut.toNat = some l.soldOut ∧
              l.code = if f.code = 0 then none else some f.code.toNat) ∧
            (fill → l.content = .fill { red := f.red, green := f.green, blue := f.blue }) ∧
            (price → ∃ k : Fin 16, k.val = f.style.toNat ∧ l.content = .price k) ∧
            (photo → ∃ h : Handle, f.handle.toNat = h.val + 1 ∧ l.content = .photo h) ∧
            s.Completes (.layerAdd go f)
              (fun t => ({ t with assets := match l.content with
                  | .photo h => t.assets.acquire h
                  | .price _ => t.assets
                  | .fill _ => t.assets }).setScenes p
                { s.scenes.panels[p] with building := some { sc with layers := sc.layers ++ [l] } }) .ok
              [byteOf sc.layers.length, byteOf (sc.layers.length + 1),
                byteOf (sc.priceCount + if f.kind = 2 then 1 else 0)])))

/-- STYLE_SET: its checks in order; a taken one writes the pending copy and moves the font references. -/
def Obligations.StyleSetWritesPendingCopy : Prop :=
  ∀ (s : State) (go : BitVec 32) (f : StyleForm), s.nva.loading = false →
    let valid := 4 ≤ f.cw.toNat ∧ f.cw.toNat ≤ 128 ∧ 8 ≤ f.ch.toNat ∧ f.ch.toNat ≤ 256 ∧ f.symbol.toNat ≤ 2 ∧
      f.mark.toNat ≤ 1 ∧ f.grouping.toNat ≤ 2 ∧ f.minor.toNat ≤ 1 ∧ f.alignment.toNat ≤ 2 ∧
      ¬ (f.grouping = 1 ∧ f.mark = 1) ∧ ¬ (f.grouping = 2 ∧ f.mark = 0)
    (16 ≤ f.index.toNat ∨ ¬ valid → s.Refuses (.styleSet go f) .badValue) ∧
    (∀ i : Fin 16, f.index.toNat = i.val → valid →
      (∀ h : Handle, f.font.toNat = h.val + 1 → (∀ g pages n, s.assets.entry h ≠ .ready g pages n) →
        s.Refuses (.styleSet go f) .notReady) ∧
      (∀ (h : Handle) g pages n, f.font.toNat = h.val + 1 → s.assets.entry h = .ready g pages n →
        ¬ (g.format = .a8 ∧ g.width = 14 * f.cw.toNat ∧ g.height = f.ch.toNat) → s.Refuses (.styleSet go f) .badValue) ∧
      ((∀ h : Handle, f.font.toNat = h.val + 1 → ∃ g pages n, s.assets.entry h = .ready g pages n ∧
          g.format = .a8 ∧ g.width = 14 * f.cw.toNat ∧ g.height = f.ch.toNat) →
        ∃ st : Style, (st.cw = f.cw.toNat ∧ st.ch = f.ch.toNat ∧ st.alpha = f.alpha ∧
            st.colour = { red := f.red, green := f.green, blue := f.blue } ∧
            (st.font.map (fun h => h.val + 1)).getD 0 = f.font.toNat ∧ symbolOf f.symbol.toNat = some st.symbol ∧
            markOf f.mark.toNat = some st.mark ∧ groupingOf f.grouping.toNat = some st.grouping ∧
            minorOf f.minor.toNat = some st.minor ∧ alignmentOf f.alignment.toNat = some st.alignment) ∧
          s.Completes (.styleSet go f) (fun t => { t with
            former := { t.former with styles := t.former.styles.set i { t.former.styles[i] with pending := some st } },
            assets := (t.assets.acquireFont st.font).releaseFont (s.former.styles[i].pending.bind (·.font)) }) .ok []))

/-! ### The content port -/

/-- A read of the load aperture returns zeros and changes nothing but what was read.
SUMMARY_WORD_READ and LOAD_FAULT_RECORD_READ: what they return and what they clear; a read of the wrong size returns
zeros and clears nothing.
R166 to R168, R171: what every aligned read of 4 or 8 bytes of the control area returns, byte by byte, and which words it
clears. What a read returned is seen in the model's own field `readData` (log entry 8); that bits the tables do not name,
and both words of an empty load-fault record, read 0 is the model's choice (log entries 39 and 40). -/
def Obligations.WindowReadsReturnAndClear : Prop :=
  (∀ (s : State) (o : BitVec 27) (n : Nat), o.toNat < 0x4000000 →
      exec (.summaryWordRead o n) s = .next { s with port := { s.port with readData := List.replicate n 0 } } ∧
      exec (.loadFaultRecordRead o n) s = .next { s with port := { s.port with readData := List.replicate n 0 } }) ∧
  (∀ s : State,
      (exec (.summaryWordRead 0x4000014 4) s = .next { s with
        port := { s.port with summary := 0, armed := true, readData := leBytes 4 s.port.summary.toNat } }) ∧
      (∃ bytes, exec (.loadFaultRecordRead 0x4000018 8) s = .next { s with
          port := { s.port with readData := bytes }, assets := { s.assets with loadFault := none } } ∧
        bytes.length = 8 ∧ (s.assets.loadFault = none → bytes = List.replicate 8 0) ∧
        ∀ f, s.assets.loadFault = some f → f.offset < 16777216 →
          leAt bytes 4 4 = f.offset ∧ byteAt bytes 2 = f.window.val ∧ byteAt bytes 0 = (if f.more then 3 else 1) ∧
          byteAt bytes 1 = (match f.kind with
            | .align => 1
            | .windowMiss => 2
            | .bounds => 3)) ∧
      (exec (.loadFaultRecordRead 0x400001C 4) s = .next { s with port := { s.port with
        readData := leBytes 4 ((s.assets.loadFault.map (·.offset)).getD 0) } }) ∧
      (∀ (o : BitVec 27) (n : Nat), 0x4000000 ≤ o.toNat → (n ≠ 4 ∧ n ≠ 8) ∨ o.toNat % n ≠ 0 →
        exec (.summaryWordRead o n) s = .next { s with port := { s.port with readData := List.replicate n 0 } } ∧
        exec (.loadFaultRecordRead o n) s = .next { s with port := { s.port with readData := List.replicate n 0 } })) ∧
  (∀ (s : State) (o : BitVec 27) (n : Nat), 0x4000000 ≤ o.toNat → n = 4 ∨ n = 8 → o.toNat % n = 0 → ∃ bytes : List Byte,
    let t := { s with
      port := { s.port with
        readData := bytes,
        summary := if o.toNat ≤ 0x4000014 ∧ 0x4000014 < o.toNat + n then 0 else s.port.summary,
        armed := if o.toNat ≤ 0x4000014 ∧ 0x4000014 < o.toNat + n then true else s.port.armed },
      assets := { s.assets with
        loadFault := if o.toNat ≤ 0x4000018 ∧ 0x4000018 < o.toNat + n then none else s.assets.loadFault } }
    exec (.summaryWordRead o n) s = .next t ∧ exec (.loadFaultRecordRead o n) s = .next t ∧ bytes.length = n ∧
    ∀ j, j < n →
      let a := o.toNat - 0x4000000 + j
      let is := fun (v : Nat) => byteAt bytes j = v
      let word := fun (w v : Nat) => w ≤ a → a < w + 4 → byteAt bytes j = v / 256 ^ (a - w) % 256
      word 0x00 0x50510004 ∧ (a = 0x04 → is Config.revision.toNat) ∧ (a = 0x05 → is (if s.assets.large then 1 else 0)) ∧
      (a = 0x06 → is (s.link.unit % 256)) ∧ (a = 0x07 → is 0) ∧ word 0x08 (if s.assets.large then 15360 else 7168) ∧ word 0x0C 0 ∧
      word 0x10 s.port.goTag.toNat ∧ word 0x14 s.port.summary.toNat ∧
      (s.assets.loadFault = none → word 0x18 0 ∧ word 0x1C 0) ∧
      (∀ f, s.assets.loadFault = some f → word 0x1C f.offset ∧
        word 0x18 ((if f.more then 3 else 1) + 65536 * f.window.val + 256 * (match f.kind with
          | .align => 1
          | .windowMiss => 2
          | .bounds => 3))) ∧
      (∀ k : Fin 64, a = 0x20 + k.val → is s.port.record[k].toNat) ∧ (0x60 ≤ a → a < 0x80 → is 0) ∧
      (a = 0x80 → is s.port.status.code.toNat) ∧ (a = 0x81 → is s.port.status.status.toNat) ∧
      (a = 0x82 → is (s.port.status.tag.toNat % 256)) ∧ (a = 0x83 → is (s.port.status.tag.toNat / 256)) ∧
      (0x84 ≤ a → is (byteAt s.port.status.answer (a - 0x84))))

/-- Every content command is the go-word write over its record: LOADING during the load, no effect when refused. An aligned
write of eight bytes there is the write of its first four, which is the model's reading (log entry 32).
That a row writes its record fields first is the model's reading (log entry 15). -/
def Obligations.GoWordTakesCommand : Prop :=
  ∀ (s : State) (i : Instr) (r : CommandRow), commandRow i = some r →
    exec (.registerWrite 0x4000010 (leBytes 4 r.go.toNat)) (s.writeRecord ((0, [r.code]) :: r.fields)) = exec i s ∧
    (∀ high : List Byte, high.length = 4 → exec (.registerWrite 0x4000010 (leBytes 4 r.go.toNat ++ high))
      (s.writeRecord ((0, [r.code]) :: r.fields)) = exec i s) ∧
    (∀ low high : List Byte, low.length = 4 → high.length = 4 →
      exec (.registerWrite 0x4000010 (low ++ high)) s = exec (.registerWrite 0x4000010 low) s) ∧
    (s.nva.loading = true → i ≠ .statusQuery r.go → s.Refuses i .loading) ∧
    (∃ t st p, exec i s = .next (t.completed r.code r.go st p) ∧ (st ≠ .ok → t = s.taken r) ∧
      (t.completed r.code r.go st p).port.goTag = r.go.setWidth 16 ∧
      (t.completed r.code r.go st p).port.status =
        { code := r.code, status := st.byte, tag := r.go.setWidth 16, answer := p } ∧
      (t.completed r.code r.go st p).contentFlag .cmdDone = true)

/-- REGISTER_WRITE stores in the command record or is ignored; UNKNOWN_COMMAND gets BAD_COMMAND; MESSAGE_ENABLE sends
nothing by itself.
A flag event sets its flag; it sends one message and disarms only while armed and enabled.
That an unknown code meets LOADING first is the model's reading (log entry 15). -/
def Obligations.PortWritesAndFlagEvents : Prop :=
  (∀ s : State,
      (∀ (o : BitVec 27) (data : List Byte), data.length = 4 ∨ data.length = 8 → o.toNat % data.length = 0 →
        (0x4000020 ≤ o.toNat → o.toNat < 0x4000060 → ∃ r, exec (.registerWrite o data) s = .next { s with
            port := { s.port with record := r } } ∧
          ∀ k : Fin 64, r[k] = if o.toNat - 0x4000020 ≤ k.val ∧ k.val < o.toNat - 0x4000020 + data.length
            then data.getD (k.val - (o.toNat - 0x4000020)) 0 else s.port.record[k]) ∧
        (0x4000000 ≤ o.toNat → o.toNat ≠ 0x4000010 → o.toNat < 0x4000020 ∨ 0x4000060 ≤ o.toNat →
          exec (.registerWrite o data) s = .next s)) ∧
      (∀ (o : BitVec 27) (data : List Byte), 0x4000000 ≤ o.toNat →
        (data.length ≠ 4 ∧ data.length ≠ 8) ∨ o.toNat % data.length ≠ 0 → exec (.registerWrite o data) s = .next s) ∧
      (∀ (go : BitVec 32) (code : Byte), code.toNat ∉ commandCodes →
        exec (.unknownCommand go code) s = .next (((s.writeRecord [(0, [code])]).tagged go).completed code go
          (if s.nva.loading then .loading else .badCommand) [])) ∧
      (∀ on, exec (.messageEnable on) s = .next { s with port := { s.port with messageEnabled := on } })) ∧
  (∀ (p : ContentPort) (f : ContentFlag),
      (p.raise f).summary = p.summary ||| (1#32 <<< f.bit) ∧
      (p.armed = true → p.messageEnabled = true →
        (p.raise f).messages = p.messages + 1 ∧ (p.raise f).armed = false) ∧
      (p.armed = false ∨ p.messageEnabled = false →
        (p.raise f).messages = p.messages ∧ (p.raise f).armed = p.armed) ∧
      (p.raise f).messageEnabled = p.messageEnabled ∧ (p.raise f).record = p.record ∧ (p.raise f).status = p.status ∧
      (p.raise f).goTag = p.goTag)

/-- STATUS_QUERY reports every block's state at its place (Table 12-7) and changes nothing but the port. -/
def Obligations.StatusQueryReports : Prop :=
  ∀ (s : State) (go : BitVec 32), s.engine.late < 65536 → s.checker.suspended.length ≤ 512 →
    s.engine.shown.length ≤ 128 → (∀ p : Fin 4, s.panel.panels[p].lastAmbient < 1024 ∧
      s.panel.panels[p].lastThermistor < 1024 ∧ s.panel.panels[p].thermal.derateCap ≤ 1000 ∧
      s.panel.panels[p].target ≤ 1000 ∧ s.panel.panels[p].applied ≤ 1000) →
    (∀ (p : Fin 4) (sc : Scene), s.scenes.panels[p].building = some sc ∨ s.scenes.panels[p].pending = some sc ∨
      s.scenes.panels[p].active = some sc → sc.layers.length ≤ 64) →
    ∃ r, s.Completes (.statusQuery go) id .ok r ∧
      byteAt r 0 = (if s.nva.loading then 0 else 1) ∧
      byteAt r 1 = (match s.stager.commit with
        | none => 0
        | some c => match c.state with
          | .checking => 1
          | .held _ => 2
          | .pending => 3) ∧
      leAt r 2 2 = s.stager.commitNumber.toNat ∧ byteAt r 4 = s.daypart.live.val ∧
      byteAt r 5 = (match s.engine.rate with
        | .hz50 => 50
        | .hz60 => 60) ∧
      byteAt r 6 = (match s.engine.job with
        | .idle => 0
        | .compose _ => 1
        | .check _ _ => 2
        | .patch _ => 3) ∧
      byteAt r 7 = s.engine.shown.length ∧ leAt r 8 2 = s.engine.late ∧ leAt r 10 2 = s.checker.suspended.length ∧
      byteAt r 12 = (if s.checker.latch then 1 else 0) ∧ byteAt r 13 = (if s.checker.armed then 1 else 0) ∧
      byteAt r 14 = (match s.checker.lastResult with
        | .none => 0
        | .pass => 1
        | .fail => 2) ∧
      byteAt r 15 % 8 = s.panel.scanPosition.val ∧ (byteAt r 15).testBit 7 = s.panel.conversion.isSome ∧
      ∀ p : Fin 4,
        let b := 28 + 32 * p.val
        let q := s.panel.panels[p]
        let v := s.scenes.panels[p]
        let count := fun (o : Option Scene) => (o.map (fun sc => sc.layers.length)).getD 0
        let prices := fun (o : Option Scene) => (o.map Scene.priceCount).getD 0
        byteAt r b = (if q.installed.enable then 1 else 0) ∧ byteAt r (b + 1) = q.installed.resolution.code.toNat ∧
        (q.pendingSettings = none → byteAt r (b + 2) = 0 ∧ byteAt r (b + 3) = 0 ∧ byteAt r (b + 4) = 0) ∧
        (∀ n, q.pendingSettings = some n → byteAt r (b + 2) = 1 ∧ byteAt r (b + 3) = (if n.enable then 1 else 0) ∧
          byteAt r (b + 4) = n.resolution.code.toNat) ∧
        (byteAt r (b + 5)).testBit 0 = q.pendingCurve.isSome ∧ (byteAt r (b + 5)).testBit 1 = q.pendingThermal.isSome ∧
        byteAt r (b + 6) = (match q.thermalState with
          | .normal => 0
          | .warm => 1
          | .hotOff => 2
          | .cooledWait => 3) ∧
        byteAt r (b + 7) = (if q.sensorFault then 1 else 0) ∧
        byteAt r (b + 8) = (match q.thermal.restart with
          | .auto => 0
          | .manual => 1) ∧
        leAt r (b + 10) 2 = q.thermal.derateCap ∧ leAt r (b + 12) 2 = q.target ∧ leAt r (b + 14) 2 = q.applied ∧
        leAt r (b + 16) 2 = q.lastAmbient ∧ leAt r (b + 18) 2 = q.lastThermistor ∧
        byteAt r (b + 20) = 2 * p.val + (if s.engine.outputs[p].frontOdd then 1 else 0) ∧
        byteAt r (b + 21) = (if s.engine.outputs[p].showing then 1 else 0) ∧
        (byteAt r (b + 22)).testBit 0 = v.building.isSome ∧ (byteAt r (b + 22)).testBit 1 = v.pending.isSome ∧
        (byteAt r (b + 22)).testBit 2 = v.active.isSome ∧
        byteAt r (b + 23) = count v.building ∧ byteAt r (b + 24) = prices v.building ∧
        byteAt r (b + 25) = count v.pending ∧ byteAt r (b + 26) = prices v.pending ∧
        byteAt r (b + 27) = count v.active ∧ byteAt r (b + 28) = prices v.active

/-! ### What every step keeps -/

/-- No step puts an invalid record in the table, the staging list, the commit record or the schedule, or leaves an
availability or suspension entry without its item. -/
def Obligations.StepKeepsRecordsAndSets : Prop :=
  ∀ s t : State, RecordsSound s → SetsSound s → step s = .next t → RecordsSound t ∧ SetsSound t

/-- The write queue, the repair list and the slot states agree, whatever the step; the slot of a repair read in flight is CLEAN
or DIRTY (`readState`). That the latter holds rests on the model's reading that an outstanding repair absorbs a request before
its slot's state is looked at (log entry 19). -/
def Obligations.StepKeepsArrayBookkeeping : Prop :=
  ∀ s t : State, NvaSound s.nva → step s = .next t → NvaSound t.nva

/-- Pages, windows, entries and reference counts of the asset map agree with the scenes and styles, and asset memory keeps
its canonical form. -/
def Obligations.StepKeepsAssetsAndReferences : Prop :=
  ∀ s t : State, AssetsSound s.assets → RefsSound s → Memory.wf s.assets.memory = true → step s = .next t →
    AssetsSound t.assets ∧ RefsSound t ∧ Memory.wf t.assets.memory = true

/-- No duty passes its cap, no disabled panel has one, and curves and thermal settings stay in range.
The unit address stays legal, a frame in assembly stays short of whole, and the part does not send while it
assembles. That no answer is held then rests on the model's reading of a COMMIT answer that becomes ready (log entry 10). -/
def Obligations.StepKeepsPanelsAndLink : Prop :=
  ∀ s t : State, step s = .next t →
    ((∀ p : Fin 4, PanelSound s.panel.panels[p]) → ∀ p : Fin 4, PanelSound t.panel.panels[p]) ∧
    (LinkSound s.link → LinkSound t.link)

/-- No step lets digits stand in a rejected record, or in any record once the check-path-fail latch is set. -/
def Obligations.StepKeepsRejectedDigitsOffGlass : Prop :=
  ∀ s t : State, GlassSound s → step s = .next t → GlassSound t

/-- The part right after reset is sound in every block.
The straps and the array's first contents are the model's choice (log entries 2 and 3), and so is what the rules, the
promotions, the schedule and the slot states hold before the load completes (log entry 21). -/
def Obligations.ResetIsSound : Prop :=
  RecordsSound State.reset ∧ SetsSound State.reset ∧ NvaSound State.reset.nva ∧ AssetsSound State.reset.assets ∧
    RefsSound State.reset ∧ Memory.wf State.reset.assets.memory = true ∧
    (∀ p : Fin 4, PanelSound State.reset.panel.panels[p]) ∧ GlassSound State.reset ∧ LinkSound State.reset.link
end

