-- ==== Sys2Proof/Laws/State.lean ====
section
/-! SUPPORT. One lemma per field for each update of the state that always changes the same fields. -/

namespace Sys2Proof.Machine

@[simp] theorem State.raisePos_table (s : State) (f : PosFlag) : (s.raisePos f).table = s.table := rfl
@[simp] theorem State.raisePos_stager (s : State) (f : PosFlag) : (s.raisePos f).stager = s.stager := rfl
@[simp] theorem State.raisePos_daypart (s : State) (f : PosFlag) : (s.raisePos f).daypart = s.daypart := rfl
@[simp] theorem State.raisePos_nva (s : State) (f : PosFlag) : (s.raisePos f).nva = s.nva := rfl
@[simp] theorem State.raisePos_former (s : State) (f : PosFlag) : (s.raisePos f).former = s.former := rfl
@[simp] theorem State.raisePos_assets (s : State) (f : PosFlag) : (s.raisePos f).assets = s.assets := rfl
@[simp] theorem State.raisePos_scenes (s : State) (f : PosFlag) : (s.raisePos f).scenes = s.scenes := rfl
@[simp] theorem State.raisePos_engine (s : State) (f : PosFlag) : (s.raisePos f).engine = s.engine := rfl
@[simp] theorem State.raisePos_checker (s : State) (f : PosFlag) : (s.raisePos f).checker = s.checker := rfl
@[simp] theorem State.raisePos_panel (s : State) (f : PosFlag) : (s.raisePos f).panel = s.panel := rfl
@[simp] theorem State.raisePos_link (s : State) (f : PosFlag) : (s.raisePos f).link = { s.link with summary := s.link.summary ||| BitVec.twoPow 8 f.bit } := rfl
@[simp] theorem State.raisePos_port (s : State) (f : PosFlag) : (s.raisePos f).port = s.port := rfl
@[simp] theorem State.raisePos_draws (s : State) (f : PosFlag) : (s.raisePos f).draws = s.draws := rfl
@[simp] theorem State.raisePos_pending (s : State) (f : PosFlag) : (s.raisePos f).pending = s.pending := rfl

@[simp] theorem State.raiseContent_table (s : State) (f : ContentFlag) : (s.raiseContent f).table = s.table := rfl
@[simp] theorem State.raiseContent_stager (s : State) (f : ContentFlag) : (s.raiseContent f).stager = s.stager := rfl
@[simp] theorem State.raiseContent_daypart (s : State) (f : ContentFlag) : (s.raiseContent f).daypart = s.daypart := rfl
@[simp] theorem State.raiseContent_nva (s : State) (f : ContentFlag) : (s.raiseContent f).nva = s.nva := rfl
@[simp] theorem State.raiseContent_former (s : State) (f : ContentFlag) : (s.raiseContent f).former = s.former := rfl
@[simp] theorem State.raiseContent_assets (s : State) (f : ContentFlag) : (s.raiseContent f).assets = s.assets := rfl
@[simp] theorem State.raiseContent_scenes (s : State) (f : ContentFlag) : (s.raiseContent f).scenes = s.scenes := rfl
@[simp] theorem State.raiseContent_engine (s : State) (f : ContentFlag) : (s.raiseContent f).engine = s.engine := rfl
@[simp] theorem State.raiseContent_checker (s : State) (f : ContentFlag) : (s.raiseContent f).checker = s.checker := rfl
@[simp] theorem State.raiseContent_panel (s : State) (f : ContentFlag) : (s.raiseContent f).panel = s.panel := rfl
@[simp] theorem State.raiseContent_link (s : State) (f : ContentFlag) : (s.raiseContent f).link = s.link := rfl
@[simp] theorem State.raiseContent_port (s : State) (f : ContentFlag) : (s.raiseContent f).port = s.port.raise f := rfl
@[simp] theorem State.raiseContent_draws (s : State) (f : ContentFlag) : (s.raiseContent f).draws = s.draws := rfl
@[simp] theorem State.raiseContent_pending (s : State) (f : ContentFlag) : (s.raiseContent f).pending = s.pending := rfl

@[simp] theorem State.raiseBoth_table (s : State) (p : PosFlag) (c : ContentFlag) : (s.raiseBoth p c).table = s.table := rfl
@[simp] theorem State.raiseBoth_stager (s : State) (p : PosFlag) (c : ContentFlag) : (s.raiseBoth p c).stager = s.stager := rfl
@[simp] theorem State.raiseBoth_daypart (s : State) (p : PosFlag) (c : ContentFlag) : (s.raiseBoth p c).daypart = s.daypart := rfl
@[simp] theorem State.raiseBoth_nva (s : State) (p : PosFlag) (c : ContentFlag) : (s.raiseBoth p c).nva = s.nva := rfl
@[simp] theorem State.raiseBoth_former (s : State) (p : PosFlag) (c : ContentFlag) : (s.raiseBoth p c).former = s.former := rfl
@[simp] theorem State.raiseBoth_assets (s : State) (p : PosFlag) (c : ContentFlag) : (s.raiseBoth p c).assets = s.assets := rfl
@[simp] theorem State.raiseBoth_scenes (s : State) (p : PosFlag) (c : ContentFlag) : (s.raiseBoth p c).scenes = s.scenes := rfl
@[simp] theorem State.raiseBoth_engine (s : State) (p : PosFlag) (c : ContentFlag) : (s.raiseBoth p c).engine = s.engine := rfl
@[simp] theorem State.raiseBoth_checker (s : State) (p : PosFlag) (c : ContentFlag) : (s.raiseBoth p c).checker = s.checker := rfl
@[simp] theorem State.raiseBoth_panel (s : State) (p : PosFlag) (c : ContentFlag) : (s.raiseBoth p c).panel = s.panel := rfl
@[simp] theorem State.raiseBoth_link (s : State) (p : PosFlag) (c : ContentFlag) : (s.raiseBoth p c).link = { s.link with summary := s.link.summary ||| BitVec.twoPow 8 p.bit } := rfl
@[simp] theorem State.raiseBoth_port (s : State) (p : PosFlag) (c : ContentFlag) : (s.raiseBoth p c).port = s.port.raise c := rfl
@[simp] theorem State.raiseBoth_draws (s : State) (p : PosFlag) (c : ContentFlag) : (s.raiseBoth p c).draws = s.draws := rfl
@[simp] theorem State.raiseBoth_pending (s : State) (p : PosFlag) (c : ContentFlag) : (s.raiseBoth p c).pending = s.pending := rfl

@[simp] theorem State.setJob_table (s : State) (j : Job) : (s.setJob j).table = s.table := rfl
@[simp] theorem State.setJob_stager (s : State) (j : Job) : (s.setJob j).stager = s.stager := rfl
@[simp] theorem State.setJob_daypart (s : State) (j : Job) : (s.setJob j).daypart = s.daypart := rfl
@[simp] theorem State.setJob_nva (s : State) (j : Job) : (s.setJob j).nva = s.nva := rfl
@[simp] theorem State.setJob_former (s : State) (j : Job) : (s.setJob j).former = s.former := rfl
@[simp] theorem State.setJob_assets (s : State) (j : Job) : (s.setJob j).assets = s.assets := rfl
@[simp] theorem State.setJob_scenes (s : State) (j : Job) : (s.setJob j).scenes = s.scenes := rfl
@[simp] theorem State.setJob_engine (s : State) (j : Job) : (s.setJob j).engine = { s.engine with job := j } := rfl
@[simp] theorem State.setJob_checker (s : State) (j : Job) : (s.setJob j).checker = s.checker := rfl
@[simp] theorem State.setJob_panel (s : State) (j : Job) : (s.setJob j).panel = s.panel := rfl
@[simp] theorem State.setJob_link (s : State) (j : Job) : (s.setJob j).link = s.link := rfl
@[simp] theorem State.setJob_port (s : State) (j : Job) : (s.setJob j).port = s.port := rfl
@[simp] theorem State.setJob_draws (s : State) (j : Job) : (s.setJob j).draws = s.draws := rfl
@[simp] theorem State.setJob_pending (s : State) (j : Job) : (s.setJob j).pending = s.pending := rfl

@[simp] theorem State.setReceiver_table (s : State) (r : Receiver) : (s.setReceiver r).table = s.table := rfl
@[simp] theorem State.setReceiver_stager (s : State) (r : Receiver) : (s.setReceiver r).stager = s.stager := rfl
@[simp] theorem State.setReceiver_daypart (s : State) (r : Receiver) : (s.setReceiver r).daypart = s.daypart := rfl
@[simp] theorem State.setReceiver_nva (s : State) (r : Receiver) : (s.setReceiver r).nva = s.nva := rfl
@[simp] theorem State.setReceiver_former (s : State) (r : Receiver) : (s.setReceiver r).former = s.former := rfl
@[simp] theorem State.setReceiver_assets (s : State) (r : Receiver) : (s.setReceiver r).assets = s.assets := rfl
@[simp] theorem State.setReceiver_scenes (s : State) (r : Receiver) : (s.setReceiver r).scenes = s.scenes := rfl
@[simp] theorem State.setReceiver_engine (s : State) (r : Receiver) : (s.setReceiver r).engine = s.engine := rfl
@[simp] theorem State.setReceiver_checker (s : State) (r : Receiver) : (s.setReceiver r).checker = s.checker := rfl
@[simp] theorem State.setReceiver_panel (s : State) (r : Receiver) : (s.setReceiver r).panel = s.panel := rfl
@[simp] theorem State.setReceiver_link (s : State) (r : Receiver) : (s.setReceiver r).link = { s.link with receiver := r } := rfl
@[simp] theorem State.setReceiver_port (s : State) (r : Receiver) : (s.setReceiver r).port = s.port := rfl
@[simp] theorem State.setReceiver_draws (s : State) (r : Receiver) : (s.setReceiver r).draws = s.draws := rfl
@[simp] theorem State.setReceiver_pending (s : State) (r : Receiver) : (s.setReceiver r).pending = s.pending := rfl

@[simp] theorem State.holdAnswer_table (s : State) (k : Byte) (p : List Byte) : (s.holdAnswer k p).table = s.table := rfl
@[simp] theorem State.holdAnswer_stager (s : State) (k : Byte) (p : List Byte) : (s.holdAnswer k p).stager = s.stager := rfl
@[simp] theorem State.holdAnswer_daypart (s : State) (k : Byte) (p : List Byte) : (s.holdAnswer k p).daypart = s.daypart := rfl
@[simp] theorem State.holdAnswer_nva (s : State) (k : Byte) (p : List Byte) : (s.holdAnswer k p).nva = s.nva := rfl
@[simp] theorem State.holdAnswer_former (s : State) (k : Byte) (p : List Byte) : (s.holdAnswer k p).former = s.former := rfl
@[simp] theorem State.holdAnswer_assets (s : State) (k : Byte) (p : List Byte) : (s.holdAnswer k p).assets = s.assets := rfl
@[simp] theorem State.holdAnswer_scenes (s : State) (k : Byte) (p : List Byte) : (s.holdAnswer k p).scenes = s.scenes := rfl
@[simp] theorem State.holdAnswer_engine (s : State) (k : Byte) (p : List Byte) : (s.holdAnswer k p).engine = s.engine := rfl
@[simp] theorem State.holdAnswer_checker (s : State) (k : Byte) (p : List Byte) : (s.holdAnswer k p).checker = s.checker := rfl
@[simp] theorem State.holdAnswer_panel (s : State) (k : Byte) (p : List Byte) : (s.holdAnswer k p).panel = s.panel := rfl
@[simp] theorem State.holdAnswer_link (s : State) (k : Byte) (p : List Byte) : (s.holdAnswer k p).link = { s.link with answer := some { kind := k + 0x80, payload := p, sending := false } } := rfl
@[simp] theorem State.holdAnswer_port (s : State) (k : Byte) (p : List Byte) : (s.holdAnswer k p).port = s.port := rfl
@[simp] theorem State.holdAnswer_draws (s : State) (k : Byte) (p : List Byte) : (s.holdAnswer k p).draws = s.draws := rfl
@[simp] theorem State.holdAnswer_pending (s : State) (k : Byte) (p : List Byte) : (s.holdAnswer k p).pending = s.pending := rfl

@[simp] theorem State.putItem_table (s : State) (i : ItemIndex) (it : Item) : (s.putItem i it).table = s.table.putItem i it := rfl
@[simp] theorem State.putItem_stager (s : State) (i : ItemIndex) (it : Item) : (s.putItem i it).stager = s.stager := rfl
@[simp] theorem State.putItem_daypart (s : State) (i : ItemIndex) (it : Item) : (s.putItem i it).daypart = s.daypart := rfl
@[simp] theorem State.putItem_nva (s : State) (i : ItemIndex) (it : Item) : (s.putItem i it).nva = s.nva := rfl
@[simp] theorem State.putItem_former (s : State) (i : ItemIndex) (it : Item) : (s.putItem i it).former = s.former := rfl
@[simp] theorem State.putItem_assets (s : State) (i : ItemIndex) (it : Item) : (s.putItem i it).assets = s.assets := rfl
@[simp] theorem State.putItem_scenes (s : State) (i : ItemIndex) (it : Item) : (s.putItem i it).scenes = s.scenes := rfl
@[simp] theorem State.putItem_engine (s : State) (i : ItemIndex) (it : Item) : (s.putItem i it).engine = s.engine := rfl
@[simp] theorem State.putItem_checker (s : State) (i : ItemIndex) (it : Item) : (s.putItem i it).checker = s.checker := rfl
@[simp] theorem State.putItem_panel (s : State) (i : ItemIndex) (it : Item) : (s.putItem i it).panel = s.panel := rfl
@[simp] theorem State.putItem_link (s : State) (i : ItemIndex) (it : Item) : (s.putItem i it).link = s.link := rfl
@[simp] theorem State.putItem_port (s : State) (i : ItemIndex) (it : Item) : (s.putItem i it).port = s.port := rfl
@[simp] theorem State.putItem_draws (s : State) (i : ItemIndex) (it : Item) : (s.putItem i it).draws = s.draws := rfl
@[simp] theorem State.putItem_pending (s : State) (i : ItemIndex) (it : Item) : (s.putItem i it).pending = s.pending := rfl

@[simp] theorem State.setSuspended_table (s : State) (l : List (Nat × SuspendReason)) : (s.setSuspended l).table = s.table := rfl
@[simp] theorem State.setSuspended_stager (s : State) (l : List (Nat × SuspendReason)) : (s.setSuspended l).stager = s.stager := rfl
@[simp] theorem State.setSuspended_daypart (s : State) (l : List (Nat × SuspendReason)) : (s.setSuspended l).daypart = s.daypart := rfl
@[simp] theorem State.setSuspended_nva (s : State) (l : List (Nat × SuspendReason)) : (s.setSuspended l).nva = s.nva := rfl
@[simp] theorem State.setSuspended_former (s : State) (l : List (Nat × SuspendReason)) : (s.setSuspended l).former = s.former := rfl
@[simp] theorem State.setSuspended_assets (s : State) (l : List (Nat × SuspendReason)) : (s.setSuspended l).assets = s.assets := rfl
@[simp] theorem State.setSuspended_scenes (s : State) (l : List (Nat × SuspendReason)) : (s.setSuspended l).scenes = s.scenes := rfl
@[simp] theorem State.setSuspended_engine (s : State) (l : List (Nat × SuspendReason)) : (s.setSuspended l).engine = s.engine := rfl
@[simp] theorem State.setSuspended_checker (s : State) (l : List (Nat × SuspendReason)) : (s.setSuspended l).checker = { s.checker with suspended := l } := rfl
@[simp] theorem State.setSuspended_panel (s : State) (l : List (Nat × SuspendReason)) : (s.setSuspended l).panel = s.panel := rfl
@[simp] theorem State.setSuspended_link (s : State) (l : List (Nat × SuspendReason)) : (s.setSuspended l).link = { s.link with summary := s.link.summary ||| BitVec.twoPow 8 PosFlag.suspendedChanged.bit } := rfl
@[simp] theorem State.setSuspended_port (s : State) (l : List (Nat × SuspendReason)) : (s.setSuspended l).port = s.port.raise .priceSuspended := rfl
@[simp] theorem State.setSuspended_draws (s : State) (l : List (Nat × SuspendReason)) : (s.setSuspended l).draws = s.draws := rfl
@[simp] theorem State.setSuspended_pending (s : State) (l : List (Nat × SuspendReason)) : (s.setSuspended l).pending = s.pending := rfl

@[simp] theorem State.setPanel_table (s : State) (p : Fin 4) (r : PanelRecord) : (s.setPanel p r).table = s.table := rfl
@[simp] theorem State.setPanel_stager (s : State) (p : Fin 4) (r : PanelRecord) : (s.setPanel p r).stager = s.stager := rfl
@[simp] theorem State.setPanel_daypart (s : State) (p : Fin 4) (r : PanelRecord) : (s.setPanel p r).daypart = s.daypart := rfl
@[simp] theorem State.setPanel_nva (s : State) (p : Fin 4) (r : PanelRecord) : (s.setPanel p r).nva = s.nva := rfl
@[simp] theorem State.setPanel_former (s : State) (p : Fin 4) (r : PanelRecord) : (s.setPanel p r).former = s.former := rfl
@[simp] theorem State.setPanel_assets (s : State) (p : Fin 4) (r : PanelRecord) : (s.setPanel p r).assets = s.assets := rfl
@[simp] theorem State.setPanel_scenes (s : State) (p : Fin 4) (r : PanelRecord) : (s.setPanel p r).scenes = s.scenes := rfl
@[simp] theorem State.setPanel_engine (s : State) (p : Fin 4) (r : PanelRecord) : (s.setPanel p r).engine = s.engine := rfl
@[simp] theorem State.setPanel_checker (s : State) (p : Fin 4) (r : PanelRecord) : (s.setPanel p r).checker = s.checker := rfl
@[simp] theorem State.setPanel_panel (s : State) (p : Fin 4) (r : PanelRecord) : (s.setPanel p r).panel = s.panel.setPanel p r := rfl
@[simp] theorem State.setPanel_link (s : State) (p : Fin 4) (r : PanelRecord) : (s.setPanel p r).link = s.link := rfl
@[simp] theorem State.setPanel_port (s : State) (p : Fin 4) (r : PanelRecord) : (s.setPanel p r).port = s.port := rfl
@[simp] theorem State.setPanel_draws (s : State) (p : Fin 4) (r : PanelRecord) : (s.setPanel p r).draws = s.draws := rfl
@[simp] theorem State.setPanel_pending (s : State) (p : Fin 4) (r : PanelRecord) : (s.setPanel p r).pending = s.pending := rfl

@[simp] theorem State.setScenes_table (s : State) (p : Fin 4) (v : PanelScenes) : (s.setScenes p v).table = s.table := rfl
@[simp] theorem State.setScenes_stager (s : State) (p : Fin 4) (v : PanelScenes) : (s.setScenes p v).stager = s.stager := rfl
@[simp] theorem State.setScenes_daypart (s : State) (p : Fin 4) (v : PanelScenes) : (s.setScenes p v).daypart = s.daypart := rfl
@[simp] theorem State.setScenes_nva (s : State) (p : Fin 4) (v : PanelScenes) : (s.setScenes p v).nva = s.nva := rfl
@[simp] theorem State.setScenes_former (s : State) (p : Fin 4) (v : PanelScenes) : (s.setScenes p v).former = s.former := rfl
@[simp] theorem State.setScenes_assets (s : State) (p : Fin 4) (v : PanelScenes) : (s.setScenes p v).assets = s.assets := rfl
@[simp] theorem State.setScenes_scenes (s : State) (p : Fin 4) (v : PanelScenes) : (s.setScenes p v).scenes = { s.scenes with panels := s.scenes.panels.set p v } := rfl
@[simp] theorem State.setScenes_engine (s : State) (p : Fin 4) (v : PanelScenes) : (s.setScenes p v).engine = s.engine := rfl
@[simp] theorem State.setScenes_checker (s : State) (p : Fin 4) (v : PanelScenes) : (s.setScenes p v).checker = s.checker := rfl
@[simp] theorem State.setScenes_panel (s : State) (p : Fin 4) (v : PanelScenes) : (s.setScenes p v).panel = s.panel := rfl
@[simp] theorem State.setScenes_link (s : State) (p : Fin 4) (v : PanelScenes) : (s.setScenes p v).link = s.link := rfl
@[simp] theorem State.setScenes_port (s : State) (p : Fin 4) (v : PanelScenes) : (s.setScenes p v).port = s.port := rfl
@[simp] theorem State.setScenes_draws (s : State) (p : Fin 4) (v : PanelScenes) : (s.setScenes p v).draws = s.draws := rfl
@[simp] theorem State.setScenes_pending (s : State) (p : Fin 4) (v : PanelScenes) : (s.setScenes p v).pending = s.pending := rfl

@[simp] theorem State.onBack_table (s : State) (p : Fin 4) (f : FrameBuffer → FrameBuffer) : (s.onBack p f).table = s.table := rfl
@[simp] theorem State.onBack_stager (s : State) (p : Fin 4) (f : FrameBuffer → FrameBuffer) : (s.onBack p f).stager = s.stager := rfl
@[simp] theorem State.onBack_daypart (s : State) (p : Fin 4) (f : FrameBuffer → FrameBuffer) : (s.onBack p f).daypart = s.daypart := rfl
@[simp] theorem State.onBack_nva (s : State) (p : Fin 4) (f : FrameBuffer → FrameBuffer) : (s.onBack p f).nva = s.nva := rfl
@[simp] theorem State.onBack_former (s : State) (p : Fin 4) (f : FrameBuffer → FrameBuffer) : (s.onBack p f).former = s.former := rfl
@[simp] theorem State.onBack_assets (s : State) (p : Fin 4) (f : FrameBuffer → FrameBuffer) : (s.onBack p f).assets = s.assets := rfl
@[simp] theorem State.onBack_scenes (s : State) (p : Fin 4) (f : FrameBuffer → FrameBuffer) : (s.onBack p f).scenes = s.scenes := rfl
@[simp] theorem State.onBack_checker (s : State) (p : Fin 4) (f : FrameBuffer → FrameBuffer) : (s.onBack p f).checker = s.checker := rfl
@[simp] theorem State.onBack_panel (s : State) (p : Fin 4) (f : FrameBuffer → FrameBuffer) : (s.onBack p f).panel = s.panel := rfl
@[simp] theorem State.onBack_link (s : State) (p : Fin 4) (f : FrameBuffer → FrameBuffer) : (s.onBack p f).link = s.link := rfl
@[simp] theorem State.onBack_port (s : State) (p : Fin 4) (f : FrameBuffer → FrameBuffer) : (s.onBack p f).port = s.port := rfl
@[simp] theorem State.onBack_draws (s : State) (p : Fin 4) (f : FrameBuffer → FrameBuffer) : (s.onBack p f).draws = s.draws := rfl
@[simp] theorem State.onBack_pending (s : State) (p : Fin 4) (f : FrameBuffer → FrameBuffer) : (s.onBack p f).pending = s.pending := rfl

@[simp] theorem State.completed_table (s : State) (code : Byte) (go : BitVec 32) (st : ContentStatus) (a : List Byte) : (s.completed code go st a).table = s.table := rfl
@[simp] theorem State.completed_stager (s : State) (code : Byte) (go : BitVec 32) (st : ContentStatus) (a : List Byte) : (s.completed code go st a).stager = s.stager := rfl
@[simp] theorem State.completed_daypart (s : State) (code : Byte) (go : BitVec 32) (st : ContentStatus) (a : List Byte) : (s.completed code go st a).daypart = s.daypart := rfl
@[simp] theorem State.completed_nva (s : State) (code : Byte) (go : BitVec 32) (st : ContentStatus) (a : List Byte) : (s.completed code go st a).nva = s.nva := rfl
@[simp] theorem State.completed_former (s : State) (code : Byte) (go : BitVec 32) (st : ContentStatus) (a : List Byte) : (s.completed code go st a).former = s.former := rfl
@[simp] theorem State.completed_assets (s : State) (code : Byte) (go : BitVec 32) (st : ContentStatus) (a : List Byte) : (s.completed code go st a).assets = s.assets := rfl
@[simp] theorem State.completed_scenes (s : State) (code : Byte) (go : BitVec 32) (st : ContentStatus) (a : List Byte) : (s.completed code go st a).scenes = s.scenes := rfl
@[simp] theorem State.completed_engine (s : State) (code : Byte) (go : BitVec 32) (st : ContentStatus) (a : List Byte) : (s.completed code go st a).engine = s.engine := rfl
@[simp] theorem State.completed_checker (s : State) (code : Byte) (go : BitVec 32) (st : ContentStatus) (a : List Byte) : (s.completed code go st a).checker = s.checker := rfl
@[simp] theorem State.completed_panel (s : State) (code : Byte) (go : BitVec 32) (st : ContentStatus) (a : List Byte) : (s.completed code go st a).panel = s.panel := rfl
@[simp] theorem State.completed_link (s : State) (code : Byte) (go : BitVec 32) (st : ContentStatus) (a : List Byte) : (s.completed code go st a).link = s.link := rfl
@[simp] theorem State.completed_port (s : State) (code : Byte) (go : BitVec 32) (st : ContentStatus) (a : List Byte) : (s.completed code go st a).port = ({ s.port with status := { code := code, status := st.byte, tag := go.setWidth 16, answer := a } }).raise .cmdDone := rfl
@[simp] theorem State.completed_draws (s : State) (code : Byte) (go : BitVec 32) (st : ContentStatus) (a : List Byte) : (s.completed code go st a).draws = s.draws := rfl
@[simp] theorem State.completed_pending (s : State) (code : Byte) (go : BitVec 32) (st : ContentStatus) (a : List Byte) : (s.completed code go st a).pending = s.pending := rfl

@[simp] theorem State.tagged_table (s : State) (go : BitVec 32) : (s.tagged go).table = s.table := rfl
@[simp] theorem State.tagged_stager (s : State) (go : BitVec 32) : (s.tagged go).stager = s.stager := rfl
@[simp] theorem State.tagged_daypart (s : State) (go : BitVec 32) : (s.tagged go).daypart = s.daypart := rfl
@[simp] theorem State.tagged_nva (s : State) (go : BitVec 32) : (s.tagged go).nva = s.nva := rfl
@[simp] theorem State.tagged_former (s : State) (go : BitVec 32) : (s.tagged go).former = s.former := rfl
@[simp] theorem State.tagged_assets (s : State) (go : BitVec 32) : (s.tagged go).assets = s.assets := rfl
@[simp] theorem State.tagged_scenes (s : State) (go : BitVec 32) : (s.tagged go).scenes = s.scenes := rfl
@[simp] theorem State.tagged_engine (s : State) (go : BitVec 32) : (s.tagged go).engine = s.engine := rfl
@[simp] theorem State.tagged_checker (s : State) (go : BitVec 32) : (s.tagged go).checker = s.checker := rfl
@[simp] theorem State.tagged_panel (s : State) (go : BitVec 32) : (s.tagged go).panel = s.panel := rfl
@[simp] theorem State.tagged_link (s : State) (go : BitVec 32) : (s.tagged go).link = s.link := rfl
@[simp] theorem State.tagged_port (s : State) (go : BitVec 32) : (s.tagged go).port = { s.port with goTag := go.setWidth 16 } := rfl
@[simp] theorem State.tagged_draws (s : State) (go : BitVec 32) : (s.tagged go).draws = s.draws := rfl
@[simp] theorem State.tagged_pending (s : State) (go : BitVec 32) : (s.tagged go).pending = s.pending := rfl

@[simp] theorem State.writeRecord_table (s : State) (l : List (Nat × List Byte)) : (s.writeRecord l).table = s.table := rfl
@[simp] theorem State.writeRecord_stager (s : State) (l : List (Nat × List Byte)) : (s.writeRecord l).stager = s.stager := rfl
@[simp] theorem State.writeRecord_daypart (s : State) (l : List (Nat × List Byte)) : (s.writeRecord l).daypart = s.daypart := rfl
@[simp] theorem State.writeRecord_nva (s : State) (l : List (Nat × List Byte)) : (s.writeRecord l).nva = s.nva := rfl
@[simp] theorem State.writeRecord_former (s : State) (l : List (Nat × List Byte)) : (s.writeRecord l).former = s.former := rfl
@[simp] theorem State.writeRecord_assets (s : State) (l : List (Nat × List Byte)) : (s.writeRecord l).assets = s.assets := rfl
@[simp] theorem State.writeRecord_scenes (s : State) (l : List (Nat × List Byte)) : (s.writeRecord l).scenes = s.scenes := rfl
@[simp] theorem State.writeRecord_engine (s : State) (l : List (Nat × List Byte)) : (s.writeRecord l).engine = s.engine := rfl
@[simp] theorem State.writeRecord_checker (s : State) (l : List (Nat × List Byte)) : (s.writeRecord l).checker = s.checker := rfl
@[simp] theorem State.writeRecord_panel (s : State) (l : List (Nat × List Byte)) : (s.writeRecord l).panel = s.panel := rfl
@[simp] theorem State.writeRecord_link (s : State) (l : List (Nat × List Byte)) : (s.writeRecord l).link = s.link := rfl
@[simp] theorem State.writeRecord_port (s : State) (l : List (Nat × List Byte)) : (s.writeRecord l).port = { s.port with record := l.foldl (fun r e => storeRecord r e.1 e.2) s.port.record } := rfl
@[simp] theorem State.writeRecord_draws (s : State) (l : List (Nat × List Byte)) : (s.writeRecord l).draws = s.draws := rfl
@[simp] theorem State.writeRecord_pending (s : State) (l : List (Nat × List Byte)) : (s.writeRecord l).pending = s.pending := rfl

@[simp] theorem State.taken_table (s : State) (r : CommandRow) : (s.taken r).table = s.table := rfl
@[simp] theorem State.taken_stager (s : State) (r : CommandRow) : (s.taken r).stager = s.stager := rfl
@[simp] theorem State.taken_daypart (s : State) (r : CommandRow) : (s.taken r).daypart = s.daypart := rfl
@[simp] theorem State.taken_nva (s : State) (r : CommandRow) : (s.taken r).nva = s.nva := rfl
@[simp] theorem State.taken_former (s : State) (r : CommandRow) : (s.taken r).former = s.former := rfl
@[simp] theorem State.taken_assets (s : State) (r : CommandRow) : (s.taken r).assets = s.assets := rfl
@[simp] theorem State.taken_scenes (s : State) (r : CommandRow) : (s.taken r).scenes = s.scenes := rfl
@[simp] theorem State.taken_engine (s : State) (r : CommandRow) : (s.taken r).engine = s.engine := rfl
@[simp] theorem State.taken_checker (s : State) (r : CommandRow) : (s.taken r).checker = s.checker := rfl
@[simp] theorem State.taken_panel (s : State) (r : CommandRow) : (s.taken r).panel = s.panel := rfl
@[simp] theorem State.taken_link (s : State) (r : CommandRow) : (s.taken r).link = s.link := rfl
@[simp] theorem State.taken_draws (s : State) (r : CommandRow) : (s.taken r).draws = s.draws := rfl
@[simp] theorem State.taken_pending (s : State) (r : CommandRow) : (s.taken r).pending = s.pending := rfl

@[simp] theorem State.logFault_table (s : State) (f : FaultEntry) : (s.logFault f).table = s.table := rfl
@[simp] theorem State.logFault_stager (s : State) (f : FaultEntry) : (s.logFault f).stager = s.stager := rfl
@[simp] theorem State.logFault_daypart (s : State) (f : FaultEntry) : (s.logFault f).daypart = s.daypart := rfl
@[simp] theorem State.logFault_nva (s : State) (f : FaultEntry) : (s.logFault f).nva = s.nva.log f := rfl
@[simp] theorem State.logFault_former (s : State) (f : FaultEntry) : (s.logFault f).former = s.former := rfl
@[simp] theorem State.logFault_assets (s : State) (f : FaultEntry) : (s.logFault f).assets = s.assets := rfl
@[simp] theorem State.logFault_scenes (s : State) (f : FaultEntry) : (s.logFault f).scenes = s.scenes := rfl
@[simp] theorem State.logFault_engine (s : State) (f : FaultEntry) : (s.logFault f).engine = s.engine := rfl
@[simp] theorem State.logFault_checker (s : State) (f : FaultEntry) : (s.logFault f).checker = s.checker := rfl
@[simp] theorem State.logFault_panel (s : State) (f : FaultEntry) : (s.logFault f).panel = s.panel := rfl
@[simp] theorem State.logFault_link (s : State) (f : FaultEntry) : (s.logFault f).link = { s.link with summary := s.link.summary ||| BitVec.twoPow 8 PosFlag.nvaFault.bit } := rfl
@[simp] theorem State.logFault_port (s : State) (f : FaultEntry) : (s.logFault f).port = s.port.raise .nvaFault := rfl
@[simp] theorem State.logFault_draws (s : State) (f : FaultEntry) : (s.logFault f).draws = s.draws := rfl
@[simp] theorem State.logFault_pending (s : State) (f : FaultEntry) : (s.logFault f).pending = s.pending := rfl

@[simp] theorem State.startPeriod_table (s : State) : (s.startPeriod).table = s.table := rfl
@[simp] theorem State.startPeriod_stager (s : State) : (s.startPeriod).stager = s.stager := rfl
@[simp] theorem State.startPeriod_daypart (s : State) : (s.startPeriod).daypart = s.daypart := rfl
@[simp] theorem State.startPeriod_nva (s : State) : (s.startPeriod).nva = s.nva := rfl
@[simp] theorem State.startPeriod_former (s : State) : (s.startPeriod).former = s.former := rfl
@[simp] theorem State.startPeriod_assets (s : State) : (s.startPeriod).assets = s.assets := rfl
@[simp] theorem State.startPeriod_scenes (s : State) : (s.startPeriod).scenes = s.scenes := rfl
@[simp] theorem State.startPeriod_engine (s : State) : (s.startPeriod).engine = { s.engine with rate := s.engine.nextRate } := rfl
@[simp] theorem State.startPeriod_checker (s : State) : (s.startPeriod).checker = s.checker := rfl
@[simp] theorem State.startPeriod_panel (s : State) : (s.startPeriod).panel = s.panel := rfl
@[simp] theorem State.startPeriod_link (s : State) : (s.startPeriod).link = s.link := rfl
@[simp] theorem State.startPeriod_port (s : State) : (s.startPeriod).port = s.port := rfl
@[simp] theorem State.startPeriod_draws (s : State) : (s.startPeriod).draws = s.draws := rfl
@[simp] theorem State.startPeriod_pending (s : State) : (s.startPeriod).pending = s.pending := rfl

@[simp] theorem State.panelStart_table (s : State) : (s.panelStart).table = s.table := rfl
@[simp] theorem State.panelStart_stager (s : State) : (s.panelStart).stager = s.stager := rfl
@[simp] theorem State.panelStart_daypart (s : State) : (s.panelStart).daypart = s.daypart := rfl
@[simp] theorem State.panelStart_nva (s : State) : (s.panelStart).nva = s.nva := rfl
@[simp] theorem State.panelStart_former (s : State) : (s.panelStart).former = s.former := rfl
@[simp] theorem State.panelStart_assets (s : State) : (s.panelStart).assets = s.assets := rfl
@[simp] theorem State.panelStart_scenes (s : State) : (s.panelStart).scenes = s.scenes := rfl
@[simp] theorem State.panelStart_engine (s : State) : (s.panelStart).engine = s.engine := rfl
@[simp] theorem State.panelStart_checker (s : State) : (s.panelStart).checker = s.checker := rfl
@[simp] theorem State.panelStart_panel (s : State) : (s.panelStart).panel = s.panel.frameStart := rfl
@[simp] theorem State.panelStart_link (s : State) : (s.panelStart).link = s.link := rfl
@[simp] theorem State.panelStart_port (s : State) : (s.panelStart).port = s.port := rfl
@[simp] theorem State.panelStart_draws (s : State) : (s.panelStart).draws = s.draws := rfl
@[simp] theorem State.panelStart_pending (s : State) : (s.panelStart).pending = s.pending := rfl

@[simp] theorem State.startJob_table (s : State) : (s.startJob).table = s.table := rfl
@[simp] theorem State.startJob_stager (s : State) : (s.startJob).stager = s.stager := rfl
@[simp] theorem State.startJob_daypart (s : State) : (s.startJob).daypart = s.daypart := rfl
@[simp] theorem State.startJob_nva (s : State) : (s.startJob).nva = s.nva := rfl
@[simp] theorem State.startJob_former (s : State) : (s.startJob).former = s.former := rfl
@[simp] theorem State.startJob_assets (s : State) : (s.startJob).assets = s.assets := rfl
@[simp] theorem State.startJob_scenes (s : State) : (s.startJob).scenes = s.scenes := rfl
@[simp] theorem State.startJob_engine (s : State) : (s.startJob).engine = { s.engine with shown := [], job := .compose (s.panelFrom 0) } := rfl
@[simp] theorem State.startJob_checker (s : State) : (s.startJob).checker = s.checker := rfl
@[simp] theorem State.startJob_panel (s : State) : (s.startJob).panel = s.panel := rfl
@[simp] theorem State.startJob_link (s : State) : (s.startJob).link = s.link := rfl
@[simp] theorem State.startJob_port (s : State) : (s.startJob).port = s.port := rfl
@[simp] theorem State.startJob_draws (s : State) : (s.startJob).draws = s.draws := rfl
@[simp] theorem State.startJob_pending (s : State) : (s.startJob).pending = s.pending := rfl

@[simp] theorem State.lateFrame_table (s : State) : (s.lateFrame).table = s.table := rfl
@[simp] theorem State.lateFrame_stager (s : State) : (s.lateFrame).stager = s.stager := rfl
@[simp] theorem State.lateFrame_daypart (s : State) : (s.lateFrame).daypart = s.daypart := rfl
@[simp] theorem State.lateFrame_nva (s : State) : (s.lateFrame).nva = s.nva := rfl
@[simp] theorem State.lateFrame_former (s : State) : (s.lateFrame).former = s.former := rfl
@[simp] theorem State.lateFrame_assets (s : State) : (s.lateFrame).assets = s.assets := rfl
@[simp] theorem State.lateFrame_scenes (s : State) : (s.lateFrame).scenes = s.scenes := rfl
@[simp] theorem State.lateFrame_engine (s : State) : (s.lateFrame).engine = { s.engine with late := countLate s.engine.late } := rfl
@[simp] theorem State.lateFrame_checker (s : State) : (s.lateFrame).checker = s.checker := rfl
@[simp] theorem State.lateFrame_panel (s : State) : (s.lateFrame).panel = s.panel := rfl
@[simp] theorem State.lateFrame_link (s : State) : (s.lateFrame).link = s.link := rfl
@[simp] theorem State.lateFrame_port (s : State) : (s.lateFrame).port = s.port.raise .frameLate := rfl
@[simp] theorem State.lateFrame_draws (s : State) : (s.lateFrame).draws = s.draws := rfl
@[simp] theorem State.lateFrame_pending (s : State) : (s.lateFrame).pending = s.pending := rfl

@[simp] theorem State.clearMarks_table (s : State) : (s.clearMarks).table = s.table := rfl
@[simp] theorem State.clearMarks_stager (s : State) : (s.clearMarks).stager = s.stager := rfl
@[simp] theorem State.clearMarks_daypart (s : State) : (s.clearMarks).daypart = s.daypart := rfl
@[simp] theorem State.clearMarks_nva (s : State) : (s.clearMarks).nva = s.nva := rfl
@[simp] theorem State.clearMarks_former (s : State) : (s.clearMarks).former = s.former := rfl
@[simp] theorem State.clearMarks_assets (s : State) : (s.clearMarks).assets = s.assets := rfl
@[simp] theorem State.clearMarks_scenes (s : State) : (s.clearMarks).scenes = s.scenes := rfl
@[simp] theorem State.clearMarks_engine (s : State) : (s.clearMarks).engine = { s.engine with shown := s.engine.shown.map (fun r => { r with mark := none }) } := rfl
@[simp] theorem State.clearMarks_checker (s : State) : (s.clearMarks).checker = s.checker := rfl
@[simp] theorem State.clearMarks_panel (s : State) : (s.clearMarks).panel = s.panel := rfl
@[simp] theorem State.clearMarks_link (s : State) : (s.clearMarks).link = s.link := rfl
@[simp] theorem State.clearMarks_port (s : State) : (s.clearMarks).port = s.port := rfl
@[simp] theorem State.clearMarks_draws (s : State) : (s.clearMarks).draws = s.draws := rfl
@[simp] theorem State.clearMarks_pending (s : State) : (s.clearMarks).pending = s.pending := rfl

@[simp] theorem State.markRecord_table (s : State) (i : Nat) (r : ShownRecord) (m : Option RejectCause) : (s.markRecord i r m).table = s.table := rfl
@[simp] theorem State.markRecord_stager (s : State) (i : Nat) (r : ShownRecord) (m : Option RejectCause) : (s.markRecord i r m).stager = s.stager := rfl
@[simp] theorem State.markRecord_daypart (s : State) (i : Nat) (r : ShownRecord) (m : Option RejectCause) : (s.markRecord i r m).daypart = s.daypart := rfl
@[simp] theorem State.markRecord_nva (s : State) (i : Nat) (r : ShownRecord) (m : Option RejectCause) : (s.markRecord i r m).nva = s.nva := rfl
@[simp] theorem State.markRecord_former (s : State) (i : Nat) (r : ShownRecord) (m : Option RejectCause) : (s.markRecord i r m).former = s.former := rfl
@[simp] theorem State.markRecord_assets (s : State) (i : Nat) (r : ShownRecord) (m : Option RejectCause) : (s.markRecord i r m).assets = s.assets := rfl
@[simp] theorem State.markRecord_scenes (s : State) (i : Nat) (r : ShownRecord) (m : Option RejectCause) : (s.markRecord i r m).scenes = s.scenes := rfl
@[simp] theorem State.markRecord_engine (s : State) (i : Nat) (r : ShownRecord) (m : Option RejectCause) : (s.markRecord i r m).engine = { s.engine with shown := s.engine.shown.set i { r with mark := m } } := rfl
@[simp] theorem State.markRecord_checker (s : State) (i : Nat) (r : ShownRecord) (m : Option RejectCause) : (s.markRecord i r m).checker = s.checker := rfl
@[simp] theorem State.markRecord_panel (s : State) (i : Nat) (r : ShownRecord) (m : Option RejectCause) : (s.markRecord i r m).panel = s.panel := rfl
@[simp] theorem State.markRecord_link (s : State) (i : Nat) (r : ShownRecord) (m : Option RejectCause) : (s.markRecord i r m).link = s.link := rfl
@[simp] theorem State.markRecord_port (s : State) (i : Nat) (r : ShownRecord) (m : Option RejectCause) : (s.markRecord i r m).port = s.port := rfl
@[simp] theorem State.markRecord_draws (s : State) (i : Nat) (r : ShownRecord) (m : Option RejectCause) : (s.markRecord i r m).draws = s.draws := rfl
@[simp] theorem State.markRecord_pending (s : State) (i : Nat) (r : ShownRecord) (m : Option RejectCause) : (s.markRecord i r m).pending = s.pending := rfl

@[simp] theorem State.exchange_table (s : State) : (s.exchange).table = s.table := rfl
@[simp] theorem State.exchange_stager (s : State) : (s.exchange).stager = s.stager := rfl
@[simp] theorem State.exchange_daypart (s : State) : (s.exchange).daypart = s.daypart := rfl
@[simp] theorem State.exchange_nva (s : State) : (s.exchange).nva = s.nva := rfl
@[simp] theorem State.exchange_former (s : State) : (s.exchange).former = s.former := rfl
@[simp] theorem State.exchange_assets (s : State) : (s.exchange).assets = s.assets := rfl
@[simp] theorem State.exchange_scenes (s : State) : (s.exchange).scenes = s.scenes := rfl
@[simp] theorem State.exchange_checker (s : State) : (s.exchange).checker = s.checker := rfl
@[simp] theorem State.exchange_panel (s : State) : (s.exchange).panel = s.panel := rfl
@[simp] theorem State.exchange_link (s : State) : (s.exchange).link = s.link := rfl
@[simp] theorem State.exchange_port (s : State) : (s.exchange).port = s.port := rfl
@[simp] theorem State.exchange_draws (s : State) : (s.exchange).draws = s.draws := rfl
@[simp] theorem State.exchange_pending (s : State) : (s.exchange).pending = s.pending := rfl

@[simp] theorem State.armTest_table (s : State) : (s.armTest).table = s.table := rfl
@[simp] theorem State.armTest_stager (s : State) : (s.armTest).stager = s.stager := rfl
@[simp] theorem State.armTest_daypart (s : State) : (s.armTest).daypart = s.daypart := rfl
@[simp] theorem State.armTest_nva (s : State) : (s.armTest).nva = s.nva := rfl
@[simp] theorem State.armTest_former (s : State) : (s.armTest).former = s.former := rfl
@[simp] theorem State.armTest_assets (s : State) : (s.armTest).assets = s.assets := rfl
@[simp] theorem State.armTest_scenes (s : State) : (s.armTest).scenes = s.scenes := rfl
@[simp] theorem State.armTest_engine (s : State) : (s.armTest).engine = s.engine := rfl
@[simp] theorem State.armTest_checker (s : State) : (s.armTest).checker = { s.checker with armed := true } := rfl
@[simp] theorem State.armTest_panel (s : State) : (s.armTest).panel = s.panel := rfl
@[simp] theorem State.armTest_link (s : State) : (s.armTest).link = s.link := rfl
@[simp] theorem State.armTest_port (s : State) : (s.armTest).port = s.port := rfl
@[simp] theorem State.armTest_draws (s : State) : (s.armTest).draws = s.draws := rfl
@[simp] theorem State.armTest_pending (s : State) : (s.armTest).pending = s.pending := rfl

@[simp] theorem State.pushed_table (s : State) (c : Instr) : (s.pushed c).table = s.table := rfl
@[simp] theorem State.pushed_stager (s : State) (c : Instr) : (s.pushed c).stager = s.stager := rfl
@[simp] theorem State.pushed_daypart (s : State) (c : Instr) : (s.pushed c).daypart = s.daypart := rfl
@[simp] theorem State.pushed_nva (s : State) (c : Instr) : (s.pushed c).nva = s.nva := rfl
@[simp] theorem State.pushed_former (s : State) (c : Instr) : (s.pushed c).former = s.former := rfl
@[simp] theorem State.pushed_assets (s : State) (c : Instr) : (s.pushed c).assets = s.assets := rfl
@[simp] theorem State.pushed_scenes (s : State) (c : Instr) : (s.pushed c).scenes = s.scenes := rfl
@[simp] theorem State.pushed_engine (s : State) (c : Instr) : (s.pushed c).engine = s.engine := rfl
@[simp] theorem State.pushed_checker (s : State) (c : Instr) : (s.pushed c).checker = s.checker := rfl
@[simp] theorem State.pushed_panel (s : State) (c : Instr) : (s.pushed c).panel = s.panel := rfl
@[simp] theorem State.pushed_link (s : State) (c : Instr) : (s.pushed c).link = s.link := rfl
@[simp] theorem State.pushed_port (s : State) (c : Instr) : (s.pushed c).port = s.port := rfl
@[simp] theorem State.pushed_draws (s : State) (c : Instr) : (s.pushed c).draws = s.draws := rfl
@[simp] theorem State.pushed_pending (s : State) (c : Instr) : (s.pushed c).pending = c :: s.pending := rfl

@[simp] theorem State.popped_table (s : State) : (s.popped).table = s.table := rfl
@[simp] theorem State.popped_stager (s : State) : (s.popped).stager = s.stager := rfl
@[simp] theorem State.popped_daypart (s : State) : (s.popped).daypart = s.daypart := rfl
@[simp] theorem State.popped_nva (s : State) : (s.popped).nva = s.nva := rfl
@[simp] theorem State.popped_former (s : State) : (s.popped).former = s.former := rfl
@[simp] theorem State.popped_assets (s : State) : (s.popped).assets = s.assets := rfl
@[simp] theorem State.popped_scenes (s : State) : (s.popped).scenes = s.scenes := rfl
@[simp] theorem State.popped_engine (s : State) : (s.popped).engine = s.engine := rfl
@[simp] theorem State.popped_checker (s : State) : (s.popped).checker = s.checker := rfl
@[simp] theorem State.popped_panel (s : State) : (s.popped).panel = s.panel := rfl
@[simp] theorem State.popped_link (s : State) : (s.popped).link = s.link := rfl
@[simp] theorem State.popped_port (s : State) : (s.popped).port = s.port := rfl
@[simp] theorem State.popped_draws (s : State) : (s.popped).draws = s.draws := rfl
@[simp] theorem State.popped_pending (s : State) : (s.popped).pending = s.pending.tail := rfl

/-! ### Fields of the ports under a flag -/

@[simp] theorem ContentPort.raise_record (p : ContentPort) (f : ContentFlag) : (p.raise f).record = p.record := rfl
@[simp] theorem ContentPort.raise_goTag (p : ContentPort) (f : ContentFlag) : (p.raise f).goTag = p.goTag := rfl
@[simp] theorem ContentPort.raise_status (p : ContentPort) (f : ContentFlag) : (p.raise f).status = p.status := rfl
@[simp] theorem ContentPort.raise_readData (p : ContentPort) (f : ContentFlag) : (p.raise f).readData = p.readData := rfl
@[simp] theorem ContentPort.raise_messageEnabled (p : ContentPort) (f : ContentFlag) :
    (p.raise f).messageEnabled = p.messageEnabled := rfl
@[simp] theorem ContentPort.raise_summary (p : ContentPort) (f : ContentFlag) :
    (p.raise f).summary = p.summary ||| BitVec.twoPow 32 f.bit := rfl

/-! ### The engine under an update -/

@[simp] theorem State.onBack_outputs (s : State) (p : Fin 4) (f : FrameBuffer → FrameBuffer) :
    (s.onBack p f).engine.outputs = s.engine.outputs := rfl
@[simp] theorem State.onBack_job (s : State) (p : Fin 4) (f : FrameBuffer → FrameBuffer) :
    (s.onBack p f).engine.job = s.engine.job := rfl
@[simp] theorem State.onBack_shown (s : State) (p : Fin 4) (f : FrameBuffer → FrameBuffer) :
    (s.onBack p f).engine.shown = s.engine.shown := rfl
@[simp] theorem State.onBack_late (s : State) (p : Fin 4) (f : FrameBuffer → FrameBuffer) :
    (s.onBack p f).engine.late = s.engine.late := rfl

end Sys2Proof.Machine
end

