-- ==== Sys2Proof/Laws/Link.lean ====
section
/-! SUPPORT. The POS link: what the end of a frame leaves, and what becomes of a request by the tests of R159 and R160. -/

namespace Sys2Proof.Machine

/-! ### Fixing a hold expiry -/

@[simp] theorem Stager.fixExpiry_staging (st : Stager) : st.fixExpiry.staging = st.staging := by
  unfold Stager.fixExpiry; split <;> try rfl
  split <;> rfl

@[simp] theorem Stager.fixExpiry_commitNumber (st : Stager) : st.fixExpiry.commitNumber = st.commitNumber := by
  unfold Stager.fixExpiry; split <;> try rfl
  split <;> rfl

@[simp] theorem Stager.fixExpiry_lastOutcome (st : Stager) : st.fixExpiry.lastOutcome = st.lastOutcome := by
  unfold Stager.fixExpiry; split <;> try rfl
  split <;> rfl

/-- Fixing the expiry changes a HELD record's mark and nothing else. -/
theorem Stager.fixExpiry_eq (st : Stager) :
    st.fixExpiry = match st.commit with
      | none => st
      | some c => match c.state with
        | .held _ => { st with commit := some { c with state := .held true } }
        | .checking => st
        | .pending => st := by
  unfold Stager.fixExpiry; cases st.commit <;> rfl

@[simp] theorem Stager.fixExpiry_none {st : Stager} (h : st.commit = none) : st.fixExpiry = st := by
  simp [Stager.fixExpiry, h]

/-! ### The end of a frame -/

/-- Withdrawing an answer touches the answer and a hold expiry only. -/
theorem State.withdrawAnswer_eq (s : State) :
    s.withdrawAnswer = s ∨ ∃ a, s.link.answer = some a ∧ a.sending = false ∧
      s.withdrawAnswer = { s with
        link := { s.link with answer := none },
        stager := if a.kind = commitAnswerKind then s.stager.fixExpiry else s.stager } := by
  unfold State.withdrawAnswer
  split
  · exact .inl rfl
  · rename_i a ha
    split
    · exact .inl rfl
    · rename_i hs; exact .inr ⟨a, ha, by simpa using hs, rfl⟩

@[simp] theorem State.withdrawAnswer_table (s : State) : s.withdrawAnswer.table = s.table := by
  unfold State.withdrawAnswer; split <;> [rfl; (split <;> rfl)]
@[simp] theorem State.frameEnd_table (s : State) : s.frameEnd.table = s.table := State.withdrawAnswer_table s
@[simp] theorem State.withdrawAnswer_daypart (s : State) : s.withdrawAnswer.daypart = s.daypart := by
  unfold State.withdrawAnswer; split <;> [rfl; (split <;> rfl)]
@[simp] theorem State.frameEnd_daypart (s : State) : s.frameEnd.daypart = s.daypart := State.withdrawAnswer_daypart s
@[simp] theorem State.withdrawAnswer_nva (s : State) : s.withdrawAnswer.nva = s.nva := by
  unfold State.withdrawAnswer; split <;> [rfl; (split <;> rfl)]
@[simp] theorem State.frameEnd_nva (s : State) : s.frameEnd.nva = s.nva := State.withdrawAnswer_nva s
@[simp] theorem State.withdrawAnswer_former (s : State) : s.withdrawAnswer.former = s.former := by
  unfold State.withdrawAnswer; split <;> [rfl; (split <;> rfl)]
@[simp] theorem State.frameEnd_former (s : State) : s.frameEnd.former = s.former := State.withdrawAnswer_former s
@[simp] theorem State.withdrawAnswer_assets (s : State) : s.withdrawAnswer.assets = s.assets := by
  unfold State.withdrawAnswer; split <;> [rfl; (split <;> rfl)]
@[simp] theorem State.frameEnd_assets (s : State) : s.frameEnd.assets = s.assets := State.withdrawAnswer_assets s
@[simp] theorem State.withdrawAnswer_scenes (s : State) : s.withdrawAnswer.scenes = s.scenes := by
  unfold State.withdrawAnswer; split <;> [rfl; (split <;> rfl)]
@[simp] theorem State.frameEnd_scenes (s : State) : s.frameEnd.scenes = s.scenes := State.withdrawAnswer_scenes s
@[simp] theorem State.withdrawAnswer_engine (s : State) : s.withdrawAnswer.engine = s.engine := by
  unfold State.withdrawAnswer; split <;> [rfl; (split <;> rfl)]
@[simp] theorem State.frameEnd_engine (s : State) : s.frameEnd.engine = s.engine := State.withdrawAnswer_engine s
@[simp] theorem State.withdrawAnswer_checker (s : State) : s.withdrawAnswer.checker = s.checker := by
  unfold State.withdrawAnswer; split <;> [rfl; (split <;> rfl)]
@[simp] theorem State.frameEnd_checker (s : State) : s.frameEnd.checker = s.checker := State.withdrawAnswer_checker s
@[simp] theorem State.withdrawAnswer_panel (s : State) : s.withdrawAnswer.panel = s.panel := by
  unfold State.withdrawAnswer; split <;> [rfl; (split <;> rfl)]
@[simp] theorem State.frameEnd_panel (s : State) : s.frameEnd.panel = s.panel := State.withdrawAnswer_panel s
@[simp] theorem State.withdrawAnswer_port (s : State) : s.withdrawAnswer.port = s.port := by
  unfold State.withdrawAnswer; split <;> [rfl; (split <;> rfl)]
@[simp] theorem State.frameEnd_port (s : State) : s.frameEnd.port = s.port := State.withdrawAnswer_port s
@[simp] theorem State.withdrawAnswer_draws (s : State) : s.withdrawAnswer.draws = s.draws := by
  unfold State.withdrawAnswer; split <;> [rfl; (split <;> rfl)]
@[simp] theorem State.frameEnd_draws (s : State) : s.frameEnd.draws = s.draws := State.withdrawAnswer_draws s
@[simp] theorem State.withdrawAnswer_pending (s : State) : s.withdrawAnswer.pending = s.pending := by
  unfold State.withdrawAnswer; split <;> [rfl; (split <;> rfl)]
@[simp] theorem State.frameEnd_pending (s : State) : s.frameEnd.pending = s.pending := State.withdrawAnswer_pending s
@[simp] theorem State.frameEnd_staging (s : State) : s.frameEnd.stager.staging = s.stager.staging := by
  rcases s.withdrawAnswer_eq with h | ⟨a, -, -, h⟩
  · simp [State.frameEnd, h]
  · simp only [State.frameEnd, h]; split <;> simp
@[simp] theorem State.frameEnd_commitNumber (s : State) : s.frameEnd.stager.commitNumber = s.stager.commitNumber := by
  rcases s.withdrawAnswer_eq with h | ⟨a, -, -, h⟩
  · simp [State.frameEnd, h]
  · simp only [State.frameEnd, h]; split <;> simp
@[simp] theorem State.frameEnd_lastOutcome (s : State) : s.frameEnd.stager.lastOutcome = s.stager.lastOutcome := by
  rcases s.withdrawAnswer_eq with h | ⟨a, -, -, h⟩
  · simp [State.frameEnd, h]
  · simp only [State.frameEnd, h]; split <;> simp
@[simp] theorem State.frameEnd_unit (s : State) : s.frameEnd.link.unit = s.link.unit := by
  rcases s.withdrawAnswer_eq with h | ⟨a, -, -, h⟩ <;> simp [State.frameEnd, h]
@[simp] theorem State.frameEnd_summary (s : State) : s.frameEnd.link.summary = s.link.summary := by
  rcases s.withdrawAnswer_eq with h | ⟨a, -, -, h⟩ <;> simp [State.frameEnd, h]
@[simp] theorem State.frameEnd_receiver (s : State) : s.frameEnd.link.receiver = .waitIdle := rfl

/-- While the part does not send, no answer is left at the end of a frame. -/
theorem State.frameEnd_answer {s : State} (h : s.sending = false) : s.frameEnd.link.answer = none := by
  unfold State.frameEnd State.withdrawAnswer
  unfold State.sending at h
  split at h
  · rename_i a ha; simp [ha, h]
  · rename_i ha; simp [ha]

/-- Whether a check is in flight does not change at the end of a frame. -/
@[simp] theorem State.frameEnd_checking (s : State) : s.frameEnd.checking = s.checking := by
  rcases s.withdrawAnswer_eq with h | ⟨a, -, -, h⟩
  · simp [State.frameEnd, State.checking, h]
  · by_cases ha : a.kind = commitAnswerKind
    · cases hc : s.stager.commit with
      | none => simp [State.frameEnd, State.checking, h, ha, hc]
      | some c => cases hs : c.state <;> simp [State.frameEnd, State.checking, h, ha, hc, hs, Stager.fixExpiry_eq]
    · simp [State.frameEnd, State.checking, h, ha]

/-- The stager at the end of a frame: as it stood, but for a HELD record's expiry. -/
theorem State.frameEnd_stager (s : State) : s.frameEnd.stager = s.stager ∨ s.frameEnd.stager = s.stager.fixExpiry := by
  rcases s.withdrawAnswer_eq with h | ⟨a, -, -, h⟩
  · exact .inl (by simp [State.frameEnd, h])
  · simp only [State.frameEnd, h]
    split
    · exact .inr rfl
    · exact .inl rfl

/-! ### Requests -/

/-- What becomes of an addressed request, all at once (R159). -/
theorem State.onFrame_addressed (s : State) (r : Request) :
    s.onFrame (fun t => t.take .addressed r) =
      if s.sending then s
      else if s.nva.loading || s.checking then s.frameEnd.holdAnswer r.kind [0x01]
      else if r.lengthFits then
        match (r.owner s.frameEnd).2 with
        | some payload => (r.owner s.frameEnd).1.holdAnswer r.kind payload
        | none => (r.owner s.frameEnd).1
      else s.frameEnd.holdAnswer r.kind [0x02] := by
  unfold State.onFrame State.take
  simp only [State.frameEnd_nva, State.frameEnd_checking]
  cases s.sending <;> cases s.nva.loading <;> cases s.checking <;> cases r.lengthFits <;> rfl

/-- What becomes of a broadcast request, all at once (R160). -/
theorem State.onFrame_broadcast (s : State) (r : Request) :
    s.onFrame (fun t => t.take .broadcast r) =
      if s.sending then s
      else if s.nva.loading || s.checking || !r.broadcast || !r.lengthFits then s.frameEnd
      else (r.owner s.frameEnd).1 := by
  unfold State.onFrame State.take
  simp only [State.frameEnd_nva, State.frameEnd_checking]

/-- A request that passes the tests of R159 reaches its owner. -/
theorem State.onFrame_handed {s : State} (h : s.TakesRequests) {r : Request} (hl : r.lengthFits = true) :
    s.onFrame (fun t => t.take .addressed r) =
      match (r.owner s.frameEnd).2 with
      | some payload => (r.owner s.frameEnd).1.holdAnswer r.kind payload
      | none => (r.owner s.frameEnd).1 := by
  obtain ⟨h1, h2, h3⟩ := h
  simp [State.onFrame_addressed, h1, h2, h3, hl]

end Sys2Proof.Machine
end

