-- ==== Sys2Proof/Laws/Sparse.lean ====
section
/-! SUPPORT. What the sparse tables do: reading after writing, and the canonical form under every operation. -/

namespace Sys2Proof.Machine

variable {κ α : Type} [LinearOrder κ]

/-! ### Reading after writing -/

@[simp] theorem Sparse.find_put_self (m : List (κ × α)) (k : κ) (v : α) : Sparse.find (Sparse.put m k v) k = some v := by
  induction m with
  | nil => simp [Sparse.put, Sparse.find]
  | cons e rest ih =>
    obtain ⟨a, w⟩ := e
    unfold Sparse.put
    split
    · simp [Sparse.find]
    · split
      · simp [Sparse.find]
      · rename_i h; simp [Sparse.find, h, ih]

theorem Sparse.find_put_ne (m : List (κ × α)) {k j : κ} (v : α) (h : j ≠ k) :
    Sparse.find (Sparse.put m k v) j = Sparse.find m j := by
  induction m with
  | nil => simp [Sparse.put, Sparse.find, h]
  | cons e rest ih =>
    obtain ⟨a, w⟩ := e
    unfold Sparse.put
    split
    · simp [Sparse.find, h]
    · split
      · rename_i h2; subst h2; simp [Sparse.find, h]
      · simp [Sparse.find, ih]

@[simp] theorem Sparse.find_drop_self (m : List (κ × α)) (k : κ) : Sparse.find (Sparse.drop m k) k = none := by
  induction m with
  | nil => rfl
  | cons e rest ih =>
    obtain ⟨a, w⟩ := e
    unfold Sparse.drop at *
    by_cases h : a = k
    · simp [h, ih]
    · simp [h, Sparse.find, Ne.symm h, ih]

theorem Sparse.find_drop_ne (m : List (κ × α)) {k j : κ} (h : j ≠ k) :
    Sparse.find (Sparse.drop m k) j = Sparse.find m j := by
  induction m with
  | nil => rfl
  | cons e rest ih =>
    obtain ⟨a, w⟩ := e
    unfold Sparse.drop at *
    by_cases hk : a = k
    · subst hk; simp [Sparse.find, h, ih]
    · simp [hk, Sparse.find, ih]

/-- What a put does to a read, all at once. -/
theorem Sparse.find_put (m : List (κ × α)) (k j : κ) (v : α) :
    Sparse.find (Sparse.put m k v) j = if j = k then some v else Sparse.find m j := by
  split
  · rename_i h; subst h; exact Sparse.find_put_self m _ v
  · rename_i h; exact Sparse.find_put_ne m v h

/-- What a drop does to a read, all at once. -/
theorem Sparse.find_drop (m : List (κ × α)) (k j : κ) :
    Sparse.find (Sparse.drop m k) j = if j = k then none else Sparse.find m j := by
  split
  · rename_i h; subst h; exact Sparse.find_drop_self m _
  · rename_i h; exact Sparse.find_drop_ne m h

/-- What a write of a table with a default does to a read, all at once. -/
theorem Sparse.getD_setD [DecidableEq α] (d : α) (m : List (κ × α)) (k j : κ) (v : α) :
    Sparse.getD d (Sparse.setD d m k v) j = if j = k then v else Sparse.getD d m j := by
  unfold Sparse.getD Sparse.setD
  by_cases hv : v = d
  · simp only [hv, if_true, Sparse.find_drop]; split <;> simp
  · simp only [hv, if_false, Sparse.find_put]; split <;> simp

/-! ### Members -/

theorem Sparse.mem_put {m : List (κ × α)} {k : κ} {v : α} {e : κ × α} (h : e ∈ Sparse.put m k v) :
    e = (k, v) ∨ e ∈ m := by
  induction m with
  | nil => simpa [Sparse.put] using h
  | cons f rest ih =>
    obtain ⟨a, w⟩ := f
    unfold Sparse.put at h
    split at h
    · simpa using h
    · split at h
      · rcases List.mem_cons.1 h with h | h
        · exact .inl h
        · exact .inr (List.mem_cons_of_mem _ h)
      · rcases List.mem_cons.1 h with h | h
        · exact .inr (h ▸ List.mem_cons_self ..)
        · exact (ih h).imp id (List.mem_cons_of_mem _)

theorem Sparse.mem_drop {m : List (κ × α)} {k : κ} {e : κ × α} : e ∈ Sparse.drop m k ↔ e ∈ m ∧ e.1 ≠ k := by
  simp [Sparse.drop]

/-- A read finds a listed entry. -/
theorem Sparse.mem_of_find {m : List (κ × α)} {k : κ} {v : α} (h : Sparse.find m k = some v) : (k, v) ∈ m := by
  induction m with
  | nil => simp [Sparse.find] at h
  | cons e rest ih =>
    obtain ⟨a, w⟩ := e
    unfold Sparse.find at h
    split at h
    · rename_i hk; subst hk; cases h; exact List.mem_cons_self ..
    · exact List.mem_cons_of_mem _ (ih h)

/-! ### The canonical form -/

/-- Keys strictly rising, pair by pair. -/
theorem Sparse.rising_iff (m : List (κ × α)) : Sparse.rising m = true ↔ m.Pairwise (fun a b => a.1 < b.1) := by
  induction m with
  | nil => simp [Sparse.rising]
  | cons e rest ih =>
    cases rest with
    | nil => simp [Sparse.rising]
    | cons f rest =>
      obtain ⟨a, v⟩ := e
      obtain ⟨b, w⟩ := f
      simp only [Sparse.rising, Bool.and_eq_true, decide_eq_true_eq, ih]
      constructor
      · rintro ⟨hab, hp⟩
        refine List.pairwise_cons.2 ⟨fun g hg => ?_, hp⟩
        rcases List.mem_cons.1 hg with hg | hg
        · subst hg; exact hab
        · exact lt_trans hab ((List.pairwise_cons.1 hp).1 g hg)
      · intro hp
        have := List.pairwise_cons.1 hp
        exact ⟨this.1 (b, w) (List.mem_cons_self ..), this.2⟩

/-- In a table of rising keys a listed entry is what a read finds. -/
theorem Sparse.find_of_mem {m : List (κ × α)} (hm : Sparse.rising m = true) {k : κ} {v : α} (h : (k, v) ∈ m) :
    Sparse.find m k = some v := by
  rw [Sparse.rising_iff] at hm
  induction m with
  | nil => simp at h
  | cons e rest ih =>
    obtain ⟨a, w⟩ := e
    have hp := List.pairwise_cons.1 hm
    rcases List.mem_cons.1 h with h | h
    · cases h; simp [Sparse.find]
    · have : a < k := hp.1 _ h
      simp [Sparse.find, (ne_of_lt this).symm, ih hp.2 h]

theorem Sparse.rising_filter {m : List (κ × α)} (h : Sparse.rising m = true) (p : κ × α → Bool) :
    Sparse.rising (m.filter p) = true := by
  rw [Sparse.rising_iff] at *
  exact h.sublist List.filter_sublist

theorem Sparse.rising_drop {m : List (κ × α)} (h : Sparse.rising m = true) (k : κ) :
    Sparse.rising (Sparse.drop m k) = true := Sparse.rising_filter h _

theorem Sparse.rising_put {m : List (κ × α)} (h : Sparse.rising m = true) (k : κ) (v : α) :
    Sparse.rising (Sparse.put m k v) = true := by
  rw [Sparse.rising_iff] at *
  induction m with
  | nil => simp [Sparse.put]
  | cons e rest ih =>
    obtain ⟨a, w⟩ := e
    have hp := List.pairwise_cons.1 h
    unfold Sparse.put
    split
    · rename_i hk
      refine List.pairwise_cons.2 ⟨fun g hg => ?_, h⟩
      rcases List.mem_cons.1 hg with hg | hg
      · subst hg; exact hk
      · exact lt_trans hk (hp.1 g hg)
    · rename_i hk
      split
      · rename_i hka; subst hka; exact List.pairwise_cons.2 ⟨hp.1, hp.2⟩
      · rename_i hka
        refine List.pairwise_cons.2 ⟨fun g hg => ?_, ih hp.2⟩
        rcases Sparse.mem_put hg with hg | hg
        · subst hg; exact lt_of_le_of_ne (not_lt.1 hk) (Ne.symm hka)
        · exact hp.1 g hg

theorem Sparse.canonical_filter [DecidableEq α] {d : α} {m : List (κ × α)} (h : Sparse.canonical d m = true)
    (p : κ × α → Bool) : Sparse.canonical d (m.filter p) = true := by
  simp only [Sparse.canonical, Bool.and_eq_true, List.all_eq_true] at *
  exact ⟨Sparse.rising_filter h.1 p, fun e he => h.2 e (List.mem_filter.1 he).1⟩

/-- Every write of a table with a default keeps the canonical form. -/
theorem Sparse.canonical_setD [DecidableEq α] {d : α} {m : List (κ × α)} (h : Sparse.canonical d m = true) (k : κ) (v : α) :
    Sparse.canonical d (Sparse.setD d m k v) = true := by
  unfold Sparse.setD
  split
  · exact Sparse.canonical_filter h _
  · rename_i hv
    simp only [Sparse.canonical, Bool.and_eq_true, List.all_eq_true] at *
    refine ⟨Sparse.rising_put h.1 k v, fun e he => ?_⟩
    rcases Sparse.mem_put he with he | he
    · subst he; simpa using hv
    · exact h.2 e he

end Sys2Proof.Machine
end

