-- ==== Sys2Proof/Laws/Memory.lean ====
section
/-! SUPPORT. Asset memory and frame buffers: reading after writing, and the canonical form under every operation. -/

namespace Sys2Proof.Machine

/-! ### Asset memory -/

/-- A store of one byte is read back at its address and nowhere else. -/
theorem Memory.read_write (m : List Host.Cell) (a c : Nat) (b : Byte) :
    Memory.read (Memory.write m a b) c = if c = a then b else Memory.read m c := Sparse.getD_setD ..

theorem Memory.wf_write {m : List Host.Cell} (h : Memory.wf m = true) (a : Nat) (b : Byte) :
    Memory.wf (Memory.write m a b) = true := Sparse.canonical_setD h a b

theorem Memory.wf_clearPage {m : List Host.Cell} (h : Memory.wf m = true) (page : Nat) :
    Memory.wf (Memory.clearPage m page) = true := Sparse.canonical_filter h _

/-- What filling a page with zeros does to a read. -/
theorem Memory.read_clearPage (m : List Host.Cell) (page a : Nat) :
    Memory.read (Memory.clearPage m page) a = if a / pageSize = page then 0 else Memory.read m a := by
  unfold Memory.read Memory.clearPage Sparse.getD
  induction m with
  | nil => simp [Sparse.find]
  | cons e rest ih =>
    obtain ⟨k, v⟩ := e
    by_cases hk : k / pageSize = page
    · by_cases ha : a = k
      · subst ha; simpa [List.filter_cons, hk, Sparse.find] using ih
      · simpa [List.filter_cons, hk, Sparse.find, ha] using ih
    · by_cases ha : a = k
      · subst ha; simp [hk, Sparse.find]
      · simpa [List.filter_cons, hk, Sparse.find, ha] using ih

theorem Memory.wf_store {m : List Host.Cell} (h : Memory.wf m = true) (a : Nat) (l : List Byte) :
    Memory.wf (Memory.store m a l) = true := by
  induction l generalizing m a with
  | nil => exact h
  | cons b rest ih => exact ih (Memory.wf_write h a b) (a + 1)

theorem touchPage_wf {m : List Host.Cell} (h : Memory.wf m = true) (pages : List LoadPage) (k : Nat) :
    Memory.wf (touchPage m pages k).1 = true := by
  unfold touchPage
  split
  · exact h
  · split
    · exact h
    · exact Memory.wf_clearPage h _

theorem storeAssetByte_wf {m : List Host.Cell} (h : Memory.wf m = true) (pages : List LoadPage) (i : Nat) (b : Byte) :
    Memory.wf (storeAssetByte m pages i b) = true := by
  unfold storeAssetByte
  split
  · exact h
  · exact Memory.wf_write h _ _

theorem storeAsset_wf {m : List Host.Cell} (h : Memory.wf m = true) (pages : List LoadPage) (o : Nat) (l : List Byte) :
    Memory.wf (storeAsset m pages o l).1 = true := by
  induction l generalizing m pages o with
  | nil => exact h
  | cons b rest ih => exact ih (storeAssetByte_wf (touchPage_wf h ..) ..) _ _

/-- An aperture write keeps the canonical form of asset memory. -/
theorem State.apertureWrite_wf {s : State} (h : Memory.wf s.assets.memory = true) (o : Nat) (l : List Byte) :
    Memory.wf (s.apertureWrite o l).assets.memory = true := by
  unfold State.apertureWrite
  simp only
  split
  · unfold AssetMap.recordFault State.raiseContent
    simp only
    split <;> exact h
  · split
    · exact h
    · exact storeAsset_wf h ..

/-- Reset leaves asset memory in its canonical form, with nothing listed. -/
theorem reset_memory_wf : Memory.wf State.reset.assets.memory = true := by decide

/-! ### Frame buffers -/

/-- The key of a pixel tells its row and column, while columns stay below 4096. -/
theorem pixelKey_inj {x y u v : Nat} (hx : x < 4096) (hu : u < 4096) : pixelKey x y = pixelKey u v ↔ x = u ∧ y = v := by
  unfold pixelKey; omega

/-- A write to a frame buffer is read back at its pixel and nowhere else. -/
theorem FrameBuffer.read_write (b : FrameBuffer) (x y u v : Nat) (c : Rgb) (hx : x < 4096) (hu : u < 4096) :
    (b.write x y c).read u v = if u = x ∧ v = y then c else b.read u v := by
  unfold FrameBuffer.read FrameBuffer.write
  by_cases h : u = x ∧ v = y
  · obtain ⟨rfl, rfl⟩ := h
    simp [Sparse.getD_setD]
  · have hk : pixelKey u v ≠ pixelKey x y := fun e => h ((pixelKey_inj hu hx).1 e)
    simp only [h, if_false, Sparse.getD, Sparse.setD]
    split
    · rw [Sparse.find_drop_ne _ hk]
    · rw [Sparse.find_put_ne _ _ hk]

/-- A blended pixel: inside the panel it takes the blend, outside it nothing is written. -/
theorem FrameBuffer.read_blendAt (b : FrameBuffer) (clip : Clip) (x y u v : Nat) (src : Rgb) (a : Nat)
    (hc : clip.width ≤ 4096) (hu : u < 4096) :
    (b.blendAt clip x y src a).read u v =
      if u = x ∧ v = y ∧ x < clip.width ∧ y < clip.height then blend src (b.read x y) a else b.read u v := by
  unfold FrameBuffer.blendAt
  split
  · rename_i h
    rw [FrameBuffer.read_write b x y u v _ (by omega) hu]
    simp [h]
  · rename_i h
    rw [if_neg]
    rintro ⟨-, -, h1, h2⟩
    exact h ⟨h1, h2⟩

end Sys2Proof.Machine
end

