-- ==== Sys2Proof/Laws/Ops.lean ====
section
/-! SUPPORT. What the shared operations can do, said once for each: the tables read back after a write, the blocks that a
suspension, a repair request and a body read leave alone, asset references, and how a content command ends. -/

namespace Sys2Proof.Machine

/-! ### Tables read back -/

theorem PriceTable.item_putItem (t : PriceTable) (i j : ItemIndex) (it : Item) :
    (t.putItem i it).item j = if j = i then some it else t.item j := Sparse.find_put t.items i j it

theorem Nva.slotState_setSlotState (n : Nva) (k j : SlotId) (st : SlotState) :
    (n.setSlotState k st).slotState j = if j = k then st else n.slotState j :=
  Sparse.getD_setD _ _ _ _ _

theorem Nva.slot_setSlot (n : Nva) (k j : SlotId) (v : NvSlot) :
    (n.setSlot k v).slot j = if j = k then v else n.slot j := Sparse.getD_setD _ _ _ _ _

theorem AssetMap.entry_setEntry (m : AssetMap) (h g : Handle) (e : AssetEntry) :
    (m.setEntry h e).entry g = if g = h then e else m.entry g := Sparse.getD_setD _ _ _ _ _

/-! ### What a report can change -/

/-- `t` differs from `s` in the suspended set, in the two summaries and in what a raised flag does to the interrupt. -/
structure Reports (s t : State) : Prop where
  eq : t = { s with
    checker := { s.checker with suspended := t.checker.suspended },
    link := { s.link with summary := t.link.summary },
    port := { s.port with summary := t.port.summary, armed := t.port.armed, messages := t.port.messages } }

theorem Reports.refl (s : State) : Reports s s := ⟨rfl⟩

theorem Reports.trans {s t u : State} (a : Reports s t) (b : Reports t u) : Reports s u := by
  constructor
  have h := b.eq
  rw [a.eq] at h
  exact h

theorem State.raiseBoth_reports (s : State) (p : PosFlag) (c : ContentFlag) : Reports s (s.raiseBoth p c) := ⟨rfl⟩

theorem State.setSuspended_reports (s : State) (set : List (Nat × SuspendReason)) : Reports s (s.setSuspended set) := ⟨rfl⟩

theorem State.suspend_reports (s : State) (code : Nat) (r : SuspendReason) : Reports s (s.suspend code r) :=
  s.setSuspended_reports _

theorem State.unsuspend_reports (s : State) (code : Nat) : Reports s (s.unsuspend code) := by
  unfold State.unsuspend
  split
  · exact s.setSuspended_reports _
  · exact .refl s

theorem State.suspendMismatch_reports (s : State) (code : Nat) : Reports s (s.suspendMismatch code) := by
  unfold State.suspendMismatch
  split
  · exact .refl s
  · split
    · exact s.suspend_reports _ _
    · exact .refl s

theorem State.suspendParity_reports (s : State) (code : Nat) : Reports s (s.suspendParity code) := by
  unfold State.suspendParity
  split
  · exact .refl s
  · exact .refl s
  · exact s.suspend_reports _ _
  · exact s.suspend_reports _ _

theorem State.unsuspendRestored_reports (s : State) (code : Nat) : Reports s (s.unsuspendRestored code) := by
  unfold State.unsuspendRestored
  split
  · exact s.setSuspended_reports _
  all_goals exact .refl s

theorem State.markUnrepairable_reports (s : State) (i : ItemIndex) : Reports s (s.markUnrepairable i) := by
  unfold State.markUnrepairable
  split
  · exact .refl s
  · split
    · exact .refl s
    all_goals exact s.suspend_reports _ _

/-! ### What a body read can change -/

/-- `t` differs from `s` in the table, in the array's bookkeeping, and as a report may. -/
structure ReadsBodies (s t : State) : Prop where
  eq : t = { s with
    table := t.table, nva := t.nva,
    checker := { s.checker with suspended := t.checker.suspended },
    link := { s.link with summary := t.link.summary },
    port := { s.port with summary := t.port.summary, armed := t.port.armed, messages := t.port.messages } }

theorem ReadsBodies.refl (s : State) : ReadsBodies s s := ⟨rfl⟩

theorem ReadsBodies.trans {s t u : State} (a : ReadsBodies s t) (b : ReadsBodies t u) : ReadsBodies s u := by
  constructor
  have h := b.eq
  rw [a.eq] at h
  exact h

theorem Reports.readsBodies {s t : State} (h : Reports s t) : ReadsBodies s t := by
  constructor
  rw [h.eq]

theorem State.putItem_reads (s : State) (i : ItemIndex) (it : Item) : ReadsBodies s (s.putItem i it) := ⟨rfl⟩

theorem State.logFault_reads (s : State) (f : FaultEntry) : ReadsBodies s (s.logFault f) := ⟨rfl⟩

theorem State.requestRepair_reads (s : State) (i : ItemIndex) : ReadsBodies s (s.requestRepair i) := by
  unfold State.requestRepair
  have a : ReadsBodies s { s with nva := s.nva.takeRepair i } := ⟨rfl⟩
  dsimp only
  split
  · exact a.trans (State.markUnrepairable_reports _ i).readsBodies
  · exact a

theorem State.parityFailure_reads (s : State) (i : ItemIndex) (it : Item) : ReadsBodies s (s.parityFailure i it) :=
  ((s.putItem_reads i _).trans (State.suspendParity_reports _ _).readsBodies).trans (State.requestRepair_reads _ i)

theorem State.readBody_reads (s : State) (i : ItemIndex) : ReadsBodies s (s.readBody i) := by
  unfold State.readBody
  split
  · exact .refl s
  · split
    · exact s.parityFailure_reads i _
    · exact .refl s

theorem State.upset_reads (s : State) (i : ItemIndex) : ReadsBodies s (s.upset i) := by
  unfold State.upset
  split
  · exact .refl s
  · exact s.putItem_reads i _

theorem State.upsets_reads (l : List ItemIndex) (s : State) : ReadsBodies s (s.upsets l) := by
  induction l generalizing s with
  | nil => exact .refl s
  | cons i l ih => exact (s.upset_reads i).trans (ih (s.upset i))

/-! ### Asset references -/

theorem AssetMap.entry_acquire_ne (m : AssetMap) {h g : Handle} (hg : g ≠ h) : (m.acquire h).entry g = m.entry g := by
  unfold AssetMap.acquire
  split <;> simp [AssetMap.entry_setEntry, hg]

theorem AssetMap.entry_release_ne (m : AssetMap) {h g : Handle} (hg : g ≠ h) : (m.release h).entry g = m.entry g := by
  unfold AssetMap.release
  split
  · simp [AssetMap.entry_setEntry, hg]
  · split <;> simp [AssetMap.entry_setEntry, hg]
  all_goals rfl

theorem AssetMap.acquire_ready {m : AssetMap} {h : Handle} {g : Geometry} {pages : List Nat} {n : Nat}
    (e : m.entry h = .ready g pages n) : (m.acquire h).entry h = .ready g pages (n + 1) := by
  simp [AssetMap.acquire, e, AssetMap.entry_setEntry]

/-! ### How a content command ends -/

theorem State.takeCommand_loading {s : State} {code : Byte} (h : s.nva.loading = true) (hc : code ≠ 0x41) (go : BitVec 32)
    (owner : State → CommandResult) :
    s.takeCommand code go owner = (s.tagged go).completed code go .loading [] := by
  have : (s.tagged go).nva.loading = true ∧ code ≠ 0x41 := ⟨h, hc⟩
  simp only [State.takeCommand, if_pos this, refuse, CommandResult.complete]

theorem State.takeCommand_owner {s : State} {code : Byte} (h : s.nva.loading = false ∨ code = 0x41) (go : BitVec 32)
    (owner : State → CommandResult) :
    s.takeCommand code go owner =
      (owner (s.tagged go)).state.completed code go (owner (s.tagged go)).status (owner (s.tagged go)).answer := by
  rcases h with h | h <;> simp [State.takeCommand, h, CommandResult.complete]

/-! ### What a panel is sent, and a tile with no upset -/

theorem FrameEngine.frontIndex_ne_backIndex (e : FrameEngine) (p q : Fin 4) : e.frontIndex p ≠ e.backIndex q := by
  intro h
  have hv : 2 * p.val + (if e.outputs[p].frontOdd then 1 else 0) = 2 * q.val + (if e.outputs[q].frontOdd then 0 else 1) :=
    congrArg Fin.val h
  have hp : p = q := by
    apply Fin.ext
    split at hv <;> split at hv <;> omega
  subst hp
  split at hv <;> omega

/-- A panel is sent the same where its output, its front buffer and its installed resolution are the same. -/
theorem State.outputPixel_congr {s t : State} {p : Fin 4} (ho : t.engine.outputs[p] = s.engine.outputs[p])
    (hb : t.engine.buffers[s.engine.frontIndex p] = s.engine.buffers[s.engine.frontIndex p])
    (hr : t.panel.panels[p].installed = s.panel.panels[p].installed) (x y : Nat) :
    t.outputPixel p x y = s.outputPixel p x y := by
  have hf : t.engine.frontIndex p = s.engine.frontIndex p := by
    unfold FrameEngine.frontIndex
    simp only [ho]
  simp only [State.outputPixel, State.clip, hf, hb, hr, ho]
  rfl

/-- Drawing into a back buffer changes no panel's output. -/
theorem State.outputPixel_onBack (s : State) (q : Fin 4) (f : FrameBuffer → FrameBuffer) (p : Fin 4) (x y : Nat) :
    (s.onBack q f).outputPixel p x y = s.outputPixel p x y := by
  refine State.outputPixel_congr (s := s) (t := s.onBack q f) (p := p) rfl ?_ rfl x y
  have h : (s.engine.backIndex q).val ≠ (s.engine.frontIndex p).val :=
    fun e => s.engine.frontIndex_ne_backIndex p q (Fin.ext e.symm)
  exact Vector.getElem_set_ne (s.engine.backIndex q).isLt (s.engine.frontIndex p).isLt h

@[simp] theorem formTileUpset_none (st : Style) (two : Bool) (tile : Box) (r : TileRequest) :
    formTileUpset st two tile r none = formTile st two tile r := by
  cases r <;> rfl

end Sys2Proof.Machine
end

