-- ==== Sys2Proof/Tests/Slice0.lean ====
section
/-! SUPPORT. Tests of the model: ill-formed commands refused, the spec's worked cases, and one witness for each statement
that has hypotheses. Expected values come from the spec's own examples and tables. -/

namespace Sys2Proof.Tests

open Sys2Proof Sys2Proof.Machine

/-! ### Ill-formed commands, one for each check of WellFormed -/

theorem test_payload_of_65_bytes_refused : (Instr.status .addressed (zeros 65)).wellFormed = false := by decide

theorem test_incomplete_frame_refused : (Instr.frameDropped [3, 1, 2, 0]).wellFormed = false := by decide

theorem test_known_kind_refused_as_unknown : (Instr.unknownKind .addressed 0x12 []).wellFormed = false := by decide

theorem test_answer_kind_refused_as_unknown : (Instr.unknownKind .addressed 0x80 []).wellFormed = false := by decide

/-- A broadcast with a correct CRC is dropped at no unit. -/
theorem test_accepted_frame_refused_as_dropped :
    (Instr.frameDropped (([0, 0x08, 0] : List Byte) ++ beBytes 2 (crc16 [0, 0x08, 0]).toNat)).wellFormed = false := by
  decide +kernel

theorem test_aperture_write_over_4k_refused : (Instr.apertureWrite 4092 (zeros 8)).wellFormed = false := by decide

theorem test_summary_read_elsewhere_refused : (Instr.summaryWordRead 0x4000018 4).wellFormed = false := by decide

theorem test_load_fault_read_of_two_bytes_refused : (Instr.loadFaultRecordRead 0x4000018 2).wellFormed = false := by decide

theorem test_go_word_refused_as_register_write : (Instr.registerWrite 0x4000010 (zeros 4)).wellFormed = false := by decide

theorem test_register_write_in_aperture_refused : (Instr.registerWrite 0x3FFFFFC (zeros 4)).wellFormed = false := by decide

theorem test_aperture_write_of_no_bytes_or_257_refused :
    (Instr.apertureWrite 0 []).wellFormed = false ∧ (Instr.apertureWrite 0 (zeros 257)).wellFormed = false := by
  decide +kernel

theorem test_unknown_kind_of_65_bytes_refused : (Instr.unknownKind .addressed 0x13 (zeros 65)).wellFormed = false := by decide

theorem test_oversize_frame_refused : (Instr.frameDropped ([3, 1, 65] ++ zeros 67)).wellFormed = false := by decide

theorem test_price_upset_past_its_range_refused :
    (Instr.composeLayer ⟨[], ⟨some (1000000, false), none⟩⟩).wellFormed = false := by decide

theorem test_string_upset_of_no_glyph_or_a_wrong_one_refused :
    (Instr.composeLayer ⟨[], ⟨none, some []⟩⟩).wellFormed = false ∧
      (Instr.composeLayer ⟨[], ⟨none, some [14]⟩⟩).wellFormed = false ∧
      (Instr.composeLayer ⟨[], ⟨none, some (List.replicate 10 1)⟩⟩).wellFormed = false := by decide

theorem test_known_code_refused_as_unknown : (Instr.unknownCommand 0 0x42).wellFormed = false := by decide

/-! ### Worked cases of the spec -/

/-- "123456789". -/
def checkString : List Byte := [0x31, 0x32, 0x33, 0x34, 0x35, 0x36, 0x37, 0x38, 0x39]

/-- R31 and R158 name the check values of their codes. -/
theorem test_crc_check_values : crc32 checkString = 0xCBF43926#32 ∧ crc16 checkString = 0x29B1#16 := by decide +kernel

/-- Promotion 7 of 1.8.1. -/
def promo7 : Promotion := { enabled := true, kind := .percent, value := 20, mask := 3 }

/-- The rules of 1.8.1. -/
def rules825 : Rules :=
  { taxMode := .inclusive, taxRate := 825, step := 5, rounding := .nearest, twoDigits := true, defaultDaypart := 1 }

/-- Item 4102 of 1.8.1. -/
def body4102 : ItemBody := { price := #v[none, some 549, none, none], promo := some 7 }

/-- The promotions of 1.8.1. -/
def promos : Vector Promotion 32 := (Vector.replicate 32 Promotion.standard).set 7 promo7

/-- 1.8.1 and 1.8.2: 475; 480 with step 10; 440 under EXCLUSIVE, step 10, UP; nothing in daypart 2. -/
theorem test_shown_price_worked :
    shownPrice promos rules825 body4102 1 = (some 475, false) ∧
      shownPrice promos { rules825 with step := 10 } body4102 1 = (some 480, false) ∧
      shownPrice promos { rules825 with taxMode := .exclusive, step := 10, rounding := .up } body4102 1 = (some 440, false) ∧
      shownPrice promos rules825 body4102 2 = (none, false) := by decide

/-- 1.8.3: the whole-unit currency. -/
theorem test_shown_price_whole_units :
    shownPrice ((Vector.replicate 32 Promotion.standard).set 3 { enabled := true, kind := .amount, value := 2000, mask := 15 })
      { rules825 with taxRate := 1000, step := 100, rounding := .down, twoDigits := false }
      { price := #v[some 14500, none, none, none], promo := some 3 } 0 = (some 13700, false) := by decide

/-- The style of the first rows of 5.6.1. -/
def style1 : Style := { Style.standard with font := some 0, cw := 24, ch := 48, grouping := .comma }

/-- 5.6.1, rows 2, 5, 7, 10 and 11. -/
theorem test_strings_formed :
    priceString { style1 with minor := .trimZero } true 500 = [12, 5] ∧
      priceString style1 true 0 = [12, 0, 10, 0, 0] ∧
      priceString style1 true 123456 = [12, 1, 11, 2, 3, 4, 10, 5, 6] ∧
      priceString style1 false 999999 = [12, 9, 9, 9, 11, 9, 9, 9] ∧
      priceString { style1 with symbol := .after, mark := .comma, grouping := .point } false 100000 =
        [1, 0, 0, 10, 0, 0, 0, 12] := by decide

/-- The tile of 5.8.1. -/
def tile581 : Box := { x := 100, y := 40, w := 200, h := 80 }

/-- 5.8.1: the placed price, its dashes, and a tile too small for either. -/
theorem test_placing_one_price :
    (formTile style1 true tile581 (.price 475)).box = { x := 180, y := 56, w := 120, h := 48 } ∧
      formTile style1 true tile581 (.price 123456) =
        { glyphs := [13, 13, 13], box := { x := 228, y := 56, w := 72, h := 48 }, reason := .overflow, overflow := true } ∧
      formTile style1 true { tile581 with w := 60 } (.price 123456) =
        { glyphs := [], box := { x := 100, y := 40, w := 0, h := 0 }, reason := .overflow, overflow := true } := by decide

/-- 5.9.1 and 8.7.2: the glyph pixel, the 5-6-5 widening, the blends and the dimming. -/
theorem test_pixels_worked :
    glyphAlpha 200 128 255 = 100 ∧ blendChannel 255 40 100 = 124 ∧ widen5 20 = 165 ∧ widen6 40 = 162 ∧ widen5 10 = 82 ∧
      blend { red := 255, green := 200, blue := 0 } { red := 165, green := 162, blue := 82 } 128 =
        { red := 210, green := 181, blue := 41 } ∧
      (dimColour { red := 165, green := 0, blue := 0 } 96).red = 62 := by decide

/-- A panel unit whose panel 0 is enabled, with the last ambient code given. -/
def lit (ambient : Nat) : PanelUnit :=
  { panels := (Vector.replicate 4 PanelRecord.standard).set 0 { PanelRecord.standard with
      installed := { enable := true, resolution := .w1280h720 }, lastAmbient := ambient },
    scanPosition := 7, conversion := none }

/-- 10.4.1: the targets of the default curve. -/
theorem test_targets_worked :
    ((lit 0).frameStart.panels[0]).target = 200 ∧ ((lit 128).frameStart.panels[0]).target = 325 ∧
      ((lit 300).frameStart.panels[0]).target = 490 ∧ ((lit 640).frameStart.panels[0]).target = 800 ∧
      ((lit 1023).frameStart.panels[0]).target = 1000 := by decide

/-! ### States that meet the statements' hypotheses -/

/-- The part with its load done. -/
def up : State := { State.reset with nva := { State.reset.nva with loading := false } }

/-- The part listening for a frame. -/
def ready : State := up.setReceiver .ready

/-- The part holding an answer. -/
def answering (a : Answer) : State := { up with link := { up.link with answer := some a } }

/-- The part while it sends an answer of a kind. -/
def sending (kind : Byte) : State := answering ⟨kind, [0], true⟩

/-- The part with a commit record in a state, its entries one promotion. -/
def committing (state : CommitState) : State :=
  up.withCommit (some { state := state, entries := if state = .checking then [] else [.promoSet 7 promo7], hold := true,
                        digest := 0 })

/-- An item of the table, as the load leaves it. -/
def stocked (code : Nat) (body : ItemBody) : Item := ⟨code, body, false, .good, .available⟩

/-- The part with a table. -/
def stock (items : List (ItemIndex × Item)) : State :=
  { up with table := { items := items, promos := promos, rules := rules825, pendingAvail := [] } }

/-- The part with item 4102 at index 0. -/
def shop : State := stock [(0, stocked 4102 body4102)]

/-- The part with item 4102 in another condition. -/
def shopWith (health : Health) (fails : Bool) : State :=
  stock [(0, { stocked 4102 body4102 with health := health, parityFails := fails })]

/-- The part with item 4102 in the suspended set. -/
def suspendedShop (r : SuspendReason) : State := { shop with checker := { shop.checker with suspended := [(4102, r)] } }

/-- The geometry of an 8 by 8 photo. -/
def photo8 : Geometry := { format := .rgb565, width := 8, height := 8, stride := 16 }

/-- The geometry of the font of `style1`. -/
def font24 : Geometry := { format := .a8, width := 336, height := 48, stride := 336 }

/-- The part with asset 1 LOADING in window 0, asset 2 a READY photo and asset 3 a READY font. -/
def loaded : State := { up with assets := { up.assets with
  entries := [(0, .loading photo8 [{ page := 1024, touched := false }]), (1, .ready photo8 [1025] 0),
              (2, .ready font24 [1026] 0)],
  windows := (Vector.replicate 4 none).set 0 (some 0) } }

/-- A FILL layer over the whole panel. -/
def fillLayer : Layer :=
  { x := 0, y := 0, w := 2, h := 2, alpha := 255, mask := 15, soldOut := .always, code := none,
    content := .fill Rgb.black }

/-- A PRICE layer of item 4102 in style 0. -/
def priceLayer : Layer :=
  { x := 100, y := 40, w := 200, h := 80, alpha := 255, mask := 15, soldOut := .hide, code := some 4102,
    content := .price 0 }

/-- A scene of some layers. -/
def sceneOf (layers : List Layer) : Scene := { background := Rgb.black, dim := 96, layers := layers }

/-- The scenes of a part whose panel 0 shows some layers. -/
def showing (layers : List Layer) : SceneUnit :=
  { panels := (Vector.replicate 4 ⟨none, none, none⟩).set 0 ⟨none, none, some (sceneOf layers)⟩ }

/-- A state whose panel 0 is lit, shows a scene, and whose job stands somewhere. -/
def working (s : State) (layers : List Layer) (job : Job) : State :=
  { s with scenes := showing layers, panel := lit 0, engine := { s.engine with job := job } }

/-- The shown record of item 4102 in the tile of 5.8.1. -/
def record4102 : ShownRecord :=
  { panel := 0, layer := 0, code := 4102, daypart := 0, price := some 475, clamped := false,
    glyphs := [12, 4, 10, 7, 5], reason := .none, box := { x := 180, y := 56, w := 120, h := 48 }, mark := none }

/-- A state with that record in the shown list. -/
def judging (s : State) (job : Job) : State := { s with engine := { s.engine with job := job, shown := [record4102] } }

/-! ### Steps worked in the spec -/

/-- The table of 2.6: 180 items, 4102 at index 12 and 3301 at index 57. -/
def lane : State := stock ((List.finRange 180).map (fun k =>
  (k.castLE (by omega), stocked (if k.val = 12 then 4102 else if k.val = 57 then 3301 else 1000 + k.val) body4102)))

/-- The staged entries of 2.6. -/
def laneEntries : List StagedEntry :=
  [.promoSet 7 { promo7 with value := 25 }, .itemRemove 3301,
   .itemSet 4102 { body4102 with price := #v[none, some 569, none, none] },
   .itemSet 5010 { price := #v[none, some 299, none, none], promo := none }]

/-- The change of 2.6, PENDING over commit number 41. -/
def laneChange : State :=
  let s := lane.withCommit (some ⟨.pending, laneEntries, true, 0⟩)
  { s with stager := { s.stager with commitNumber := 41 } }

/-- 2.6.1: the write queue 520, 57, 12; item 5010 at index 57; commit number 42. -/
theorem test_apply_worked :
    laneChange.applyCommit.nva.queue = [520, 57, 12] ∧ laneChange.applyCommit.table.indexOf 5010 = some 57 ∧
      laneChange.applyCommit.table.has 3301 = false ∧ laneChange.applyCommit.stager.commitNumber = 42 := by decide +kernel

/-- 2.6: the new shown prices, 4.60 and 3.25. -/
theorem test_apply_worked_prices :
    let t := laneChange.applyCommit.table
    (t.item 12).map (fun it => shownPrice t.promos t.rules it.body 1) = some (some 460, false) ∧
      (t.item 57).map (fun it => shownPrice t.promos t.rules it.body 1) = some (some 325, false) := by decide +kernel

/-- 9.4: the string with which the self-test replaces 4.60. -/
theorem test_self_test_string : dashLast [12, 4, 10, 6, 0] = [12, 4, 10, 6, 13] := by decide

/-! ### A witness for each statement that has hypotheses -/

theorem witness_PowerOnResetLeaves : up.nva.writes 0 = false := by decide

/-- A state that builds a scene of one photo of asset 2, which is RETIRING with some references. -/
def retiring (n : Nat) : State := { up with
  assets := { up.assets with entries := [(1, .retiring photo8 [1025] n)] },
  scenes := ⟨(Vector.replicate 4 ⟨none, none, none⟩).set 3 ⟨some (sceneOf [{ fillLayer with content := .photo 1 }]), none, none⟩⟩ }

theorem witness_LinkResetClearsContentSideOnly :
    Sparse.rising loaded.assets.entries = true ∧ (loaded.assets.entry 0).isLoading = true ∧
      loaded.assets.entry 1 = .ready photo8 [1025] 0 ∧ loaded.assets.entry 9 = .empty ∧
      (retiring 1).assets.entry 1 = .retiring photo8 [1025] 1 ∧ (retiring 2).assets.entry 1 = .retiring photo8 [1025] 2 ∧
      ((retiring 1).scenes.panels.toList.flatMap (fun v => sceneNames v.building)).count 1 = 1 ∧
      Sparse.rising (retiring 1).assets.entries = true := by decide +kernel

theorem witness_ReceiverMovesByByteAndQuiet :
    (sending 0x81).sending = true ∧ up.sending = false ∧ up.link.receiver = .waitIdle ∧ ready.sending = false ∧
      ready.link.receiver = .ready ∧
      (∀ bytes : List Byte, bytes ∈ ([[1], [1, 1], [1, 1, 64], [1, 1, 1, 0]] : List (List Byte)) →
        (ready.setReceiver (.assembling bytes)).sending = false ∧
        (ready.setReceiver (.assembling bytes)).link.receiver = .assembling bytes) ∧
      64 < (65#8).toNat ∧ (64#8).toNat ≤ 64 ∧ [1#8, 1#8, 64#8].length + 1 ≠ byteAt [1#8, 1#8, 64#8] 2 + 5 ∧
      byteAt [1#8, 1#8, 64#8] 2 ≤ 64 ∧ [1#8, 1#8, 1#8, 0#8].length + 1 ≠ byteAt [1#8, 1#8, 1#8, 0#8] 2 + 5 := by decide

theorem witness_FrameBytesTakeRequest :
    requestRow 0x02 .addressed (zeros 64) = some (.itemStage .addressed (zeros 64)) ∧ (zeros 64).length ≤ 64 ∧
      requestRow 0x08 .broadcast [] = some (.apply .broadcast []) ∧ ready.sending = false ∧
      ready.link.receiver = .ready ∧ 1 ≤ ready.link.unit ∧ ready.link.unit ≤ 31 := by decide

theorem witness_FramesThatReachNoOwner :
    up.sending = false ∧ (crc16 ([1#8, 1#8, 0#8, 0#8, 0#8].take 3)).toNat ≠ beAt [1#8, 1#8, 0#8, 0#8, 0#8] 3 2 ∧
      128 ≤ byteAt [1#8, 128#8, 0#8, 0#8, 0#8] 1 ∧ byteAt [2#8, 1#8, 0#8, 0#8, 0#8] 0 ≠ up.link.unit ∧
      byteAt [2#8, 1#8, 0#8, 0#8, 0#8] 0 ≠ 0 ∧ knownKind 0 = false ∧ knownKind 0x13 = false ∧
      knownKind 0x7F = false ∧ (0x7F#8).toNat < 128 := by decide +kernel

theorem witness_AnswerSentThenReleased :
    (sending 0x87).link.answer = some { kind := 0x87, payload := [0], sending := true } ∧
      (answering ⟨0x81, [], false⟩).link.answer = some ⟨0x81, [], false⟩ ∧ up.link.answer = none ∧ up.sending = false ∧
      ((committing (.held false)).stager.commit.map (·.state)) = some (.held false) ∧
      (sending 0x87).link.unit < 256 ∧ (zeros 255).length < 256 ∧
      (answering ⟨0x87, [], false⟩).link.answer = some ⟨0x87, [], false⟩ ∧ (sending 0x87).sending = true ∧
      (∀ c f, up.stager.commit = some c → c.state ≠ .held f) := by
  refine ⟨by decide, by decide, by decide, by decide, by decide, by decide, by decide +kernel, by decide, by decide,
    fun c f h => ?_⟩
  cases h

theorem witness_RequestTestsBeforeOwner :
    requestRow 0x0D .addressed [0, 0] = some (.timeSet .addressed [0, 0]) ∧ (sending 0x81).sending = true ∧
      State.reset.sending = false ∧ State.reset.nva.loading = true ∧ (committing .checking).checking = true ∧
      (committing .checking).sending = false ∧ requestRow 0x07 .addressed (zeros 5) = some (.commit .addressed (zeros 5)) ∧
      up.TakesRequests ∧ lengthFitsKind 0x0D [0, 0] = false := by decide

theorem witness_BroadcastActsUnanswered :
    requestRow 0x0C .broadcast [3] = some (.daypartForce .broadcast [3]) ∧
      requestRow 0x0C .addressed [3] = some (.daypartForce .addressed [3]) ∧ 0x0C ∈ broadcastKinds ∧
      lengthFitsKind 0x0C [3] = true ∧ up.sending = false ∧ up.nva.loading = false ∧ up.checking = false ∧
      requestRow 0x07 .broadcast [] = some (.commit .broadcast []) ∧
      requestRow 0x07 .addressed [] = some (.commit .addressed []) ∧ 0x07 ∉ broadcastKinds := by decide

/-- The part with its time base at the last second of the day. -/
def midnight : State := { up with daypart := { up.daypart with time := some { minute := 1439, second := 59 } } }

theorem witness_StatusReportsAndClears :
    midnight.TakesRequests ∧ midnight.stager.staging.length ≤ 64 ∧ midnight.checker.suspended.length ≤ 512 ∧
      midnight.daypart.time = some { minute := 1439, second := 59 } ∧ up.daypart.time = none := by decide

/-- R164: a flag drives ATTN low, and STATUS releases it. -/
theorem test_attn_follows_summary :
    (up.raisePos .commitExpired).attnLow = true ∧
      ((up.raisePos .commitExpired).after [.status .addressed []]).map State.attnLow = some false := by decide +kernel

/-- 64 entries, one for each of 64 codes. -/
def entries64 : List StagedEntry := (List.range 64).map (fun k => .itemRemove (k + 1))

theorem witness_StagingKeepsOneEntryPerKeyOrEmpties :
    up.TakesRequests ∧ (StagedEntry.itemSet 4102 body4102).valid = true ∧
      (up.withStaging [.itemRemove 4102]).TakesRequests ∧
      (∃ x ∈ (up.withStaging [.itemRemove 4102]).stager.staging, x.key = (StagedEntry.itemSet 4102 body4102).key) ∧
      (up.withStaging entries64).TakesRequests ∧ (up.withStaging entries64).stager.staging.length = 64 ∧
      (∀ x ∈ (up.withStaging entries64).stager.staging, x.key ≠ (StagedEntry.itemSet 4102 body4102).key) ∧
      (StagedEntry.promoSet 31 promo7).valid = true ∧ (StagedEntry.rulesSet rules825).valid = true := by decide +kernel

theorem witness_StagingRefusesEveryOtherForm :
    up.TakesRequests ∧ (zeros 16).length = 16 ∧ (zeros 2).length = 2 ∧ (zeros 6).length = 6 ∧
      (∀ code, validCode code = true → code < 65536 → zeros 2 ≠ beBytes 2 code) := by
  refine ⟨by decide, by decide, by decide, by decide, fun code h l e => ?_⟩
  have h0 : beAt (zeros 2) 0 2 = beAt (beBytes 2 code) 0 2 := by rw [e]
  simp [beAt, beBytes, leBytes, zeros, byteAt, byteOf, validCode] at h0 h
  omega

theorem witness_CommitTakenOrRefusedAtOnce :
    up.TakesRequests ∧ ([0, 0, 0, 0, 2] : List Byte).length = 5 ∧ 2 ≤ byteAt [0, 0, 0, 0, 2] 4 ∧
      byteAt [0, 0, 0, 0, 1] 4 ≤ 1 ∧ (committing .pending).TakesRequests ∧ (committing .pending).stager.commit ≠ none ∧
      (committing .checking).stager.commit ≠ none ∧ up.stager.commit = none ∧ up.stager.staging = [] ∧ (up.withStaging entries64).stager.staging ≠ [] := by
  decide +kernel

/-- The part checking a commit that removes item 4102, its digest as given, the item's body as given. -/
def checkingShop (health : Health) (digest : BitVec 32) : State :=
  ((shopWith health false).withStaging [.promoSet 7 promo7]).withCommit
    (some { state := .checking, entries := [], hold := true, digest := digest })

theorem witness_CommitCheckDecides :
    (∀ e ∈ (checkingShop .corrupt 0).table.items, e.2.health = .good → e.2.parityFails = false) ∧
      (checkingShop .corrupt 0).link.answer = none ∧
      (checkingShop .corrupt 0).table.items.filter (fun e => decide (e.2.health = .corrupt) &&
        !(checkingShop .corrupt 0).stager.staging.any (fun x => decide (x.key = .item e.2.code))) ≠ [] ∧
      (checkingShop .good 0).table.items.filter (fun e => decide (e.2.health = .corrupt)) = [] ∧
      (checkingShop .good 0).stager.staging.length = 1 := by decide +kernel

/-- The part checking a commit over a table whose item 4102 fails its parity. -/
def checkingFailing : State :=
  ((shopWith .good true).withStaging [.promoSet 7 promo7]).withCommit
    (some { state := .checking, entries := [], hold := true, digest := 0 })

theorem witness_CommitCheckDecides_failing :
    ItemsSound checkingFailing.table.items ∧ checkingFailing.link.answer = none ∧
      checkingFailing.checking = true ∧ checkingFailing.link.receiver = .waitIdle ∧
      checkingFailing.table.item 0 = some { stocked 4102 body4102 with parityFails := true } := by decide +kernel

/-- A digest that does not agree. -/
theorem witness_CommitCheckDecides_mismatch (t : PriceTable) (l : List StagedEntry) :
    commitDigest t l ≠ commitDigest t l + 1 := by
  intro h
  simp at h

/-- A table of `n` items none of which is 4102: with 512, one item more is too many. -/
theorem witness_CommitCheckDecides_full (n : Nat) : let s := stock (List.replicate n (0, stocked 1 body4102))
    (∀ e ∈ s.table.items, e.2.health = .good → e.2.parityFails = false) ∧ s.table.items.length = n ∧
      ([StagedEntry.itemSet 4102 body4102].take 1).foldl (runningCount s.table) s.table.items.length = n + 1 := by
  refine ⟨fun e h _ => ?_, by simp [stock], ?_⟩
  · rw [List.eq_of_mem_replicate h]; rfl
  · simp [stock, runningCount, PriceTable.has, PriceTable.indexOf, stocked]

theorem witness_CheckedTableIsAppliedTable : RecordsSound (committing .pending) ∧
    ((committing .pending).stager.commit.map (·.state)) = some .pending ∧
    ItemsSound shop.table.items ∧ (∀ i : Fin 32, shop.table.promos[i].valid = true) ∧ shop.table.rules.valid = true ∧
    EntriesSound [.promoSet 7 promo7] ∧
    (∀ k ≤ 1, (([.promoSet 7 promo7] : List StagedEntry).take k).foldl (runningCount (committing .pending).table)
      (committing .pending).table.items.length ≤ 512) := by
  refine ⟨⟨by decide, by decide +kernel, by decide, ?_⟩, by decide, by decide +kernel, by decide +kernel, by decide,
    by decide, by decide⟩
  intro c h
  have : c = { state := .pending, entries := [.promoSet 7 promo7], hold := true, digest := 0 } := by
    simpa [committing, State.withCommit] using h.symm
  subst this
  decide

theorem witness_HeldCommitEndsThreeWays :
    up.TakesRequests ∧ up.stager.commit = none ∧ (committing (.held false)).TakesRequests ∧
      ((committing (.held false)).stager.commit.map (·.state)) = some (.held false) ∧
      (committing .pending).TakesRequests ∧ ((committing .pending).stager.commit.map (·.state)) = some .pending ∧
      ((committing (.held true)).stager.commit.map (·.state)) = some (.held true) := by decide

/-- The array while it erases slot 12, with a repair waiting on that. -/
def writing12 : Nva := { up.nva.setSlotState 12 .writing with op := .write ⟨12, none, false, true⟩ }

theorem witness_CommitAppliedEntryByEntry :
    ((committing .pending).stager.commit.map (·.state)) = some .pending ∧ shop.table.indexOf 4102 = some 0 ∧
      shop.table.has 5010 = false ∧ shop.table.item 1 = none ∧ (∀ j : ItemIndex, j.val < 1 → shop.table.item j ≠ none) ∧
      up.nva.slotState 12 = .clean ∧ (up.nva.setSlotState 12 .dirty).slotState 12 = .dirty ∧
      (up.nva.setSlotState 12 .stale).slotState 12 = .stale ∧ (up.nva.setSlotState 12 .faulted).slotState 12 = .faulted ∧
      writing12.slotState 12 = .writing ∧ writing12.op = .write ⟨12, none, false, true⟩ ∧ itemSlot 12 = 12 ∧
      itemSlot 13 ≠ 12 := by
  decide +kernel

theorem witness_AvailSetTakenWholeOrNotAtAll :
    shop.TakesRequests ∧ (∀ e ∈ ([(4102, 1)] : List (Nat × Nat)), e.2 ≤ 1 ∧ shop.table.has e.1 = true) ∧
      (List.replicate 16 (4102, 0)).length = 16 ∧ (∀ e ∈ List.replicate 16 (4102, 0), e.1 < 65536 ∧ e.2 < 256) ∧
      shop.table.has 4103 = false := by decide +kernel

theorem witness_ScheduleSetReplacesWhole :
    up.TakesRequests ∧ 4 < (List.replicate 5 (0, 0)).length ∧ (List.replicate 21 (0, 0)).length ≤ 21 ∧
      scheduleValid [⟨0, 0⟩, ⟨1, 1⟩, ⟨2, 2⟩, ⟨1439, 3⟩] = true ∧ startsRising none [⟨0, 0⟩] = true ∧
      (∃ g ∈ ([⟨0, 0⟩] : List ScheduleEntry), 0 ≤ g.start) := by decide

theorem witness_ForceAndTimeSetAndTicked :
    up.TakesRequests ∧ (3#8).toNat = (3 : Daypart).val ∧ 4 ≤ (4#8).toNat ∧ (4#8) ≠ 0xFF ∧ up.daypart.time = none ∧
      midnight.daypart.time = some { minute := 1439, second := 59 } := by decide

/-- The part with item 4102, its parity failing, its slot in a state and the array carrying something out. -/
def failing (slot : SlotState) (op : ArrayOp) (repairs : List ItemIndex) : State :=
  let s := shopWith .good true
  { s with nva := { s.nva with slotStates := [(0, slot)], op := op, repairs := repairs } }

/-- A write of slot 0 in flight. -/
def write0 : SlotWrite := { slot := 0, copy := some (.item 4102 body4102), rewrite := false, repairWaits := false }

theorem witness_ParityFailureHandledAtRead :
    (shopWith .corrupt true).table.item 0 = some { stocked 4102 body4102 with health := .corrupt, parityFails := true } ∧
      (failing .dirty .free []).table.item 0 = some { stocked 4102 body4102 with parityFails := true } ∧
      (failing .clean .free [0]).nva.repairOutstanding 0 = true ∧
      (shopWith .good true).nva.repairOutstanding 0 = false ∧ (shopWith .good true).nva.slotState 0 = .clean ∧
      (failing .writing (.write write0) []).nva.repairOutstanding 0 = false ∧
      (failing .writing (.write write0) []).nva.slotState 0 = .writing ∧
      (failing .dirty .free []).nva.slotState 0 = .dirty ∧ (failing .stale .free []).nva.slotState 0 = .stale ∧
      (failing .faulted .free []).nva.repairOutstanding 0 = false ∧ shop.table.item 1 = none ∧
      (working up [] (.compose (.layer 0 0))).engine.job = .compose (.layer 0 0) ∧
      (judging up (.check 0 false)).engine.job = .check 0 false ∧ 0 < (judging up (.check 0 false)).engine.shown.length ∧
      up.nva.loading = false ∧ up.nva.op = .free ∧ up.nva.repairs = [] ∧ (up.nva.markDirty 0).queue ≠ [] := by
  decide +kernel

theorem witness_ItemReadReports :
    shop.TakesRequests ∧ shop.table.has 1 = false ∧ shop.table.has 65534 = false ∧ shop.table.indexOf 4102 = some 0 ∧
      shop.table.item 0 = some (stocked 4102 body4102) ∧ body4102.valid = true ∧
      (shopWith .corrupt false).table.indexOf 4102 = some 0 ∧ (shopWith .good true).table.indexOf 4102 = some 0 ∧
      (shopWith .corrupt false).TakesRequests ∧ (shopWith .good true).TakesRequests := by decide +kernel

theorem witness_ItemQueryReports :
    shop.nva.loading = false ∧ shop.table.has (1#16).toNat = false ∧ shop.table.indexOf (4102#16).toNat = some 0 ∧
      (stocked 4102 body4102).code = (4102#16).toNat ∧ (shopWith .good true).nva.loading = false ∧
      (shopWith .corrupt false).table.indexOf (4102#16).toNat = some 0 := by decide +kernel

theorem witness_SuspensionsAndSelfTestRequests :
    (suspendedShop .mismatch).TakesRequests ∧ (suspendedShop .mismatch).checker.suspended.length ≤ 512 ∧
      (∀ e ∈ (suspendedShop .mismatch).checker.suspended, e.1 < 65536) ∧
      (suspendedShop .mismatch).checker.suspended[0 + 0]? = some (4102, .mismatch) ∧
      (suspendedShop .mismatch).suspension 4102 = some .mismatch ∧ (suspendedShop .parity).suspension 4102 = some .parity ∧
      shop.suspension 4102 = none ∧ up.checker.latch = false ∧
      ({ up with checker := { up.checker with latch := true } }).TakesRequests ∧
      ({ up with checker := { up.checker with latch := true } }).checker.latch = true := by decide +kernel

theorem witness_NvaReportCountsSlots : let s := ({ up with nva := { up.nva with repairs := [5] } }).logFault ⟨546, .torn, .load⟩
    s.TakesRequests ∧ s.nva.faults.length ≤ 16 ∧ (∀ f ∈ s.nva.faults, f.slot ≤ 546) ∧ s.nva.repairs.length ≤ 512 ∧
      s.nva.faults[0]? = some ⟨546, .torn, .load⟩ ∧ s.nva.faults.length < 16 ∧
      16 ≤ (List.replicate 16 (⟨546, .torn, .load⟩ : FaultEntry)).length := by decide

theorem witness_TaxAndStepStages :
    rules825.taxMode = .inclusive ∧ ({ rules825 with taxRate := 2500 }).taxRate ≤ 2500 ∧ rules825.rounding = .nearest ∧
      rules825.step % 2 = 1 ∧ 12 % 5 ≤ rules825.step / 2 ∧ rules825.step / 2 < 13 % 5 ∧ (10 : Nat) % 2 = 0 ∧ 15 % 10 = 10 / 2 ∧
      Rules.standard.step = 1 := by decide

theorem witness_ShownPriceInRangeOnStep :
    (∀ i : Fin 32, promos[i].valid = true) ∧ rules825.valid = true ∧ body4102.valid = true ∧ body4102.price[2] = none ∧
      body4102.price[1] = some 549 ∧ body4102.promo = some (7 : Fin 32).val ∧ promos[7].enabled = true ∧
      promos[7].mask.getLsbD 1 = true ∧ stepStage rules825 (taxStage rules825 439) ≤ 999999 ∧
      999999 < stepStage rules825 (taxStage rules825 999999) := by decide

theorem witness_PlacementInsideTile :
    5 * style1.cw ≤ tile581.w ∧ style1.ch ≤ tile581.h ∧ ¬ (9 * style1.cw ≤ tile581.w ∧ style1.ch ≤ tile581.h) := by decide

theorem witness_PriceStringAndTile :
    Style.standard.font = none ∧ style1.font ≠ none ∧ 3 * style1.cw ≤ tile581.w ∧ style1.ch ≤ tile581.h ∧
      (priceString style1 true 475).length * style1.cw ≤ tile581.w ∧
      ¬ (priceString style1 true 123456).length * style1.cw ≤ tile581.w ∧ 999999 ≤ 999999 ∧ ¬ 3 * style1.cw ≤ 60 ∧
      (priceString style1 true 0).length = 5 ∧ style1.grouping ≠ .none ∧ ¬ (123456 / 100 : Nat) < 1000 ∧
      ([1] : List Nat).length * style1.cw ≤ tile581.w ∧ ¬ 9 * style1.cw ≤ tile581.w := by decide

theorem witness_PixelBlendedIntoBuffer : (255 : Nat) ≤ 255 ∧ 1919 < (Resolution.clip .w1920h1080).width ∧
    1079 < (Resolution.clip .w1920h1080).height ∧ (Resolution.clip .w1920h1080).width ≤ 4096 ∧
    ([1025] : List Nat)[127 / 65536]? = some 1025 ∧ photo8.format = .rgb565 ∧ font24.format = .a8 ∧
    ({ photo8 with format := .argb8888 }).format = .argb8888 ∧ Style.standard.font = none ∧
    ({ style1 with font := some 2 }).font = some 2 ∧ loaded.assets.entry 2 = .ready font24 [1026] 0 ∧
    ([12, 4, 10, 7, 5] : List Nat)[4]? = some 5 ∧ 180 + 4 * style1.cw ≤ 299 ∧ 299 < 180 + 4 * style1.cw + style1.cw ∧
    56 ≤ 103 ∧ 103 < 56 + style1.ch ∧ 180 + [12, 4, 10, 7, 5].length * style1.cw ≤ 300 := by decide +kernel

theorem witness_FrameStartBeginsJob :
    shop.nva.loading = false ∧ shop.engine.job = .idle ∧ ItemsSound shop.applyCommit.table.items ∧
      Sparse.rising shop.applyCommit.table.pendingAvail = true ∧ shop.daypart.force = none ∧ shop.daypart.time = none ∧
      midnight.daypart.force = none ∧ midnight.daypart.time = some { minute := 1439, second := 59 } ∧
      scheduleValid midnight.daypart.schedule = true ∧ shop.daypart.choose shop.table.rules ≠ shop.daypart.live ∧
      (∀ p : Fin 4, shop.panel.panels[p].pendingSettings = none) ∧
      ((working shop [] .idle).panel.panels[0]).installed.enable = true ∧
      ((working shop [] .idle).panel.panels[0]).pendingSettings = none ∧ (committing .pending).nva.loading = false ∧
      ((committing .pending).stager.commit.map (·.state)) = some .pending ∧ (committing .pending).engine.job = .idle ∧
      ((up.setPanel 0 { PanelRecord.standard with pendingSettings := some ⟨true, .w1280h720⟩ }).panel.panels[0]
        ).pendingSettings = some ⟨true, .w1280h720⟩ ∧
      shop.panel.panels[0].installed.enable = false ∧ shop.engine.outputs[0].showing = false := by decide +kernel

theorem witness_PanelUnitAtFrameStart :
    State.reset.nva.loading = true ∧ (up.setJob (.patch 0)).nva.loading = false ∧ (up.setJob (.patch 0)).engine.job ≠ .idle ∧
      (5 : Channel).val / 2 = (2 : Fin 4).val ∧ ((lit 0).panels[1]).installed.enable = false ∧ ((lit 256).panels[0]).installed.enable = true ∧
      Curve.standard.valid = true ∧ Curve.standard.p1.a ≤ 256 ∧ 256 < Curve.standard.p2.a ∧ Curve.standard.p3.a ≤ 1023 ∧
      ((lit 0).panels[0]).applied ≤ ((lit 0).panels[0]).cap ∧ up.panel.conversion = none ∧
      (∀ c : Channel, up.panel.inScan c = false) ∧ (lit 0).conversion = none ∧
      (∀ c : Channel, c.val = ((lit 0).scanPosition.val + 1) % 8 → (lit 0).inScan c = true) := by decide

/-- A state whose panel 0 shows its front buffer 1. -/
def showingFront : State :=
  { up with engine := { up.engine with outputs := up.engine.outputs.set 0 { frontOdd := true, showing := true } } }

theorem witness_PanelFilledAndStagesEnd :
    (working up [] (.compose (.fill 0))).engine.job = .compose (.fill 0) ∧
      (working up [] (.compose .finished)).engine.job = .compose .finished ∧
      (judging up (.check 0 false)).engine.job = .check 0 false ∧ 0 < (judging up (.check 0 false)).engine.shown.length ∧
      (judging up (.patch 1)).engine.job = .patch 1 ∧ (judging up (.patch 1)).engine.shown.length ≤ 1 ∧
      (working up [fillLayer] .idle).scenes.panels[0].active = some (sceneOf [fillLayer]) ∧
      (working up [fillLayer] .idle).panel.panels[0].installed.enable = true ∧
      (∀ q : Fin 4, 0 < q → (working up [fillLayer] .idle).panel.panels[q].installed.enable = false) ∧
      up.engine.outputs[0].showing = false ∧ (showingFront.engine.outputs[0]).showing = true ∧
      (1 : Fin 8).val = 2 * (0 : Fin 4).val + (if showingFront.engine.outputs[0].frontOdd then 1 else 0) ∧
      (∀ b, Instr.jobCompletion ≠ .frameStart b) ∧ (∀ a l, Instr.jobCompletion ≠ .powerOnReset a l) ∧
      exec .jobCompletion showingFront = .next showingFront := by
  refine ⟨by decide, by decide, by decide, by decide, by decide, by decide, by decide, by decide, by decide, by decide,
    by decide, by decide, ?_, ?_, rfl⟩
  · intro b h; cases h
  · intro a l h; cases h

theorem witness_LayerHiddenOrBlended : let s := working shop [priceLayer, fillLayer] (.compose (.layer 0 0))
    let u := working shop [priceLayer, fillLayer] (.compose (.layer 0 1))
    s.engine.job = .compose (.layer 0 0) ∧ s.scenes.panels[0].active = some (sceneOf [priceLayer, fillLayer]) ∧
      (sceneOf [priceLayer, fillLayer]).layers[0]? = some priceLayer ∧ priceLayer.code = some 4102 ∧
      s.table.indexOf 4102 = some 0 ∧ s.table.item 0 = some (stocked 4102 body4102) ∧
      body4102.price[s.daypart.live] = none ∧ u.engine.job = .compose (.layer 0 1) ∧
      (sceneOf [priceLayer, fillLayer]).layers[1]? = some fillLayer ∧ fillLayer.code = none ∧
      fillLayer.mask.getLsbD u.daypart.live.val = true ∧ fillLayer.content = .fill Rgb.black ∧
      loaded.assets.entry 1 = .ready photo8 [1025] 0 := by decide +kernel

/-- A board whose FILL layer is bound to item 4102, its body failing at the read. -/
theorem witness_LayerHiddenOrBlended_failing : let l := { fillLayer with code := some 4102 }
    let s := working (shopWith .good true) [l] (.compose (.layer 0 0))
    s.engine.job = .compose (.layer 0 0) ∧ s.scenes.panels[0].active = some (sceneOf [l]) ∧
      (sceneOf [l]).layers[0]? = some l ∧ l.mask.getLsbD s.daypart.live.val = true ∧ s.table.indexOf 4102 = some 0 ∧
      s.table.item 0 = some { stocked 4102 body4102 with parityFails := true } ∧ l.soldOut ≠ .hide ∧ l.soldOut ≠ .only ∧
      l.isPrice = false := by decide +kernel

/-- The board in daypart 1, about to compose its PRICE layer. -/
def composing : State :=
  let s := working shop [priceLayer] (.compose (.layer 0 0))
  { s with daypart := { s.daypart with live := 1 } }

theorem witness_PriceLayerMakesShownRecord :
    composing.engine.job = .compose (.layer 0 0) ∧ composing.scenes.panels[0].active = some (sceneOf [priceLayer]) ∧
      (sceneOf [priceLayer]).layers[0]? = some priceLayer ∧ priceLayer.mask.getLsbD composing.daypart.live.val = true ∧
      priceLayer.content = .price 0 ∧ priceLayer.code = some 4102 ∧ composing.table.indexOf 4102 = some 0 ∧
      composing.table.item 0 = some (stocked 4102 body4102) ∧ priceLayer.soldOut = .hide ∧
      (stocked 4102 body4102).avail = .available ∧
      shownPrice composing.table.promos composing.table.rules body4102 composing.daypart.live = (some 475, false) ∧
      composing.checker.latch = false ∧ composing.suspension 4102 = none ∧
      ((shopWith .corrupt false).table.item 0).map (·.health) = some .corrupt ∧
      ((shopWith .good true).table.item 0).map (·.parityFails) = some true ∧
      ComposeUpset.clear.price = none ∧ (⟨some (465, false), none⟩ : ComposeUpset).price = some (465, false) := by
  decide +kernel

/-- 9.5, told for 4.75: an upset gives the tile the price 465, the check stage finds 475 and rejects it with MISMATCH, and
the patch stage covers it. -/
theorem test_upset_price_rejected :
    let s := { composing with former := { styles := composing.former.styles.set 0 ⟨style1, none⟩ } }
    ((s.after [.composeLayer ⟨[], ⟨some (465, false), none⟩⟩, .composeStageEnd, .checkRecord [] false]).map
        (fun t => t.engine.shown.map (fun r => (r.price, r.glyphs, r.reason, r.mark)))) =
      some [(some 465, [12, 4, 10, 6, 5], .none, some .mismatch)] := by decide +kernel

/-- The board with the record of item 4102 in its shown list, the style that drew it, and daypart 1. -/
def checking (s : State) (job : Job) : State :=
  let t := judging (working s [priceLayer] .idle) job
  { t with daypart := { t.daypart with live := 1 },
           former := { styles := t.former.styles.set 0 { current := style1, pending := none } },
           engine := { t.engine with shown := [{ record4102 with daypart := 1 }] } }

theorem witness_RecordJudgedAndComparatorTested : let s := checking shop (.check 0 true)
    let r : ShownRecord := { record4102 with daypart := 1 }
    s.engine.job = .check 0 true ∧ s.engine.shown[0]? = some r ∧ r.reason = .none ∧
      (s.readRecordBody r.code).suspension r.code = none ∧ r.daypart = s.daypart.live ∧ s.recordStyle r = some style1 ∧
      (s.readRecordBody r.code).table.indexOf r.code = some 0 ∧
      (s.readRecordBody r.code).table.item 0 = some (stocked 4102 body4102) ∧ r.price = some 475 ∧
      shownPrice s.table.promos s.table.rules body4102 s.daypart.live = (some 475, r.clamped) ∧
      r.glyphs = priceString style1 s.table.rules.twoDigits 475 ∧
      ((checking up (.check 0 true)).readRecordBody 4102).table.indexOf 4102 = none ∧
      (checking (suspendedShop .parity) (.check 0 true)).suspension 4102 ≠ none := by decide +kernel

theorem witness_RejectedTilePatched : let s := checking shop (.patch 0)
    s.engine.job = .patch 0 ∧ s.engine.shown[0]? = some { record4102 with daypart := 1 } ∧ s.checker.latch = false ∧
      s.suspension 4102 = none ∧ (checking (suspendedShop .mismatch) (.patch 0)).suspension 4102 ≠ none ∧
      ({ record4102 with mark := some .mismatch }).mark ≠ none ∧
      s.recordStyle { record4102 with daypart := 1 } = some style1 ∧ ¬ (record4102.box.w = 0 ∧ record4102.box.h = 0) := by
  decide +kernel

/-- What the load finds: item 4102 in slots 0 and 1, slot 2 torn by the journal, the schedule's slot invalid. -/
def foundSlots : List (SlotId × NvSlot) :=
  [(0, .programmed (.item 4102 body4102)), (1, .programmed (.item 4102 body4102)), (2, .programmed (.item 7 body4102)),
   (512, .programmed (.rules rules825)), (520, .programmed (.promo 7 promo7)), (545, .programmed (.schedule []))]

theorem witness_LoadFillsTableFromArray : let n := State.reset.nva.found foundSlots (some ⟨.clean, 2⟩)
    let finding := fun (k : SlotId) => loadFinding k n.journal.torn (n.slot k)
    State.reset.nva.loading = true ∧ up.nva.loading = false ∧
      finding 0 = .valid false (.item 4102 body4102) ∧ finding 1 = .valid false (.item 4102 body4102) ∧
      finding 2 = .torn ∧ finding 3 = .erased ∧ finding rulesSlot = .valid false (.rules rules825) ∧
      finding (promoSlot 7) = .valid false (.promo 7 promo7) ∧ finding (promoSlot 6) = .erased ∧
      finding scheduleSlot = .invalid ∧ loadFinding rulesSlot none NvSlot.erased = .erased ∧
      loadFinding scheduleSlot none (.programmed (.schedule [⟨0, 0⟩])) = .valid false (.schedule [⟨0, 0⟩]) ∧
      loadFinding 0 none ⟨.clean, .sec, .clean, .item 65534 body4102⟩ = .valid true (.item 65534 body4102) ∧
      loadFinding 0 none ⟨.clean, .erased, .clean, .item 4102 body4102⟩ = .ded ∧
      loadFinding 0 none (.programmed (.item 65535 body4102)) = .invalid ∧
      (⟨.sec, 545⟩ : Journal).torn = some 545 ∧ (⟨.clean, 546⟩ : Journal).faulty = true ∧
      foundSlots = [] ++ (0, .programmed (.item 4102 body4102)) :: foundSlots.tail ∧
      (∀ e ∈ foundSlots.tail, e.1 ≠ 0) ∧ (∀ e ∈ foundSlots, e.1 ≠ 3) := by
  decide +kernel

/-- A state with one slot DIRTY and queued. -/
def queued (s : State) (k : SlotId) : State := { s with nva := s.nva.markDirty k }

theorem witness_SlotWriteCopiedAndVerified :
    (queued shop 0).nva.loading = false ∧ (queued shop 0).nva.op = .free ∧ (queued shop 0).nva.repairs = [] ∧
      (queued shop 0).nva.queue = [0] ∧ (queued shop 0).table.item 0 = some (stocked 4102 body4102) ∧
      (queued shop 511).nva.queue = [itemSlot 511] ∧ (queued shop 511).table.item 511 = none ∧
      (queued shop rulesSlot).nva.queue = [rulesSlot] ∧ (queued shop (promoSlot 31)).nva.queue = [promoSlot 31] ∧
      (queued shop scheduleSlot).nva.queue = [scheduleSlot] ∧ (queued (shopWith .corrupt false) 0).nva.queue = [0] ∧
      (queued (shopWith .good true) 0).nva.queue = [0] ∧
      (failing .writing (.write { write0 with repairWaits := true }) []).nva.op = .write { write0 with repairWaits := true } ∧
      ({ write0 with repairWaits := true }).slot = itemSlot 0 ∧ NvSlot.erased.read ≠ .clean := by decide +kernel

theorem witness_RepairRestoresOrFails :
    (failing .clean .free [0]).nva.loading = false ∧ (failing .clean .free [0]).nva.op = .free ∧
      (failing .clean .free [0]).nva.repairs = [0] ∧ (failing .clean (.read 0) []).nva.op = .read 0 ∧
      (failing .clean (.read 0) []).nva.slotState (itemSlot 0) ≠ .dirty ∧
      (failing .dirty (.read 0) []).nva.slotState (itemSlot 0) = .dirty ∧
      (NvSlot.programmed (.item 4102 body4102)).read = .clean ∧ validCode 4102 = true ∧ body4102.valid = true ∧
      NvSlot.erased.read = .erased ∧ (shopWith .corrupt true).table.item 0 ≠ none := by decide +kernel

/-- A state whose panel 0 is in a thermal state. -/
def hot (st : ThermalState) : State :=
  up.setPanel 0 { PanelRecord.standard with installed := ⟨true, .w1280h720⟩, thermalState := st }

theorem witness_PanelCommandsSetPending :
    up.nva.loading = false ∧ 4 ≤ (4#8).toNat ∧ 2 ≤ (2#8).toNat ∧
      (let f : CurveForm := { panel := 0, a := #v[0, 256, 640, 1023], d := #v[0, 0, 0, 1000] }
       f.panel.toNat = (0 : Fin 4).val ∧ f.a[2].toNat < f.a[3].toNat ∧ f.a[3].toNat ≤ 1023 ∧ f.d[3].toNat ≤ 1000) ∧
      (let f : ThermalForm := { panel := 0, restart := 1, restore := 1, warn := 2, shutdown := 1022, cap := 100 }
       f.panel.toNat = (0 : Fin 4).val ∧ 1 ≤ f.restore.toNat ∧ f.shutdown.toNat ≤ 1022 ∧ 100 ≤ f.cap.toNat) ∧
      ((hot .cooledWait).panel.panels[0]).thermalState = .cooledWait ∧
      ((hot .hotOff).panel.panels[0]).thermalState = .hotOff ∧ ((hot .warm).panel.panels[0]).thermalState = .warm ∧
      (51#8) ≠ 50 ∧ (51#8) ≠ 60 := by decide

/-- A state with a conversion of a channel in flight. -/
def converting (c : Channel) (discard : Bool) : State :=
  { hot .normal with panel := { (hot .normal).panel with conversion := some ⟨c, discard⟩ } }

theorem witness_ConversionUsedOrDiscarded :
    up.panel.conversion = none ∧ (converting 0 true).panel.conversion = some ⟨0, true⟩ ∧
      (converting 1 false).panel.conversion = some ⟨1, false⟩ ∧ (1 : Channel).val / 2 = (0 : Fin 4).val ∧
      (7 : Channel).val / 2 = (3 : Fin 4).val := by decide

/-- The fields of the largest A8 asset, for the last handle. -/
def openForm : OpenForm := { handle := 255, format := 3, width := 4096, height := 4096, stride := 4096 }

theorem soundLoaded : AssetsSound loaded.assets where
  entries := by decide
  each := by decide
  pagesOnce := by decide
  pagesInPool := by decide
  windowLoading := by decide +kernel
  loadingWindow := by decide +kernel
  oneWindow := by decide +kernel

theorem witness_AssetOpenedOrRefused :
    loaded.nva.loading = false ∧ openForm.handle.toNat = (254 : Handle).val + 1 ∧ openForm.format.toNat ≤ 3 ∧
      openForm.width.toNat ≤ 4096 ∧ openForm.height.toNat ≤ 4096 ∧ openForm.stride.toNat % 8 = 0 ∧
      openForm.width.toNat * 1 ≤ openForm.stride.toNat ∧ openForm.stride.toNat * openForm.height.toNat ≤ 16777216 ∧
      loaded.assets.entry 254 = .empty ∧ loaded.assets.entry 0 ≠ .empty ∧ loaded.assets.windows[1] = none ∧
      (∀ k : Fin 4, k.val < 1 → loaded.assets.windows[k] ≠ none) ∧ 256 ≤ loaded.assets.freeCount ∧
      16777216 < ({ openForm with stride := 4104 }).stride.toNat * openForm.height.toNat := by decide +kernel

theorem witness_AssetLifeByEntryState :
    loaded.nva.loading = false ∧ (1#16).toNat = (0 : Handle).val + 1 ∧ 256 ≤ (256#16).toNat ∧
      loaded.assets.entry 0 = .loading photo8 [⟨1024, false⟩] ∧ loaded.assets.entry 1 = .ready photo8 [1025] 0 ∧
      loaded.assets.entry 3 = .empty ∧ (∀ q ∈ ([] : List LoadPage), q.touched = true) := by decide +kernel

theorem witness_AssetQueryReports :
    loaded.nva.loading = false ∧ (255#16).toNat = (254 : Handle).val + 1 ∧ loaded.assets.entry 254 = .empty ∧
      loaded.assets.entry 0 = .loading photo8 [⟨1024, false⟩] ∧ (loaded.assets.entry 0).sound = true ∧
      loaded.assets.entry 1 = .ready photo8 [1025] 0 ∧ (loaded.assets.entry 1).sound = true ∧
      loaded.assets.windowOf 0 = some 0 := by decide +kernel

theorem witness_ApertureWriteStoredOrDropped :
    (124 : Nat) % 4 = 0 ∧ (zeros 4).length % 4 = 0 ∧ loaded.assets.windows[1] = none ∧
      loaded.assets.windows[0] = some 0 ∧ loaded.assets.entry 0 = .loading photo8 [⟨1024, false⟩] ∧
      124 + (zeros 4).length ≤ photo8.size ∧ 124 % 4096 + (zeros 4).length ≤ 4096 ∧
      (loaded.assets.entry 0).sound = true ∧ photo8.size < 128 + (zeros 4).length ∧ ¬ (126 : Nat) % 4 = 0 := by
  decide +kernel

/-- A state that builds a scene of some layers for panel 3. -/
def building (layers : List Layer) : State :=
  loaded.setScenes 3 { building := some (sceneOf layers), pending := none, active := none }

theorem witness_SceneCommandsMoveScenes :
    (building [fillLayer]).nva.loading = false ∧
      ((building [fillLayer]).scenes.panels[3]).building = some (sceneOf [fillLayer]) ∧
      (loaded.scenes.panels[3]).building = none ∧ (1#8).toNat ≤ 1 ∧ 4 ≤ (4#8).toNat := by decide

/-- The fields of a PHOTO layer of asset 2. -/
def photoForm : LayerForm :=
  { panel := 3, kind := 1, x := 4095, y := 0, w := 8, h := 8, alpha := 255, mask := 15, soldOut := 0, code := 0, handle := 2,
    style := 0, blue := 0, green := 0, red := 0, colourAlpha := 0 }

theorem witness_LayerAddedAfterEightChecks :
    (building []).nva.loading = false ∧ photoForm.x.toNat ≤ 4095 ∧ photoForm.mask.toNat ≤ 15 ∧ photoForm.kind = 1 ∧
      photoForm.handle.toNat = (1 : Handle).val + 1 ∧ (building []).assets.entry 1 = .ready photo8 [1025] 0 ∧
      photoForm.w.toNat ≤ photo8.width ∧ photoForm.h.toNat ≤ photo8.height ∧
      (∀ g pages n, (building []).assets.entry 2 = .ready g pages n → g.format = .a8) ∧
      (building (List.replicate 63 fillLayer)).scenes.panels[3].building = some (sceneOf (List.replicate 63 fillLayer)) ∧
      (sceneOf (List.replicate 63 fillLayer)).layers.length < 64 ∧
      (sceneOf (List.replicate 32 priceLayer)).priceCount = 32 := by
  refine ⟨by decide, by decide, by decide, by decide, by decide, by decide +kernel, by decide, by decide, ?_,
    by decide +kernel, by decide +kernel, by decide +kernel⟩
  intro g pages n h
  have : AssetEntry.ready font24 [1026] 0 = .ready g pages n := by rw [← h]; decide +kernel
  cases this
  rfl

/-- The fields of `style1` for style 15, its font asset 3. -/
def styleForm : StyleForm :=
  { index := 15, font := 3, cw := 24, ch := 48, blue := 255, green := 255, red := 255, alpha := 255, symbol := 0, mark := 0,
    grouping := 1, minor := 0, alignment := 1 }

theorem witness_StyleSetWritesPendingCopy :
    loaded.nva.loading = false ∧ styleForm.index.toNat = (15 : Fin 16).val ∧ 4 ≤ styleForm.cw.toNat ∧
      styleForm.ch.toNat ≤ 256 ∧ ¬ (styleForm.grouping = 1 ∧ styleForm.mark = 1) ∧
      styleForm.font.toNat = (2 : Handle).val + 1 ∧ loaded.assets.entry 2 = .ready font24 [1026] 0 ∧
      font24.width = 14 * styleForm.cw.toNat ∧ font24.height = styleForm.ch.toNat ∧ loaded.assets.entry 3 = .empty := by
  decide +kernel

/-- A state that holds a load fault. -/
def faulted : State :=
  { up with assets := { up.assets with loadFault := some { kind := .bounds, window := 3, offset := 16777215, more := true } } }

theorem witness_WindowReadsReturnAndClear :
    (0x3FFFFFF#27).toNat < 0x4000000 ∧ up.assets.loadFault = none ∧
      faulted.assets.loadFault = some { kind := .bounds, window := 3, offset := 16777215, more := true } ∧
      0x4000000 ≤ (0x4000014#27).toNat ∧ (0x4000014#27).toNat % 8 ≠ 0 ∧ 0x4000000 ≤ (0x4000010#27).toNat ∧
      (0x4000010#27).toNat % 8 = 0 ∧ (0x4000018#27).toNat % 4 = 0 ∧ (0x4000180#27).toNat % 8 = 0 ∧
      ((0x4000058#27).toNat - 0x4000000) + 7 = 0x20 + (63 : Fin 64).val := by decide

theorem witness_GoWordTakesCommand :
    (commandRow (.panelSet 7 0 1 2)).map (fun r => (r.code, r.go, r.fields)) = some (0x30, 7, [(4, [0, 1, 2])]) ∧
      (commandRow (.checkTest (.contentPort 0))).isSome = true ∧ State.reset.nva.loading = true ∧
      Instr.panelSet 7 0 1 2 ≠ .statusQuery 7 := by decide

theorem witness_PortWritesAndFlagEvents :
    (zeros 8).length = 8 ∧ (0x4000058#27).toNat % 8 = 0 ∧ 0x4000020 ≤ (0x4000058#27).toNat ∧
      (0x4000058#27).toNat < 0x4000060 ∧ 0x4000060 ≤ (0x4000060#27).toNat ∧ (0x4000024#27).toNat % 8 ≠ 0 ∧
      (0x43#8).toNat ∉ commandCodes ∧ up.port.armed = true ∧ up.port.messageEnabled = false ∧
      ({ up.port with messageEnabled := true }).messageEnabled = true := by decide

theorem witness_StatusQueryReports :
    up.engine.late < 65536 ∧ up.checker.suspended.length ≤ 512 ∧ (judging up .idle).engine.shown.length ≤ 128 ∧
      (∀ p : Fin 4, (hot .normal).panel.panels[p].lastAmbient < 1024 ∧ (hot .normal).panel.panels[p].lastThermistor < 1024 ∧
        (hot .normal).panel.panels[p].thermal.derateCap ≤ 1000 ∧ (hot .normal).panel.panels[p].target ≤ 1000 ∧
        (hot .normal).panel.panels[p].applied ≤ 1000) ∧
      ((building [fillLayer]).scenes.panels[3]).building = some (sceneOf [fillLayer]) ∧
      (sceneOf [fillLayer]).layers.length ≤ 64 := by decide

/-! #### The invariants: a sound state that is not the reset state, with a command that steps it -/

theorem witness_StepKeepsRecordsAndSets : let s := (suspendedShop .parity).pushed .jobCompletion
    RecordsSound s ∧ SetsSound s ∧ ∃ t, step s = .next t := by
  refine ⟨⟨by decide +kernel, by decide +kernel, by decide, ?_⟩, ⟨by decide, by decide, by decide, by decide +kernel⟩,
    _, rfl⟩
  intro c h
  cases h

theorem witness_StepKeepsArrayBookkeeping : let s := (queued shop 0).pushed .jobCompletion
    NvaSound s.nva ∧ ∃ t, step s = .next t := by
  refine ⟨⟨by decide +kernel, by decide +kernel, by decide +kernel, by decide, ?_, ?_, ?_, by decide +kernel⟩,
    _, rfl⟩ <;> intro i h <;> cases h

theorem witness_StepKeepsAssetsAndReferences : let s := loaded.pushed .jobCompletion
    AssetsSound s.assets ∧ RefsSound s ∧ Memory.wf s.assets.memory = true ∧ ∃ t, step s = .next t := by
  refine ⟨soundLoaded, ?_, by decide, _, rfl⟩
  intro h
  revert h
  decide +kernel

theorem witness_StepKeepsPanelsAndLink : let s := (hot .warm).pushed .jobCompletion
    (∀ p : Fin 4, PanelSound s.panel.panels[p]) ∧ LinkSound s.link ∧ ∃ t, step s = .next t := by
  have sound : ∀ r : PanelRecord, r.applied ≤ r.cap → r.target ≤ 1000 →
      (r.installed.enable = false → r.applied = 0 ∧ r.target = 0) → r.curve.valid = true → r.thermal.valid = true →
      r.pendingCurve = none → r.pendingThermal = none → PanelSound r :=
    fun r a b c d e f g => ⟨a, b, c, d, (by rw [f]; intro x h; cases h), e, (by rw [g]; intro x h; cases h)⟩
  refine ⟨fun p => ?_, ⟨by decide, ?_, ?_, ?_⟩, _, rfl⟩
  · fin_cases p <;> exact sound _ (by decide) (by decide) (by decide) (by decide) (by decide) rfl rfl
  all_goals intro b h; cases h

theorem witness_StepKeepsRejectedDigitsOffGlass : let s := (checking shop .idle).pushed .jobCompletion
    GlassSound s ∧ ∃ t, step s = .next t :=
  ⟨⟨by decide, by decide, by decide⟩, _, rfl⟩

end Sys2Proof.Tests
end

section
/-! SUPPORT. Facts about the sparse tables, the item table and the code index that the invariants of the price table rest on. -/

namespace Sys2Proof.Machine

/-! ### Sparse tables, member by member -/

section
variable {κ α : Type} [LinearOrder κ]

theorem Sparse.drop_eq_self {m : List (κ × α)} {k : κ} (h : ∀ e ∈ m, e.1 ≠ k) : Sparse.drop m k = m := by
  simpa [Sparse.drop, List.filter_eq_self] using fun a b hab => h (a, b) hab

/-- A put is the new entry before the table without the key, up to order. -/
theorem Sparse.put_perm {m : List (κ × α)} (hm : Sparse.rising m = true) (k : κ) (v : α) :
    (Sparse.put m k v).Perm ((k, v) :: Sparse.drop m k) := by
  rw [Sparse.rising_iff] at hm
  induction m with
  | nil => exact .refl _
  | cons e rest ih =>
    obtain ⟨a, w⟩ := e
    obtain ⟨hlow, hrest⟩ := List.pairwise_cons.1 hm
    unfold Sparse.put
    split
    · rename_i hk
      have : ∀ e ∈ (a, w) :: rest, e.1 ≠ k := by
        intro e he
        rcases List.mem_cons.1 he with rfl | he
        · exact ne_of_gt hk
        · exact ne_of_gt (hk.trans (hlow e he))
      rw [Sparse.drop_eq_self this]
    · split
      · rename_i hka
        subst hka
        have : Sparse.drop ((k, w) :: rest) k = rest := by
          have := Sparse.drop_eq_self (m := rest) (k := k) (fun e he => ne_of_gt (hlow e he))
          simpa [Sparse.drop] using this
        rw [this]
      · rename_i hka
        have hd : Sparse.drop ((a, w) :: rest) k = (a, w) :: Sparse.drop rest k := by
          simp [Sparse.drop, Ne.symm hka]
        rw [hd]
        exact ((ih hrest).cons _).trans (.swap _ _ _)

theorem Sparse.mem_put_iff {m : List (κ × α)} (hm : Sparse.rising m = true) {k : κ} {v : α} {e : κ × α} :
    e ∈ Sparse.put m k v ↔ e = (k, v) ∨ (e ∈ m ∧ e.1 ≠ k) := by
  rw [(Sparse.put_perm hm k v).mem_iff, List.mem_cons, Sparse.mem_drop]

theorem Sparse.find_eq_none_iff {m : List (κ × α)} {k : κ} : Sparse.find m k = none ↔ ∀ e ∈ m, e.1 ≠ k := by
  induction m with
  | nil => simp [Sparse.find]
  | cons e rest ih =>
    obtain ⟨a, w⟩ := e
    by_cases h : k = a
    · simp [Sparse.find, h]
    · simp [Sparse.find, h, ih, Ne.symm h]

end

/-! ### The item table and the code index -/

theorem PriceTable.indexOf_eq_none_iff {t : PriceTable} {code : Nat} :
    t.indexOf code = none ↔ ∀ e ∈ t.items, e.2.code ≠ code := by
  simp [PriceTable.indexOf]

theorem PriceTable.has_iff {t : PriceTable} {code : Nat} : t.has code = true ↔ ∃ e ∈ t.items, e.2.code = code := by
  simp [PriceTable.has, PriceTable.indexOf]

theorem PriceTable.has_eq_false_iff {t : PriceTable} {code : Nat} : t.has code = false ↔ t.indexOf code = none := by
  simp [PriceTable.has]

theorem PriceTable.has_of_indexOf {t : PriceTable} {code : Nat} {i : ItemIndex} (h : t.indexOf code = some i) :
    t.has code = true := by
  simp [PriceTable.has, h]

/-- The index of a code is the key of an entry that bears the code. -/
theorem PriceTable.exists_of_indexOf {t : PriceTable} {code : Nat} {i : ItemIndex} (h : t.indexOf code = some i) :
    ∃ it, (i, it) ∈ t.items ∧ it.code = code := by
  obtain ⟨⟨j, it⟩, he, rfl⟩ := Option.map_eq_some_iff.1 h
  exact ⟨it, List.mem_of_find?_eq_some he, by simpa using List.find?_some he⟩

theorem PriceTable.item_of_mem {t : PriceTable} (hr : Sparse.rising t.items = true) {i : ItemIndex} {it : Item}
    (h : (i, it) ∈ t.items) : t.item i = some it := Sparse.find_of_mem hr h

theorem PriceTable.mem_of_item {t : PriceTable} {i : ItemIndex} {it : Item} (h : t.item i = some it) :
    (i, it) ∈ t.items := Sparse.mem_of_find h

theorem PriceTable.has_of_item {t : PriceTable} {i : ItemIndex} {it : Item} (h : t.item i = some it) :
    t.has it.code = true := PriceTable.has_iff.2 ⟨_, PriceTable.mem_of_item h, rfl⟩

/-- In a sound table an item is the only one with its code. -/
theorem ItemsSound.key_unique {m : List (ItemIndex × Item)} (h : ItemsSound m) {e f : ItemIndex × Item} (he : e ∈ m)
    (hf : f ∈ m) (hc : e.2.code = f.2.code) : e = f :=
  List.inj_on_of_nodup_map h.2.1 he hf hc

/-- In a sound table the code index finds exactly the item with the code. -/
theorem ItemsSound.indexOf_iff {t : PriceTable} (h : ItemsSound t.items) {code : Nat} {i : ItemIndex} :
    t.indexOf code = some i ↔ ∃ it, t.item i = some it ∧ it.code = code := by
  constructor
  · intro hi
    obtain ⟨it, hm, hc⟩ := PriceTable.exists_of_indexOf hi
    exact ⟨it, PriceTable.item_of_mem h.1 hm, hc⟩
  · rintro ⟨it, hi, rfl⟩
    obtain ⟨j, hj⟩ := Option.isSome_iff_exists.1 (PriceTable.has_of_item hi)
    obtain ⟨it', hm, hc⟩ := PriceTable.exists_of_indexOf hj
    cases h.key_unique hm (PriceTable.mem_of_item hi) hc
    exact hj

/-- A valid item whose code no other index bears may be written at an index. -/
theorem ItemsSound.put {m : List (ItemIndex × Item)} (h : ItemsSound m) {i : ItemIndex} {it : Item}
    (hcode : validCode it.code = true) (hbody : it.body.valid = true) (hfree : ∀ e ∈ m, e.2.code = it.code → e.1 = i) :
    ItemsSound (Sparse.put m i it) := by
  obtain ⟨hr, hn, hv⟩ := h
  refine ⟨Sparse.rising_put hr i it, ?_, ?_⟩
  · rw [((Sparse.put_perm hr i it).map _).nodup_iff, List.map_cons, List.nodup_cons]
    refine ⟨?_, hn.sublist (List.filter_sublist.map _)⟩
    rintro hmem
    obtain ⟨e, he, hc⟩ := List.mem_map.1 hmem
    obtain ⟨hem, hne⟩ := Sparse.mem_drop.1 he
    exact hne (hfree e hem hc)
  · intro e he
    rcases Sparse.mem_put he with rfl | he
    · exact ⟨hcode, hbody⟩
    · exact hv e he

theorem ItemsSound.drop {m : List (ItemIndex × Item)} (h : ItemsSound m) (i : ItemIndex) : ItemsSound (Sparse.drop m i) :=
  ⟨Sparse.rising_drop h.1 i, h.2.1.sublist (List.filter_sublist.map _), fun e he => h.2.2 e (Sparse.mem_drop.1 he).1⟩

/-- Which codes the table has once an item is written over one of the same code, or at a free index. -/
theorem PriceTable.has_putItem {t : PriceTable} (hr : Sparse.rising t.items = true) {i : ItemIndex} {it : Item}
    (hold : ∀ old, t.item i = some old → old.code = it.code) (code : Nat) :
    (t.putItem i it).has code = true ↔ it.code = code ∨ t.has code = true := by
  simp only [PriceTable.has_iff, PriceTable.putItem, Sparse.mem_put_iff hr]
  constructor
  · rintro ⟨e, rfl | ⟨he, -⟩, hc⟩
    · exact .inl hc
    · exact .inr ⟨e, he, hc⟩
  · rintro (hc | ⟨e, he, hc⟩)
    · exact ⟨_, .inl rfl, hc⟩
    · by_cases hi : e.1 = i
      · subst hi
        exact ⟨(e.1, it), .inl rfl, (hold e.2 (PriceTable.item_of_mem hr he)).symm.trans hc⟩
      · exact ⟨e, .inr ⟨he, hi⟩, hc⟩

/-- An item rewritten in place, its code kept, leaves every code where it is. -/
theorem PriceTable.has_putItem_same {t : PriceTable} (hr : Sparse.rising t.items = true) {i : ItemIndex} {it old : Item}
    (hi : t.item i = some old) (hc : it.code = old.code) (code : Nat) : (t.putItem i it).has code = t.has code := by
  have hold : ∀ o, t.item i = some o → o.code = it.code := by
    intro o ho
    rw [hi] at ho
    cases ho
    exact hc.symm
  rw [Bool.eq_iff_iff, PriceTable.has_putItem hr hold]
  constructor
  · rintro (rfl | h)
    · exact hc ▸ PriceTable.has_of_item hi
    · exact h
  · exact .inr

/-- A dropped item takes its own code with it and no other. -/
theorem ItemsSound.has_drop {t : PriceTable} (h : ItemsSound t.items) {i : ItemIndex} {code : Nat}
    (hi : t.indexOf code = some i) {c : Nat} (hne : c ≠ code) (hc : t.has c = true) :
    ({ t with items := Sparse.drop t.items i } : PriceTable).has c = true := by
  obtain ⟨e, he, rfl⟩ := PriceTable.has_iff.1 hc
  obtain ⟨it, hit, hcode⟩ := h.indexOf_iff.1 hi
  refine PriceTable.has_iff.2 ⟨e, Sparse.mem_drop.2 ⟨he, ?_⟩, rfl⟩
  rintro rfl
  have := PriceTable.item_of_mem h.1 he
  rw [this] at hit
  cases hit
  exact hne hcode

end Sys2Proof.Machine
end

section
/-! SUPPORT. What keeps the records valid and the sets within the live table: the shared operations on the price table, the
suspended set and the change stager. -/

namespace Sys2Proof.Machine

/-- The promises on the price table, the settings and the sets: RecordsSound and SetsSound without the change stager. -/
structure LiveSound (s : State) : Prop where
  items : ItemsSound s.table.items
  settings : SettingsSound s
  sets : SetsSound s

/-- The promises on the change stager. -/
structure StagerSound (st : Stager) : Prop where
  staging : EntriesSound st.staging
  commit : ∀ c, st.commit = some c → CommitSound c

/-- The invariant of StepKeepsRecordsAndSets. -/
structure Sound (s : State) : Prop where
  live : LiveSound s
  stager : StagerSound s.stager

theorem sound_iff {s : State} : Sound s ↔ RecordsSound s ∧ SetsSound s :=
  ⟨fun h => ⟨⟨h.live.items, h.live.settings, h.stager.staging, h.stager.commit⟩, h.live.sets⟩,
   fun ⟨r, t⟩ => ⟨⟨r.items, r.settings, t⟩, ⟨r.staging, r.commit⟩⟩⟩

/-- The live promises speak of the table, the schedule and the suspended set only. -/
theorem LiveSound.congr {s t : State} (h : LiveSound s) (ht : t.table = s.table)
    (hd : t.daypart.schedule = s.daypart.schedule) (hc : t.checker.suspended = s.checker.suspended) : LiveSound t where
  items := ht ▸ h.items
  settings := by
    unfold SettingsSound
    rw [ht, hd]
    exact h.settings
  sets :=
    { availRising := ht ▸ h.sets.availRising
      availLive := ht ▸ h.sets.availLive
      suspendedRising := hc ▸ h.sets.suspendedRising
      suspendedLive := by rw [ht, hc]; exact h.sets.suspendedLive }

theorem Sound.congr {s t : State} (h : Sound s) (ht : t.table = s.table)
    (hd : t.daypart.schedule = s.daypart.schedule) (hc : t.checker.suspended = s.checker.suspended)
    (hs : t.stager = s.stager) : Sound t := ⟨h.live.congr ht hd hc, hs ▸ h.stager⟩

/-! ### The suspended set -/

theorem LiveSound.setSuspended {s : State} (h : LiveSound s) {set : List (Nat × SuspendReason)}
    (hr : Sparse.rising set = true) (hl : ∀ e ∈ set, s.table.has e.1 = true) : LiveSound (s.setSuspended set) where
  items := h.items
  settings := h.settings
  sets := ⟨h.sets.availRising, h.sets.availLive, hr, hl⟩

theorem LiveSound.suspend {s : State} (h : LiveSound s) {code : Nat} (hc : s.table.has code = true) (r : SuspendReason) :
    LiveSound (s.suspend code r) := by
  refine h.setSuspended (Sparse.rising_put h.sets.suspendedRising _ _) fun e he => ?_
  rcases Sparse.mem_put he with rfl | he
  · exact hc
  · exact h.sets.suspendedLive e he

/-- Every removal from the suspended set keeps the promises. -/
theorem LiveSound.dropSuspended {s : State} (h : LiveSound s) (code : Nat) :
    LiveSound (s.setSuspended (Sparse.drop s.checker.suspended code)) :=
  h.setSuspended (Sparse.rising_drop h.sets.suspendedRising _) fun e he => h.sets.suspendedLive e (Sparse.mem_drop.1 he).1

theorem LiveSound.unsuspend {s : State} (h : LiveSound s) (code : Nat) : LiveSound (s.unsuspend code) := by
  unfold State.unsuspend
  split
  · exact h.dropSuspended code
  · exact h

theorem LiveSound.unsuspendRestored {s : State} (h : LiveSound s) (code : Nat) : LiveSound (s.unsuspendRestored code) := by
  unfold State.unsuspendRestored
  split
  · exact h.dropSuspended code
  all_goals exact h

theorem LiveSound.suspendMismatch {s : State} (h : LiveSound s) (code : Nat) : LiveSound (s.suspendMismatch code) := by
  unfold State.suspendMismatch
  split
  · exact h
  · split
    · rename_i hc
      exact h.suspend hc _
    · exact h

theorem LiveSound.suspendParity {s : State} (h : LiveSound s) {code : Nat} (hc : s.table.has code = true) :
    LiveSound (s.suspendParity code) := by
  unfold State.suspendParity
  split
  · exact h
  · exact h
  all_goals exact h.suspend hc _

theorem LiveSound.markUnrepairable {s : State} (h : LiveSound s) (i : ItemIndex) : LiveSound (s.markUnrepairable i) := by
  unfold State.markUnrepairable
  split
  · exact h
  · rename_i it hi
    have hc := PriceTable.has_of_item hi
    split
    · exact h
    all_goals exact h.suspend hc _

/-! ### The array's bookkeeping touches no record -/

theorem LiveSound.withNva {s : State} (h : LiveSound s) (n : Nva) : LiveSound { s with nva := n } := h.congr rfl rfl rfl

theorem LiveSound.logFault {s : State} (h : LiveSound s) (f : FaultEntry) : LiveSound (s.logFault f) := h.congr rfl rfl rfl

theorem LiveSound.requestRepair {s : State} (h : LiveSound s) (i : ItemIndex) : LiveSound (s.requestRepair i) := by
  unfold State.requestRepair
  dsimp only
  split
  · exact (h.withNva _).markUnrepairable i
  · exact h.withNva _

/-! ### Items rewritten in place -/

/-- An item rewritten in place, with its code kept and a valid body, leaves the promises as they are. -/
theorem LiveSound.putItem {s : State} (h : LiveSound s) {i : ItemIndex} {old it : Item} (hi : s.table.item i = some old)
    (hc : it.code = old.code) (hb : it.body.valid = true) : LiveSound (s.putItem i it) where
  items := by
    refine h.items.put (hc ▸ (h.items.2.2 _ (PriceTable.mem_of_item hi)).1) hb fun e he hce => ?_
    exact congrArg Prod.fst (h.items.key_unique he (PriceTable.mem_of_item hi) (hce.trans hc))
  settings := h.settings
  sets :=
    { availRising := h.sets.availRising
      availLive := fun e he => (PriceTable.has_putItem_same h.items.1 hi hc e.1).trans (h.sets.availLive e he)
      suspendedRising := h.sets.suspendedRising
      suspendedLive := fun e he => (PriceTable.has_putItem_same h.items.1 hi hc e.1).trans (h.sets.suspendedLive e he) }

theorem LiveSound.bodyValid {s : State} (h : LiveSound s) {i : ItemIndex} {it : Item} (hi : s.table.item i = some it) :
    it.body.valid = true := (h.items.2.2 _ (PriceTable.mem_of_item hi)).2

theorem LiveSound.parityFailure {s : State} (h : LiveSound s) {i : ItemIndex} {it : Item} (hi : s.table.item i = some it) :
    LiveSound (s.parityFailure i it) := by
  have hb := h.bodyValid hi
  have hp : LiveSound (s.putItem i { it with health := .corrupt }) := h.putItem hi rfl hb
  have hc : (s.putItem i { it with health := .corrupt }).table.has it.code = true :=
    (PriceTable.has_putItem_same (it := { it with health := .corrupt }) h.items.1 hi rfl it.code).trans
      (PriceTable.has_of_item hi)
  exact (hp.suspendParity hc).requestRepair i

theorem LiveSound.readBody {s : State} (h : LiveSound s) (i : ItemIndex) : LiveSound (s.readBody i) := by
  unfold State.readBody
  split
  · exact h
  · rename_i it hi
    split
    · exact h.parityFailure hi
    · exact h

theorem LiveSound.upset {s : State} (h : LiveSound s) (i : ItemIndex) : LiveSound (s.upset i) := by
  unfold State.upset
  split
  · exact h
  · rename_i it hi
    have hb := h.bodyValid hi
    exact h.putItem hi rfl hb

theorem LiveSound.upsets {s : State} (h : LiveSound s) (l : List ItemIndex) : LiveSound (s.upsets l) :=
  List.foldlRecOn l State.upset h fun _ ht i _ => ht.upset i

theorem LiveSound.readBodies {s : State} (h : LiveSound s) (l : List ItemIndex) : LiveSound (l.foldl State.readBody s) :=
  List.foldlRecOn l State.readBody h fun _ ht i _ => ht.readBody i

theorem LiveSound.walkBodies {s : State} (h : LiveSound s) : LiveSound s.walkBodies := h.readBodies _

/-! ### Reads of bodies leave the change stager -/

theorem ReadsBodies.stager {s t : State} (h : ReadsBodies s t) : t.stager = s.stager := by rw [h.eq]

theorem Sound.reads {s t : State} (h : Sound s) (ht : LiveSound t) (hr : ReadsBodies s t) : Sound t :=
  ⟨ht, hr.stager ▸ h.stager⟩

theorem State.readBodies_reads (s : State) (l : List ItemIndex) : ReadsBodies s (l.foldl State.readBody s) :=
  List.foldlRecOn l State.readBody (motive := ReadsBodies s) (.refl s) fun _ ht i _ => ht.trans (State.readBody_reads _ i)

theorem Sound.readBody {s : State} (h : Sound s) (i : ItemIndex) : Sound (s.readBody i) :=
  h.reads (h.live.readBody i) (s.readBody_reads i)

theorem Sound.upsets {s : State} (h : Sound s) (l : List ItemIndex) : Sound (s.upsets l) :=
  h.reads (h.live.upsets l) (s.upsets_reads l)

theorem Sound.walkBodies {s : State} (h : Sound s) : Sound s.walkBodies := h.reads h.live.walkBodies (s.readBodies_reads _)

/-! ### The application of a commit -/

/-- The promises of an applied ITEM_SET, at the index of its code or at a free one. -/
theorem LiveSound.setItemAt {s : State} (h : LiveSound s) {i : ItemIndex} {code : Nat} {body : ItemBody}
    (hcode : validCode code = true) (hbody : body.valid = true)
    (hi : ∀ old, s.table.item i = some old → old.code = code) (hfree : ∀ e ∈ s.table.items, e.2.code = code → e.1 = i)
    (a : Availability) : LiveSound (s.setItemAt i code body a) := by
  have hlive : ∀ c, s.table.has c = true →
      (s.table.putItem i { code := code, body := body, parityFails := false, health := .good, avail := a }).has c = true :=
    fun c hc => (PriceTable.has_putItem h.items.1 hi c).2 (.inr hc)
  have hp : LiveSound (s.putItem i { code := code, body := body, parityFails := false, health := .good, avail := a }) :=
    { items := h.items.put hcode hbody hfree
      settings := h.settings
      sets := ⟨h.sets.availRising, fun e he => hlive _ (h.sets.availLive e he), h.sets.suspendedRising,
        fun e he => hlive _ (h.sets.suspendedLive e he)⟩ }
  exact (hp.unsuspend code).withNva _

/-- The lowest free index holds no item. -/
theorem PriceTable.item_of_lowestFree {t : PriceTable} {i : ItemIndex} (h : t.lowestFree = some i) : t.item i = none := by
  simpa using List.find?_some h

theorem LiveSound.applyItemSet {s : State} (h : LiveSound s) {code : Nat} {body : ItemBody}
    (hcode : validCode code = true) (hbody : body.valid = true) : LiveSound (s.applyItemSet code body) := by
  unfold State.applyItemSet
  split
  · rename_i i hi
    obtain ⟨it, hit, hc⟩ := h.items.indexOf_iff.1 hi
    refine h.setItemAt hcode hbody (fun old hold => ?_) (fun e he hce => ?_) _
    · rw [hit] at hold
      cases hold
      exact hc
    · exact congrArg Prod.fst (h.items.key_unique he (PriceTable.mem_of_item hit) (hce.trans hc.symm))
  · rename_i hnone
    split
    · rename_i i hi
      refine h.setItemAt hcode hbody (fun old hold => ?_) (fun e he hce => ?_) _
      · rw [PriceTable.item_of_lowestFree hi] at hold
        cases hold
      · exact absurd hce (PriceTable.indexOf_eq_none_iff.1 hnone e he)
    · exact h

/-- What is left of a suspended set once a code is unsuspended: no entry of that code. -/
theorem State.unsuspend_suspended (s : State) (code : Nat) :
    (s.unsuspend code).checker.suspended = Sparse.drop s.checker.suspended code := by
  unfold State.unsuspend
  split
  · rfl
  · rename_i h
    exact (Sparse.drop_eq_self (Sparse.find_eq_none_iff.1 h)).symm

@[simp] theorem State.unsuspend_table (s : State) (code : Nat) : (s.unsuspend code).table = s.table := by
  rw [(s.unsuspend_reports code).eq]

@[simp] theorem State.unsuspend_nva (s : State) (code : Nat) : (s.unsuspend code).nva = s.nva := by
  rw [(s.unsuspend_reports code).eq]

@[simp] theorem State.unsuspend_daypart (s : State) (code : Nat) : (s.unsuspend code).daypart = s.daypart := by
  rw [(s.unsuspend_reports code).eq]

@[simp] theorem State.unsuspend_stager (s : State) (code : Nat) : (s.unsuspend code).stager = s.stager := by
  rw [(s.unsuspend_reports code).eq]

theorem LiveSound.applyItemRemove {s : State} (h : LiveSound s) (code : Nat) : LiveSound (s.applyItemRemove code) := by
  unfold State.applyItemRemove
  split
  · exact h
  · rename_i i hi
    refine LiveSound.withNva ⟨?_, ?_, ⟨?_, ?_, ?_, ?_⟩⟩ _ <;>
      simp only [State.unsuspend_table, State.unsuspend_suspended, State.unsuspend_daypart, SettingsSound]
    · exact h.items.drop i
    · exact h.settings
    · exact Sparse.rising_drop h.sets.availRising _
    · intro e he
      obtain ⟨he, hne⟩ := Sparse.mem_drop.1 he
      exact h.items.has_drop hi hne (h.sets.availLive e he)
    · exact Sparse.rising_drop h.sets.suspendedRising _
    · intro e he
      obtain ⟨he, hne⟩ := Sparse.mem_drop.1 he
      exact h.items.has_drop hi hne (h.sets.suspendedLive e he)

/-- A vector of promotions with one valid entry written stays valid throughout. -/
theorem promos_set_valid {v : Vector Promotion 32} (h : ∀ i : Fin 32, v[i].valid = true) {j : Fin 32} {p : Promotion}
    (hp : p.valid = true) (i : Fin 32) : (v.set j p)[i].valid = true := by
  simp only [Fin.getElem_fin, Vector.getElem_set]
  split
  · exact hp
  · exact h i

theorem LiveSound.applyEntry {s : State} (h : LiveSound s) {e : StagedEntry} (he : e.valid = true) :
    LiveSound (s.applyEntry e) := by
  unfold State.applyEntry
  cases e with
  | itemSet code body =>
    simp only [StagedEntry.valid, Bool.and_eq_true] at he
    exact h.applyItemSet he.1 he.2
  | itemRemove code => exact h.applyItemRemove code
  | promoSet i p =>
    exact ⟨h.items, ⟨promos_set_valid h.settings.1 he, h.settings.2⟩,
      ⟨h.sets.availRising, h.sets.availLive, h.sets.suspendedRising, h.sets.suspendedLive⟩⟩
  | rulesSet r =>
    exact ⟨h.items, ⟨h.settings.1, he, h.settings.2.2⟩,
      ⟨h.sets.availRising, h.sets.availLive, h.sets.suspendedRising, h.sets.suspendedLive⟩⟩

theorem State.setItemAt_stager (s : State) (i : ItemIndex) (code : Nat) (body : ItemBody) (a : Availability) :
    (s.setItemAt i code body a).stager = s.stager := State.unsuspend_stager _ _

@[simp] theorem State.applyEntry_stager (s : State) (e : StagedEntry) : (s.applyEntry e).stager = s.stager := by
  cases e with
  | itemSet code body =>
    simp only [State.applyEntry, State.applyItemSet]
    split
    · exact s.setItemAt_stager ..
    · split
      · exact s.setItemAt_stager ..
      · rfl
  | itemRemove code =>
    simp only [State.applyEntry, State.applyItemRemove]
    split
    · rfl
    · exact State.unsuspend_stager _ _
  | promoSet i p => rfl
  | rulesSet r => rfl

@[simp] theorem State.applyEntries_stager (l : List StagedEntry) (s : State) :
    (l.foldl State.applyEntry s).stager = s.stager :=
  List.foldlRecOn l State.applyEntry (motive := fun t => t.stager = s.stager) rfl
    fun t ht e _ => (t.applyEntry_stager e).trans ht

theorem LiveSound.applyEntries {s : State} (h : LiveSound s) {l : List StagedEntry} (hl : ∀ e ∈ l, e.valid = true) :
    LiveSound (l.foldl State.applyEntry s) :=
  List.foldlRecOn l State.applyEntry h fun _ ht e he => ht.applyEntry (hl e he)

theorem Sound.applyCommit {s : State} (h : Sound s) : Sound s.applyCommit := by
  unfold State.applyCommit
  split
  · exact h
  · rename_i c hc
    split
    · have hlive := h.live.applyEntries (h.stager.commit c hc).1.2.2
      refine ⟨hlive.congr rfl rfl rfl, ?_, ?_⟩
      · simpa using h.stager.staging
      · simp
    · exact h

/-! ### Availability -/

theorem ItemsSound.applyAvail {t : PriceTable} (h : ItemsSound t.items) (e : Nat × Availability) :
    ItemsSound (t.applyAvail e).items ∧ ∀ c, (t.applyAvail e).has c = t.has c := by
  unfold PriceTable.applyAvail
  split
  · exact ⟨h, fun _ => rfl⟩
  · split
    · exact ⟨h, fun _ => rfl⟩
    · rename_i i hi _ it hit
      obtain ⟨it', hit', hc⟩ := h.indexOf_iff.1 hi
      rw [hit] at hit'
      cases hit'
      have hv := h.2.2 _ (PriceTable.mem_of_item hit)
      exact ⟨h.put hv.1 hv.2 fun e he hce => congrArg Prod.fst (h.key_unique he (PriceTable.mem_of_item hit) hce),
        PriceTable.has_putItem_same h.1 hit rfl⟩

end Sys2Proof.Machine
end

section
/-! SUPPORT. What the parts of a render begin leave alone, each said once as an equation, and the promises on the records
under a frame start. -/

namespace Sys2Proof.Machine

/-! ### Styles -/

theorem State.installStyle_eq (s : State) (i : Fin 16) :
    s.installStyle i = { s with former := (s.installStyle i).former, assets := (s.installStyle i).assets } := by
  unfold State.installStyle
  dsimp only
  split <;> rfl

theorem State.installStylesOf_eq (l : List (Fin 16)) (s : State) :
    l.foldl State.installStyle s =
      { s with former := (l.foldl State.installStyle s).former, assets := (l.foldl State.installStyle s).assets } :=
  List.foldlRecOn l State.installStyle (motive := fun t => t = { s with former := t.former, assets := t.assets }) rfl
    fun t ht i _ => by
      rw [t.installStyle_eq i]
      generalize (t.installStyle i).former = f
      generalize (t.installStyle i).assets = a
      rw [ht]

theorem State.installStyles_eq (s : State) :
    s.installStyles = { s with former := s.installStyles.former, assets := s.installStyles.assets } :=
  State.installStylesOf_eq _ s

/-! ### Scenes -/

theorem State.exchangeScene_eq (s : State) (p : Fin 4) :
    s.exchangeScene p = { s with scenes := (s.exchangeScene p).scenes, assets := (s.exchangeScene p).assets } := by
  unfold State.exchangeScene
  dsimp only
  split <;> rfl

theorem State.exchangeScenesOf_eq (l : List (Fin 4)) (s : State) :
    l.foldl State.exchangeScene s =
      { s with scenes := (l.foldl State.exchangeScene s).scenes, assets := (l.foldl State.exchangeScene s).assets } :=
  List.foldlRecOn l State.exchangeScene (motive := fun t => t = { s with scenes := t.scenes, assets := t.assets }) rfl
    fun t ht p _ => by
      rw [t.exchangeScene_eq p]
      generalize (t.exchangeScene p).scenes = f
      generalize (t.exchangeScene p).assets = a
      rw [ht]

theorem State.exchangeScenes_eq (s : State) :
    s.exchangeScenes = { s with scenes := s.exchangeScenes.scenes, assets := s.exchangeScenes.assets } :=
  State.exchangeScenesOf_eq _ s

/-! ### Panel settings -/

theorem State.installSettings_eq (s : State) (p : Fin 4) :
    s.installSettings p = { s with panel := (s.installSettings p).panel, engine := (s.installSettings p).engine } := by
  unfold State.installSettings
  dsimp only
  split <;> rfl

theorem State.installSettingsOf_eq (l : List (Fin 4)) (s : State) :
    l.foldl State.installSettings s =
      { s with panel := (l.foldl State.installSettings s).panel, engine := (l.foldl State.installSettings s).engine } :=
  List.foldlRecOn l State.installSettings (motive := fun t => t = { s with panel := t.panel, engine := t.engine }) rfl
    fun t ht p _ => by
      rw [t.installSettings_eq p]
      generalize (t.installSettings p).panel = f
      generalize (t.installSettings p).engine = a
      rw [ht]

theorem State.installAllSettings_eq (s : State) :
    s.installAllSettings = { s with panel := s.installAllSettings.panel, engine := s.installAllSettings.engine } :=
  State.installSettingsOf_eq _ s

/-! ### Availability and the live daypart -/

theorem PriceTable.applyAvail_eq (t : PriceTable) (e : Nat × Availability) :
    t.applyAvail e = { t with items := (t.applyAvail e).items } := by
  unfold PriceTable.applyAvail
  split
  · rfl
  · split <;> rfl

theorem PriceTable.applyAvails_eq (l : List (Nat × Availability)) (t : PriceTable) :
    l.foldl PriceTable.applyAvail t = { t with items := (l.foldl PriceTable.applyAvail t).items } :=
  List.foldlRecOn l PriceTable.applyAvail (motive := fun u => u = { t with items := u.items }) rfl
    fun u hu e _ => by
      rw [u.applyAvail_eq e]
      generalize (u.applyAvail e).items = m
      rw [hu]

theorem State.fixDaypart_eq (s : State) :
    s.fixDaypart = { s with
      daypart := { s.daypart with live := s.daypart.choose s.table.rules },
      link := s.fixDaypart.link, port := s.fixDaypart.port } := by
  unfold State.fixDaypart
  dsimp only
  split <;> rfl

/-! ### The promises on the records -/

theorem ItemsSound.applyAvails {t : PriceTable} (h : ItemsSound t.items) (l : List (Nat × Availability)) :
    ItemsSound (l.foldl PriceTable.applyAvail t).items ∧ ∀ c, (l.foldl PriceTable.applyAvail t).has c = t.has c := by
  induction l generalizing t with
  | nil => exact ⟨h, fun _ => rfl⟩
  | cons e l ih =>
    obtain ⟨he, hc⟩ := h.applyAvail e
    obtain ⟨hl, hcl⟩ := ih he
    exact ⟨hl, fun c => (hcl c).trans (hc c)⟩

theorem Sound.applyPendingAvail {s : State} (h : Sound s) : Sound s.applyPendingAvail := by
  obtain ⟨hi, hc⟩ := h.live.items.applyAvails s.table.pendingAvail
  refine ⟨⟨hi, ?_, rfl, by simp [State.applyPendingAvail], h.live.sets.suspendedRising, ?_⟩, h.stager⟩
  · unfold SettingsSound State.applyPendingAvail
    rw [PriceTable.applyAvails_eq]
    exact h.live.settings
  · intro e he
    exact (hc e.1).trans (h.live.sets.suspendedLive e he)

theorem Sound.fixDaypart {s : State} (h : Sound s) : Sound s.fixDaypart := by
  rw [s.fixDaypart_eq]
  exact h.congr rfl rfl rfl rfl

theorem Sound.installStyles {s : State} (h : Sound s) : Sound s.installStyles := by
  rw [s.installStyles_eq]
  exact h.congr rfl rfl rfl rfl

theorem Sound.exchangeScenes {s : State} (h : Sound s) : Sound s.exchangeScenes := by
  rw [s.exchangeScenes_eq]
  exact h.congr rfl rfl rfl rfl

theorem Sound.installAllSettings {s : State} (h : Sound s) : Sound s.installAllSettings := by
  rw [s.installAllSettings_eq]
  exact h.congr rfl rfl rfl rfl

theorem Sound.startJob {s : State} (h : Sound s) : Sound s.startJob := h.congr rfl rfl rfl rfl

theorem Sound.renderBegin {s : State} (h : Sound s) : Sound s.renderBegin :=
  h.applyCommit.applyPendingAvail.fixDaypart.installStyles.exchangeScenes.installAllSettings.startJob

theorem Sound.engineStart {s : State} (h : Sound s) : Sound s.engineStart := by
  unfold State.engineStart
  split
  · exact h
  · split
    · exact Sound.renderBegin (s := s.exchange) (h.congr rfl rfl rfl rfl)
    all_goals exact h.congr rfl rfl rfl rfl

theorem Sound.panelStart {s : State} (h : Sound s) : Sound s.panelStart := h.congr rfl rfl rfl rfl

theorem Sound.startPeriod {s : State} (h : Sound s) : Sound s.startPeriod := h.congr rfl rfl rfl rfl

end Sys2Proof.Machine
end

section
/-! SUPPORT. What the parsers of Chapter 12's forms hand on is valid. -/

namespace Sys2Proof.Machine

/-! ### Items -/

theorem formPrice_isSome (l : List Byte) (k : Nat) : (formPrice l k).isSome = (byteAt l 2).testBit k := by
  unfold formPrice
  split <;> simp_all

theorem formPrice_valid {l : List Byte} {k : Nat} (h : formPriceOk l k = true) : validPrice (formPrice l k) = true := by
  unfold formPriceOk at h
  unfold formPrice validPrice
  split <;> simp_all

/-- A presence byte with a price bit set shows one of the four. -/
theorem testBit_of_mod16 {n : Nat} (hn : n < 32) (h : n % 16 ≠ 0) :
    (n.testBit 0 || n.testBit 1 || n.testBit 2 || n.testBit 3) = true := by
  have : ∀ n < 32, n % 16 ≠ 0 → (n.testBit 0 || n.testBit 1 || n.testBit 2 || n.testBit 3) = true := by decide
  exact this n hn h

/-- R24: an item form taken carries a valid code and a valid body. -/
theorem parseItem_valid {l : List Byte} {code : Nat} {body : ItemBody} (h : parseItem l = some (code, body)) :
    validCode code = true ∧ body.valid = true := by
  unfold parseItem at h
  split at h
  · rename_i hok
    simp only [Bool.and_eq_true, decide_eq_true_eq, Bool.not_eq_true', decide_eq_false_iff_not] at hok
    obtain ⟨⟨⟨⟨⟨⟨⟨hcode, hlt⟩, hsome⟩, h0⟩, h1⟩, h2⟩, h3⟩, hpromo⟩ := hok
    obtain ⟨rfl, rfl⟩ := Prod.mk.inj (Option.some.inj h)
    refine ⟨hcode, ?_⟩
    have hbits := testBit_of_mod16 hlt hsome
    have hp : ((if (byteAt l 2).testBit 4 = true then some (byteAt l 15) else none).all fun i => decide (i < 32)) = true := by
      unfold formPromoOk at hpromo
      split <;> simp_all
      omega
    simp only [ItemBody.valid, Bool.and_eq_true]
    exact ⟨⟨⟨⟨⟨by simpa [formPrice_isSome] using hbits, formPrice_valid h0⟩, formPrice_valid h1⟩, formPrice_valid h2⟩,
      formPrice_valid h3⟩, hp⟩
  · cases h

/-! ### Promotions and rules -/

/-- R26: a promotion form taken carries a valid promotion. -/
theorem parsePromo_valid {l : List Byte} {p : Promotion} (h : parsePromo l = some p) : p.valid = true := by
  unfold parsePromo at h
  split at h
  · cases h
  · dsimp only at h
    split at h
    · rename_i hok
      cases h
      exact (Bool.and_eq_true _ _ ▸ hok).2
    · cases h

/-- R26: a rules form taken carries valid rules. -/
theorem parseRules_valid {l : List Byte} {r : Rules} (h : parseRules l = some r) : r.valid = true := by
  unfold parseRules at h
  split at h
  · dsimp only at h
    split at h
    · rename_i hok
      cases h
      exact hok
    · cases h
  · cases h

/-! ### Schedules -/

/-- R44: entries taken from a position on rise above the start minute before them, and there are as many as were read. -/
theorem parseEntries_rising {l : List Byte} {n k : Nat} {low : Option Nat} {es : List ScheduleEntry}
    (h : parseEntries l n k low = .ok es) : startsRising low es = true ∧ es.length = n := by
  induction n generalizing k low es with
  | zero =>
    cases h
    exact ⟨rfl, rfl⟩
  | succ n ih =>
    unfold parseEntries at h
    dsimp only at h
    split at h
    · cases h
    · split at h
      · rename_i hok
        split at h
        · rename_i es' hes
          cases h
          obtain ⟨hr, hl⟩ := ih hes
          exact ⟨by simpa only [startsRising, Bool.and_eq_true] using ⟨by simpa using hok, hr⟩, by simp [hl]⟩
        · cases h
      · cases h

/-- R43, R44: a schedule payload taken carries a valid schedule. -/
theorem parseSchedule_valid {l : List Byte} {es : List ScheduleEntry} (h : parseSchedule l = .ok es) :
    scheduleValid es = true := by
  unfold parseSchedule at h
  dsimp only at h
  split at h
  · rename_i hn
    obtain ⟨hr, hl⟩ := parseEntries_rising h
    simp [scheduleValid, hr, hl, hn]
  · cases h

theorem standardSchedule_valid (r : Rules) : scheduleValid (standardSchedule r) = true := by
  simp [standardSchedule, scheduleValid, startsRising]

/-! ### Slots of the array -/

theorem slotKind_itemSlot (i : ItemIndex) : slotKind (itemSlot i) = .item i := by
  simp [slotKind, itemSlot]

theorem slotKind_rulesSlot : slotKind rulesSlot = .rules := by decide

theorem slotKind_scheduleSlot : slotKind scheduleSlot = .schedule := by decide

theorem slotKind_promoSlot (i : Fin 32) : slotKind (promoSlot i) = .promo i := by
  have h1 : ¬ 513 + i.val < 512 := by omega
  have h2 : ¬ 513 + i.val = 512 := by omega
  have h3 : 513 + i.val - 513 < 32 := by omega
  simp [slotKind, promoSlot, h1, h2]

/-- R51: every slot backs one position. -/
theorem slot_cases (k : SlotId) :
    (∃ i, k = itemSlot i) ∨ k = rulesSlot ∨ (∃ i, k = promoSlot i) ∨ k = scheduleSlot := by
  by_cases h1 : k.val < 512
  · exact .inl ⟨⟨k.val, h1⟩, rfl⟩
  · by_cases h2 : k.val = 512
    · exact .inr (.inl (Fin.ext h2))
    · by_cases h3 : k.val = 545
      · exact .inr (.inr (.inr (Fin.ext h3)))
      · exact .inr (.inr (.inl ⟨⟨k.val - 513, by omega⟩, Fin.ext (by simp only [promoSlot]; omega)⟩))

/-- R53: a valid finding is what the slot holds, and it fits the slot's position. -/
theorem loadFinding_valid {k : SlotId} {torn : Option SlotId} {v : NvSlot} {c : Bool} {r : SlotRecord}
    (h : loadFinding k torn v = .valid c r) : r = v.record ∧ r.validFor (slotKind k) = true := by
  unfold loadFinding at h
  split at h
  · cases h
  · split at h
    · cases h
    · cases h
    all_goals
      split at h
      · rename_i hv
        cases h
        exact ⟨rfl, hv⟩
      · cases h

end Sys2Proof.Machine
end

section
/-! SUPPORT. StepKeepsRecordsAndSets: the promises under every request, content command and event of the part. -/

namespace Sys2Proof.Machine

/-! ### The change stager -/

theorem CommitSound.withState {c : CommitRecord} (h : CommitSound c) {st : CommitState} (hs : st ≠ .checking) :
    CommitSound { c with state := st } := ⟨h.1, fun e => absurd e hs⟩

theorem EntriesSound.nil : EntriesSound [] := by simp [EntriesSound]

theorem StagerSound.noCommit {st : Stager} (h : StagerSound st) (n : BitVec 16) (o : LastOutcome) :
    StagerSound { st with commit := none, commitNumber := n, lastOutcome := o } := ⟨h.staging, by simp⟩

theorem StagerSound.setCommit {st : Stager} (h : StagerSound st) {c : CommitRecord} (hc : CommitSound c) :
    StagerSound { st with commit := some c } := by
  refine ⟨h.staging, ?_⟩
  rintro _ ⟨⟩
  exact hc

theorem StagerSound.fixExpiry {st : Stager} (h : StagerSound st) : StagerSound st.fixExpiry := by
  unfold Stager.fixExpiry
  split
  · rename_i c hc
    split
    · exact h.setCommit ((h.commit c hc).withState (by simp))
    all_goals exact h
  · exact h

theorem StagerSound.setStaging {st : Stager} (h : StagerSound st) {l : List StagedEntry} (hl : EntriesSound l) :
    StagerSound { st with staging := l } := ⟨hl, h.commit⟩

/-- R23: replacing in place keeps every key where it is. -/
theorem replaceEntry_keys (e : StagedEntry) (l : List StagedEntry) :
    (replaceEntry e l).map StagedEntry.key = l.map StagedEntry.key := by
  simp only [replaceEntry, List.map_map]
  refine List.map_congr_left fun x _ => ?_
  by_cases h : x.key = e.key <;> simp [h]

theorem EntriesSound.replace {l : List StagedEntry} (h : EntriesSound l) {e : StagedEntry} (he : e.valid = true) :
    EntriesSound (replaceEntry e l) := by
  refine ⟨by simpa [replaceEntry] using h.1, replaceEntry_keys e l ▸ h.2.1, ?_⟩
  intro x hx
  obtain ⟨y, hy, rfl⟩ := List.mem_map.1 hx
  split
  · exact he
  · exact h.2.2 y hy

theorem EntriesSound.append {l : List StagedEntry} (h : EntriesSound l) {e : StagedEntry} (he : e.valid = true)
    (hlen : l.length < 64) (hnew : ∀ x ∈ l, x.key ≠ e.key) : EntriesSound (l ++ [e]) := by
  refine ⟨by simp; omega, ?_, ?_⟩
  · rw [List.map_append, List.nodup_append]
    refine ⟨h.2.1, by simp, ?_⟩
    intro a ha b hb
    obtain ⟨x, hx, rfl⟩ := List.mem_map.1 ha
    obtain rfl : b = e.key := by simpa using hb
    exact hnew x hx
  · intro x hx
    rcases List.mem_append.1 hx with hx | hx
    · exact h.2.2 x hx
    · obtain rfl : x = e := by simpa using hx
      exact he

theorem Sound.stageEntry {s : State} (h : Sound s) {e : StagedEntry} (he : e.valid = true) :
    Sound (stageEntry e s).1 := by
  unfold Machine.stageEntry
  dsimp only
  split
  · exact ⟨h.live.congr rfl rfl rfl, h.stager.setStaging (h.stager.staging.replace he)⟩
  · rename_i hany
    split
    · rename_i hlen
      exact ⟨h.live.congr rfl rfl rfl, h.stager.setStaging (h.stager.staging.append he hlen (by simpa using hany))⟩
    · exact h

/-! ### Requests, owner by owner -/

theorem Sound.itemStageOwner {s : State} (h : Sound s) (l : List Byte) : Sound (itemStageOwner l s).1 := by
  unfold Machine.itemStageOwner
  split
  · rename_i hp
    obtain ⟨hc, hb⟩ := parseItem_valid hp
    exact h.stageEntry (by simp [StagedEntry.valid, hc, hb])
  · exact h

theorem Sound.itemRemoveOwner {s : State} (h : Sound s) (l : List Byte) : Sound (itemRemoveOwner l s).1 := by
  unfold Machine.itemRemoveOwner
  split
  · rename_i hc
    exact h.stageEntry hc
  · exact h

theorem Sound.promoStageOwner {s : State} (h : Sound s) (l : List Byte) : Sound (promoStageOwner l s).1 := by
  unfold Machine.promoStageOwner
  split
  · split
    · rename_i hp
      exact h.stageEntry (parsePromo_valid hp)
    · exact h
  · exact h

theorem Sound.rulesStageOwner {s : State} (h : Sound s) (l : List Byte) : Sound (rulesStageOwner l s).1 := by
  unfold Machine.rulesStageOwner
  split
  · rename_i hp
    exact h.stageEntry (parseRules_valid hp)
  · exact h

theorem Sound.stageAbortOwner {s : State} (h : Sound s) : Sound (stageAbortOwner s).1 :=
  ⟨h.live.congr rfl rfl rfl, h.stager.setStaging .nil⟩

theorem Sound.commitOwner {s : State} (h : Sound s) (l : List Byte) : Sound (commitOwner l s).1 := by
  unfold Machine.commitOwner
  split
  · exact h
  · split
    · exact h
    · split
      · exact h
      · exact ⟨h.live.congr rfl rfl rfl, h.stager.setCommit ⟨.nil, fun _ => rfl⟩⟩

theorem Sound.applyOwner {s : State} (h : Sound s) : Sound (applyOwner s).1 := by
  unfold Machine.applyOwner
  split
  · exact h
  · rename_i c hc
    split
    · exact h
    · exact ⟨h.live.congr rfl rfl rfl, h.stager.setCommit ((h.stager.commit c hc).withState (by simp))⟩

theorem Sound.commitCancelOwner {s : State} (h : Sound s) : Sound (commitCancelOwner s).1 := by
  unfold Machine.commitCancelOwner
  split
  · split <;> exact h
  · split
    · exact ⟨h.live.congr rfl rfl rfl, h.stager.noCommit _ _⟩
    all_goals exact h

/-- R9: the pairs handed on all name live items. -/
theorem checkPairs_live {t : PriceTable} {l : List Byte} {n k : Nat} {pairs : List (Nat × Availability)}
    (h : checkPairs t l n k = .ok pairs) : ∀ e ∈ pairs, t.has e.1 = true := by
  induction n generalizing k pairs with
  | zero =>
    cases h
    simp
  | succ n ih =>
    unfold checkPairs at h
    split at h
    · cases h
    · split at h
      · rename_i hc
        split at h
        · rename_i rest hrest
          cases h
          simpa using ⟨hc, fun a b hab => ih hrest (a, b) hab⟩
        · cases h
      · cases h

theorem enterPairs_sound {t : PriceTable} (pairs : List (Nat × Availability)) (hp : ∀ e ∈ pairs, t.has e.1 = true)
    {m : List (Nat × Availability)} (hr : Sparse.rising m = true) (hl : ∀ e ∈ m, t.has e.1 = true) :
    Sparse.rising (enterPairs m pairs) = true ∧ ∀ e ∈ enterPairs m pairs, t.has e.1 = true := by
  refine List.foldlRecOn pairs _ (motive := fun m => Sparse.rising m = true ∧ ∀ e ∈ m, t.has e.1 = true) ⟨hr, hl⟩ ?_
  rintro m ⟨hr, hl⟩ e he
  refine ⟨Sparse.rising_put hr _ _, fun f hf => ?_⟩
  rcases Sparse.mem_put hf with rfl | hf
  · exact hp e he
  · exact hl f hf

theorem Sound.availSetOwner {s : State} (h : Sound s) (l : List Byte) : Sound (availSetOwner l s).1 := by
  unfold Machine.availSetOwner
  split
  · exact h
  · rename_i pairs hp
    obtain ⟨hr, hl⟩ := enterPairs_sound pairs (checkPairs_live hp) h.live.sets.availRising h.live.sets.availLive
    exact ⟨⟨h.live.items, h.live.settings, hr, hl, h.live.sets.suspendedRising, h.live.sets.suspendedLive⟩, h.stager⟩

theorem Sound.scheduleSetOwner {s : State} (h : Sound s) (l : List Byte) : Sound (scheduleSetOwner l s).1 := by
  unfold Machine.scheduleSetOwner
  split
  · exact h
  · rename_i es hes
    exact ⟨⟨h.live.items, ⟨h.live.settings.1, h.live.settings.2.1, parseSchedule_valid hes⟩,
      h.live.sets.availRising, h.live.sets.availLive, h.live.sets.suspendedRising, h.live.sets.suspendedLive⟩, h.stager⟩

theorem Sound.daypartForceOwner {s : State} (h : Sound s) (l : List Byte) : Sound (daypartForceOwner l s).1 := by
  unfold Machine.daypartForceOwner
  split
  · exact h
  · exact h.congr rfl rfl rfl rfl

theorem Sound.timeSetOwner {s : State} (h : Sound s) (l : List Byte) : Sound (timeSetOwner l s).1 := by
  unfold Machine.timeSetOwner
  split
  · exact h.congr rfl rfl rfl rfl
  · exact h

theorem Sound.itemReadOwner {s : State} (h : Sound s) (l : List Byte) : Sound (itemReadOwner l s).1 := by
  unfold Machine.itemReadOwner
  dsimp only
  split
  · exact h
  · split
    · exact h
    · rename_i i _
      split
      · exact h.readBody i
      · split <;> exact h.readBody i

theorem Sound.unsuspend {s : State} (h : Sound s) (code : Nat) : Sound (s.unsuspend code) :=
  ⟨h.live.unsuspend code, (s.unsuspend_stager code).symm ▸ h.stager⟩

theorem Sound.suspendClearOwner {s : State} (h : Sound s) (l : List Byte) : Sound (suspendClearOwner l s).1 := by
  unfold Machine.suspendClearOwner
  dsimp only
  split
  · exact h
  · split
    · exact h
    · exact h
    · exact h
    · exact h.unsuspend _

theorem Sound.checkTestOwner {s : State} (h : Sound s) : Sound (checkTestOwner s).1 := by
  unfold Machine.checkTestOwner
  split
  · exact h
  · exact h.congr rfl rfl rfl rfl

theorem Sound.statusOwner {s : State} (h : Sound s) : Sound (statusOwner s).1 := h.congr rfl rfl rfl rfl

/-- Every request's owner keeps the promises. -/
theorem Sound.owner {s : State} (h : Sound s) {kind : Byte} {l : List Byte} {r : Request} (hr : requestOf kind l = some r) :
    Sound (r.owner s).1 := by
  unfold requestOf at hr
  split at hr
  case h_1 => cases hr; exact h.statusOwner
  case h_2 => cases hr; exact h.itemStageOwner l
  case h_3 => cases hr; exact h.itemRemoveOwner l
  case h_4 => cases hr; exact h.promoStageOwner l
  case h_5 => cases hr; exact h.rulesStageOwner l
  case h_6 => cases hr; exact h.stageAbortOwner
  case h_7 => cases hr; exact h.commitOwner l
  case h_8 => cases hr; exact h.applyOwner
  case h_9 => cases hr; exact h.commitCancelOwner
  case h_10 => cases hr; exact h.availSetOwner l
  case h_11 => cases hr; exact h.scheduleSetOwner l
  case h_12 => cases hr; exact h.daypartForceOwner l
  case h_13 => cases hr; exact h.timeSetOwner l
  case h_14 => cases hr; exact h.itemReadOwner l
  case h_15 => cases hr; exact h
  case h_16 => cases hr; exact h.suspendClearOwner l
  case h_17 => cases hr; exact h
  case h_18 => cases hr; exact h.checkTestOwner
  case h_19 => cases hr

/-! ### The POS link -/

theorem Sound.holdAnswer {s : State} (h : Sound s) (kind : Byte) (l : List Byte) : Sound (s.holdAnswer kind l) :=
  h.congr rfl rfl rfl rfl

theorem Sound.setReceiver {s : State} (h : Sound s) (r : Receiver) : Sound (s.setReceiver r) := h.congr rfl rfl rfl rfl

theorem Sound.withdrawAnswer {s : State} (h : Sound s) : Sound s.withdrawAnswer := by
  rcases s.withdrawAnswer_eq with e | ⟨a, -, -, e⟩ <;> rw [e]
  · exact h
  · refine ⟨h.live.congr rfl rfl rfl, ?_⟩
    dsimp only
    split
    · exact h.stager.fixExpiry
    · exact h.stager

theorem Sound.frameEnd {s : State} (h : Sound s) : Sound s.frameEnd := h.withdrawAnswer.congr rfl rfl rfl rfl

theorem Sound.onFrame {s : State} (h : Sound s) {f : State → State} (hf : ∀ t, Sound t → Sound (f t)) :
    Sound (s.onFrame f) := by
  unfold State.onFrame
  split
  · exact h
  · exact hf _ h.frameEnd

theorem Sound.take {s : State} (h : Sound s) (a : Addressing) {r : Request} (hr : Sound (r.owner s).1) :
    Sound (s.take a r) := by
  unfold State.take
  split
  · split
    · exact h.holdAnswer _ _
    · split
      · exact h.holdAnswer _ _
      · split
        · split
          · exact hr.holdAnswer _ _
          · exact hr
        · exact h.holdAnswer _ _
  · split
    · exact h
    · exact hr

theorem Sound.takeKind {s : State} (h : Sound s) (a : Addressing) (kind : Byte) (l : List Byte) :
    Sound (s.takeKind a kind l) := by
  unfold State.takeKind
  split
  · rename_i r hr
    exact h.take a (h.owner hr)
  · unfold State.takeUnknown
    split
    · split
      · exact h.holdAnswer _ _
      · split <;> exact h.holdAnswer _ _
    · exact h

theorem Sound.acceptFrame {s : State} (h : Sound s) (frame : List Byte) : Sound (s.acceptFrame frame) := by
  unfold State.acceptFrame
  split
  · exact h.takeKind _ _ _
  · exact h

theorem Sound.receiveByte {s : State} (h : Sound s) (b : Byte) (fe : Bool) : Sound (s.receiveByte b fe) := by
  unfold State.receiveByte
  split
  · exact h
  · split
    · exact h.withdrawAnswer.setReceiver _
    · exact h.setReceiver _
  · split
    · exact h.setReceiver _
    · unfold State.assembleByte
      split
      · exact h.setReceiver _
      · split
        · exact h.onFrame fun t ht => ht.acceptFrame _
        · exact h.setReceiver _

/-- A request's row keeps the promises. -/
theorem Sound.request {s : State} (h : Sound s) (a : Addressing) {kind : Byte} {l : List Byte} {r : Request}
    (hr : requestOf kind l = some r) : Sound (s.onFrame fun t => t.take a r) :=
  h.onFrame fun _ ht => ht.take a (ht.owner hr)

/-! ### Content commands, owner by owner -/

theorem Sound.completed {s : State} (h : Sound s) (code : Byte) (go : BitVec 32) (st : ContentStatus) (l : List Byte) :
    Sound (s.completed code go st l) := h.congr rfl rfl rfl rfl

theorem Sound.takeCommand {s : State} (h : Sound s) {owner : State → CommandResult}
    (ho : ∀ t, Sound t → Sound (owner t).state) (code : Byte) (go : BitVec 32) : Sound (s.takeCommand code go owner) := by
  have ht : Sound (s.tagged go) := h.congr rfl rfl rfl rfl
  unfold State.takeCommand CommandResult.complete
  dsimp only
  split
  · exact ht.completed _ _ _ _
  · exact (ho _ ht).completed _ _ _ _

theorem Sound.writeRecord {s : State} (h : Sound s) (l : List (Nat × List Byte)) : Sound (s.writeRecord l) :=
  h.congr rfl rfl rfl rfl

theorem Sound.withAssets {s : State} (h : Sound s) (m : AssetMap) : Sound { s with assets := m } := h.congr rfl rfl rfl rfl

theorem Sound.setPanel {s : State} (h : Sound s) (p : Fin 4) (r : PanelRecord) : Sound (s.setPanel p r) :=
  h.congr rfl rfl rfl rfl

theorem Sound.setScenes {s : State} (h : Sound s) (p : Fin 4) (v : PanelScenes) : Sound (s.setScenes p v) :=
  h.congr rfl rfl rfl rfl

theorem Sound.raiseContent {s : State} (h : Sound s) (f : ContentFlag) : Sound (s.raiseContent f) := h.congr rfl rfl rfl rfl

theorem Sound.takeAssetOpen {s : State} (h : Sound s) (go : BitVec 32) (f : OpenForm) : Sound (takeAssetOpen go f s) := by
  refine h.takeCommand (fun t ht => ?_) _ _
  unfold Machine.assetOpenOwner
  split
  · exact ht
  · split
    · exact ht
    · split
      · exact ht
      · split
        · exact ht
        · split
          · exact ht
          · split
            · exact ht
            · split
              · exact ht
              · exact ht.withAssets _

theorem Sound.takeAssetClose {s : State} (h : Sound s) (go : BitVec 32) (n : BitVec 16) : Sound (takeAssetClose go n s) := by
  refine h.takeCommand (fun t ht => ?_) _ _
  unfold Machine.assetCloseOwner
  split
  · exact ht
  · split
    · split
      · exact ht
      · exact ht.withAssets _
    all_goals exact ht

theorem Sound.takeAssetAbort {s : State} (h : Sound s) (go : BitVec 32) (n : BitVec 16) : Sound (takeAssetAbort go n s) := by
  refine h.takeCommand (fun t ht => ?_) _ _
  unfold Machine.assetAbortOwner
  split
  · exact ht
  · split
    · exact ht.withAssets _
    all_goals exact ht

theorem Sound.takeAssetFree {s : State} (h : Sound s) (go : BitVec 32) (n : BitVec 16) : Sound (takeAssetFree go n s) := by
  refine h.takeCommand (fun t ht => ?_) _ _
  unfold Machine.assetFreeOwner
  split
  · exact ht
  · split
    · exact ht
    · exact ht.withAssets _

theorem Sound.takeAssetQuery {s : State} (h : Sound s) (go : BitVec 32) (n : BitVec 16) : Sound (takeAssetQuery go n s) := by
  refine h.takeCommand (fun t ht => ?_) _ _
  unfold Machine.assetQueryOwner
  split
  · exact ht
  · split <;> exact ht

theorem Sound.takeSceneBegin {s : State} (h : Sound s) (go : BitVec 32) (f : SceneForm) : Sound (takeSceneBegin go f s) := by
  refine h.takeCommand (fun t ht => ?_) _ _
  unfold Machine.sceneBeginOwner
  split
  · exact (ht.withAssets _).setScenes _ _
  · exact ht

theorem Sound.takeLayerAdd {s : State} (h : Sound s) (go : BitVec 32) (f : LayerForm) : Sound (takeLayerAdd go f s) := by
  refine h.takeCommand (fun t ht => ?_) _ _
  unfold Machine.layerAddOwner
  split
  · split
    · exact ht
    · split
      · exact ht
      · split
        · exact ht
        · split
          · exact ht
          · exact (ht.withAssets _).setScenes _ _
  · exact ht

theorem Sound.takeSceneSubmit {s : State} (h : Sound s) (go : BitVec 32) (p : Byte) : Sound (takeSceneSubmit go p s) := by
  refine h.takeCommand (fun t ht => ?_) _ _
  unfold Machine.sceneSubmitOwner
  split
  · exact ht
  · dsimp only
    split
    · exact ht
    · exact (ht.withAssets _).setScenes _ _

theorem Sound.discardBuilding {s : State} (h : Sound s) (p : Fin 4) : Sound (s.discardBuilding p) :=
  (h.withAssets _).setScenes _ _

theorem Sound.takeSceneDiscard {s : State} (h : Sound s) (go : BitVec 32) (p : Byte) : Sound (takeSceneDiscard go p s) := by
  refine h.takeCommand (fun t ht => ?_) _ _
  unfold Machine.sceneDiscardOwner
  split
  · exact ht
  · split
    · exact ht
    · exact ht.discardBuilding _

theorem Sound.takeStyleSet {s : State} (h : Sound s) (go : BitVec 32) (f : StyleForm) : Sound (takeStyleSet go f s) := by
  refine h.takeCommand (fun t ht => ?_) _ _
  unfold Machine.styleSetOwner
  split
  · split
    · exact ht
    · split
      · exact ht
      · exact ht.congr rfl rfl rfl rfl
  · exact ht

theorem Sound.takePanelSet {s : State} (h : Sound s) (go : BitVec 32) (p e r : Byte) : Sound (takePanelSet go p e r s) := by
  refine h.takeCommand (fun t ht => ?_) _ _
  unfold Machine.panelSetOwner
  split
  · exact ht.setPanel _ _
  · exact ht

theorem Sound.takeCurveSet {s : State} (h : Sound s) (go : BitVec 32) (f : CurveForm) : Sound (takeCurveSet go f s) := by
  refine h.takeCommand (fun t ht => ?_) _ _
  unfold Machine.curveSetOwner
  split
  · exact ht
  · split
    · exact ht.setPanel _ _
    · exact ht

theorem Sound.takeThermalSet {s : State} (h : Sound s) (go : BitVec 32) (f : ThermalForm) : Sound (takeThermalSet go f s) := by
  refine h.takeCommand (fun t ht => ?_) _ _
  unfold Machine.thermalSetOwner
  split
  · dsimp only
    split
    · exact ht.setPanel _ _
    · exact ht
  · exact ht

theorem Sound.takeBacklightRestart {s : State} (h : Sound s) (go : BitVec 32) (p : Byte) :
    Sound (takeBacklightRestart go p s) := by
  refine h.takeCommand (fun t ht => ?_) _ _
  unfold Machine.backlightRestartOwner
  split
  · exact ht
  · split
    · exact (ht.setPanel _ _).raiseContent _
    all_goals exact ht

theorem Sound.takeFrameRateSet {s : State} (h : Sound s) (go : BitVec 32) (r : Byte) : Sound (takeFrameRateSet go r s) := by
  refine h.takeCommand (fun t ht => ?_) _ _
  unfold Machine.frameRateSetOwner
  split
  · exact ht
  · exact ht.congr rfl rfl rfl rfl

theorem Sound.takeItemQuery {s : State} (h : Sound s) (go : BitVec 32) (c : BitVec 16) : Sound (takeItemQuery go c s) := by
  refine h.takeCommand (fun t ht => ?_) _ _
  unfold Machine.itemQueryOwner
  split
  · exact ht
  · split
    · exact ht
    · dsimp only
      split <;> exact ht.readBody _

theorem Sound.takeStatusQuery {s : State} (h : Sound s) (go : BitVec 32) : Sound (takeStatusQuery go s) :=
  h.takeCommand (fun _ ht => ht) _ _

theorem Sound.takeCheckTest {s : State} (h : Sound s) (go : BitVec 32) : Sound (takeCheckTest go s) := by
  refine h.takeCommand (fun t ht => ?_) _ _
  unfold Machine.checkTestCommand
  split
  · exact ht
  · exact ht.congr rfl rfl rfl rfl

theorem Sound.takeUnknownCommand {s : State} (h : Sound s) (code : Byte) (go : BitVec 32) :
    Sound (takeUnknownCommand code go s) := h.takeCommand (fun _ ht => ht) _ _

/-- A go-word write keeps the promises, whatever the record holds. -/
theorem Sound.runRecord {s : State} (h : Sound s) (go : BitVec 32) : Sound (s.runRecord go) := by
  unfold State.runRecord
  dsimp only
  split
  case h_1 => exact h.takeAssetOpen go _
  case h_2 => exact h.takeAssetClose go _
  case h_3 => exact h.takeAssetAbort go _
  case h_4 => exact h.takeAssetFree go _
  case h_5 => exact h.takeAssetQuery go _
  case h_6 => exact h.takeSceneBegin go _
  case h_7 => exact h.takeLayerAdd go _
  case h_8 => exact h.takeSceneSubmit go _
  case h_9 => exact h.takeSceneDiscard go _
  case h_10 => exact h.takeStyleSet go _
  case h_11 => exact h.takePanelSet go _ _ _
  case h_12 => exact h.takeCurveSet go _
  case h_13 => exact h.takeThermalSet go _
  case h_14 => exact h.takeBacklightRestart go _
  case h_15 => exact h.takeFrameRateSet go _
  case h_16 => exact h.takeItemQuery go _
  case h_17 => exact h.takeStatusQuery go
  case h_18 => exact h.takeCheckTest go
  case h_19 => exact h.takeUnknownCommand _ go

/-! ### The content window -/

theorem Sound.apertureWrite {s : State} (h : Sound s) (o : Nat) (l : List Byte) : Sound (s.apertureWrite o l) := by
  unfold State.apertureWrite
  dsimp only
  split
  · exact (h.withAssets _).raiseContent _
  · split
    · exact h
    · exact h.withAssets _

theorem Sound.windowWrite {s : State} (h : Sound s) (o : Nat) (l : List Byte) : Sound (s.windowWrite o l) := by
  unfold State.windowWrite
  split
  · exact h.apertureWrite o l
  · split
    · unfold State.controlWrite
      split
      · exact h.runRecord _
      · split
        · exact h.writeRecord _
        · exact h
    · exact h

theorem Sound.windowRead {s : State} (h : Sound s) (o n : Nat) : Sound (s.windowRead o n) := h.congr rfl rfl rfl rfl

end Sys2Proof.Machine
end

section
/-! SUPPORT. StepKeepsRecordsAndSets: the promises under the part's own events, and the theorem over every step. -/

namespace Sys2Proof.Machine

/-! ### The start-up load -/

/-- The promises while the load fills the table: nothing is pending or suspended yet. -/
structure LoadSound (s : State) : Prop where
  items : ItemsSound s.table.items
  settings : SettingsSound s
  avail : s.table.pendingAvail = []
  suspended : s.checker.suspended = []

theorem LoadSound.live {s : State} (h : LoadSound s) : LiveSound s where
  items := h.items
  settings := h.settings
  sets := ⟨h.avail ▸ rfl, by simp [h.avail], h.suspended ▸ rfl, by simp [h.suspended]⟩

theorem LoadSound.congr {s t : State} (h : LoadSound s) (ht : t.table = s.table)
    (hd : t.daypart.schedule = s.daypart.schedule) (hc : t.checker.suspended = s.checker.suspended) : LoadSound t where
  items := ht ▸ h.items
  settings := (h.live.congr ht hd hc).settings
  avail := ht ▸ h.avail
  suspended := hc ▸ h.suspended

/-- The standard settings of a power-on reset are valid. -/
theorem standardPromos_valid (i : Fin 32) : (Vector.replicate 32 Promotion.standard)[i].valid = true := by
  simp only [Fin.getElem_fin, Vector.getElem_replicate]
  decide

theorem standardRules_valid : Rules.standard.valid = true := by decide

theorem LoadSound.beginLoad {s : State} (h : LiveSound s) : LoadSound s.beginLoad where
  items := by simp [State.beginLoad, ItemsSound, Sparse.rising]
  settings := ⟨standardPromos_valid, standardRules_valid, h.settings.2.2⟩
  avail := rfl
  suspended := rfl

/-- The load's faults and slot marks touch no record. -/
theorem LoadSound.loadItemSlot {s : State} (h : LoadSound s) (i : ItemIndex) {f : LoadFinding}
    (hf : ∀ c r, f = .valid c r → r.validFor (.item i) = true) : LoadSound (loadItemSlot s i f) := by
  unfold Machine.loadItemSlot
  dsimp only
  split
  · exact h.congr rfl rfl rfl
  · exact h
  · exact h.congr rfl rfl rfl
  · exact h.congr rfl rfl rfl
  · rename_i c r
    split
    · rename_i code body
      split
      · exact h.congr rfl rfl rfl
      · rename_i hnew
        obtain ⟨hcode, hbody⟩ : validCode code = true ∧ body.valid = true := by
          simpa [SlotRecord.validFor] using hf c _ rfl
        have hfree : ∀ e ∈ s.table.items, e.2.code = code → e.1 = i := fun e he hc =>
          absurd (PriceTable.has_iff.2 ⟨e, he, hc⟩) hnew
        have hp : LoadSound (s.putItem i
            { code := code, body := body, parityFails := false, health := .good, avail := .available }) :=
          ⟨h.items.put hcode hbody hfree, h.settings, h.avail, h.suspended⟩
        split
        · exact hp.congr rfl rfl rfl
        · exact hp
    all_goals exact h

theorem LoadSound.loadOtherSlot {s : State} (h : LoadSound s) (k : SlotId) {f : LoadFinding} (b : Bool)
    {install : State → SlotRecord → State} (hf : ∀ c r, f = .valid c r → LoadSound (install s r)) :
    LoadSound (loadOtherSlot s k f b install) := by
  unfold Machine.loadOtherSlot
  dsimp only
  split
  · exact h.congr rfl rfl rfl
  · exact h
  · exact h.congr rfl rfl rfl
  · split <;> exact h.congr rfl rfl rfl
  · rename_i c r
    have hi := hf c r rfl
    split
    · exact hi.congr rfl rfl rfl
    · exact hi

theorem LoadSound.installRules {s : State} (h : LoadSound s) {r : SlotRecord} (hr : r.validFor .rules = true) :
    LoadSound (installRules s r) := by
  cases r
  case rules r => exact ⟨h.items, ⟨h.settings.1, hr, h.settings.2.2⟩, h.avail, h.suspended⟩
  all_goals exact h

theorem LoadSound.installPromo {s : State} (h : LoadSound s) {i : Fin 32} {r : SlotRecord}
    (hr : r.validFor (.promo i) = true) : LoadSound (installPromo i s r) := by
  cases r
  case promo j p =>
    have hp : p.valid = true := by
      simp only [SlotRecord.validFor, Bool.and_eq_true] at hr
      exact hr.2
    exact ⟨h.items, ⟨promos_set_valid h.settings.1 hp, h.settings.2⟩, h.avail, h.suspended⟩
  all_goals exact h

theorem LoadSound.setSchedule {s : State} (h : LoadSound s) {es : List ScheduleEntry} (he : scheduleValid es = true) :
    LoadSound { s with daypart := { s.daypart with schedule := es } } :=
  ⟨h.items, ⟨h.settings.1, h.settings.2.1, he⟩, h.avail, h.suspended⟩

theorem LoadSound.installSchedule {s : State} (h : LoadSound s) {r : SlotRecord} (hr : r.validFor .schedule = true) :
    LoadSound (installSchedule s r) := by
  cases r
  case schedule es => exact h.setSchedule hr
  all_goals exact h

theorem LoadSound.loadSlot {s : State} (h : LoadSound s) (torn : Option SlotId) (k : SlotId) :
    LoadSound (loadSlot torn s k) := by
  have hvalid : ∀ c r, loadFinding k torn (s.nva.slot k) = .valid c r → r.validFor (slotKind k) = true :=
    fun c r e => (loadFinding_valid e).2
  unfold Machine.loadSlot
  dsimp only
  split <;> rename_i hk <;> rw [hk] at hvalid
  · exact h.loadItemSlot _ hvalid
  · exact h.loadOtherSlot _ _ fun c r e => h.installRules (hvalid c r e)
  · exact h.loadOtherSlot _ _ fun c r e => h.installPromo (hvalid c r e)
  · have hs := h.setSchedule (standardSchedule_valid s.table.rules)
    exact hs.loadOtherSlot _ _ fun c r e => hs.installSchedule (hvalid c r e)

/-! ### The load leaves the change stager -/

@[simp] theorem loadItemSlot_stager (s : State) (i : ItemIndex) (f : LoadFinding) :
    (loadItemSlot s i f).stager = s.stager := by
  unfold loadItemSlot
  dsimp only
  split
  case h_5 =>
    split
    · split
      · rfl
      · split <;> rfl
    all_goals rfl
  all_goals rfl

theorem loadOtherSlot_stager (s : State) (k : SlotId) (f : LoadFinding) (b : Bool) {install : State → SlotRecord → State}
    (hi : ∀ r, (install s r).stager = s.stager) : (loadOtherSlot s k f b install).stager = s.stager := by
  unfold loadOtherSlot
  dsimp only
  split
  case h_4 => split <;> rfl
  case h_5 =>
    split
    · exact hi _
    · exact hi _
  all_goals rfl

@[simp] theorem loadSlot_stager (torn : Option SlotId) (s : State) (k : SlotId) : (loadSlot torn s k).stager = s.stager := by
  unfold loadSlot
  dsimp only
  split
  · exact loadItemSlot_stager ..
  · exact loadOtherSlot_stager s _ _ _ fun r => by cases r <;> rfl
  · exact loadOtherSlot_stager s _ _ _ fun r => by cases r <;> rfl
  · exact loadOtherSlot_stager _ _ _ _ fun r => by cases r <;> rfl

theorem State.loadJournal_reads (s : State) : ReadsBodies s s.loadJournal := by
  unfold State.loadJournal
  split
  · exact s.logFault_reads _
  · exact .refl s

theorem LoadSound.loadJournal {s : State} (h : LoadSound s) : LoadSound s.loadJournal := by
  unfold State.loadJournal
  split
  · exact h.congr rfl rfl rfl
  · exact h

/-- The state in which the load begins to read the slots: the array as it is found, the blocks as the reset left them. -/
def State.loadStart (s : State) (slots : List (SlotId × NvSlot)) (journal : Option Journal) : State :=
  ({ s with nva := s.nva.found slots journal }).beginLoad

/-- The state once the load has passed every slot. -/
def State.loadFold (t : State) : State := (List.finRange 546).foldl (loadSlot t.nva.journal.torn) t.loadJournal

theorem execLoadCompletion_eq (slots : List (SlotId × NvSlot)) (journal : Option Journal) (s : State) :
    execLoadCompletion slots journal s = .next (if s.nva.loading then (s.loadStart slots journal).loadFold.endLoad else s) :=
  rfl

theorem Sound.loadCompletion {s : State} (h : Sound s) (slots : List (SlotId × NvSlot)) (journal : Option Journal) :
    Sound (s.loadStart slots journal).loadFold.endLoad := by
  have hn : LiveSound { s with nva := s.nva.found slots journal } := h.live.withNva _
  have h0 : LoadSound (s.loadStart slots journal).loadJournal := (LoadSound.beginLoad hn).loadJournal
  have hs : (s.loadStart slots journal).loadJournal.stager = s.stager := (State.loadJournal_reads _).stager
  have hall : LoadSound (s.loadStart slots journal).loadFold ∧ (s.loadStart slots journal).loadFold.stager = s.stager := by
    unfold State.loadFold
    exact List.foldlRecOn _ _ (motive := fun t => LoadSound t ∧ t.stager = s.stager) ⟨h0, hs⟩
      fun t ht k _ => ⟨ht.1.loadSlot _ k, (loadSlot_stager _ t k).trans ht.2⟩
  generalize (s.loadStart slots journal).loadFold = u at hall ⊢
  have hu : LoadSound u.endLoad := hall.1.congr rfl rfl rfl
  have hst : u.endLoad.stager = s.stager := hall.2
  exact ⟨hu.live, hst ▸ h.stager⟩

/-! ### The commit check -/

theorem Sound.withStager {s : State} (h : Sound s) {st : Stager} (hs : StagerSound st) : Sound { s with stager := st } :=
  ⟨h.live.congr rfl rfl rfl, hs⟩

theorem Sound.commitAnswer {s : State} (h : Sound s) (l : List Byte) : Sound (s.commitAnswer l) := by
  unfold State.commitAnswer
  dsimp only
  generalize (s.link.answer.isSome || _) = newer
  split
  · exact h.withStager h.stager.fixExpiry
  · exact h.holdAnswer _ _

/-- R33: a record that leaves the check holds the staging list and is CHECKING no more. -/
theorem StagerSound.afterCheck {st : Stager} (h : StagerSound st) (c : CommitRecord) (r : CheckResult) :
    StagerSound (st.afterCheck c r) := by
  unfold Stager.afterCheck
  split
  · refine ⟨.nil, ?_⟩
    rintro _ ⟨⟩
    refine ⟨h.staging, fun e => ?_⟩
    dsimp only at e
    split at e <;> cases e
  all_goals exact h.noCommit _ _

theorem Sound.finishCheck {s : State} (h : Sound s) (c : CommitRecord) : Sound (s.finishCheck c) :=
  (h.withStager (h.stager.afterCheck c _)).commitAnswer _

/-! ### The frame job -/

theorem Sound.onBack {s : State} (h : Sound s) (p : Fin 4) (f : FrameBuffer → FrameBuffer) : Sound (s.onBack p f) :=
  h.congr rfl rfl rfl rfl

theorem Sound.setJob {s : State} (h : Sound s) (j : Job) : Sound (s.setJob j) := h.congr rfl rfl rfl rfl

theorem Sound.raiseBoth {s : State} (h : Sound s) (p : PosFlag) (c : ContentFlag) : Sound (s.raiseBoth p c) :=
  h.congr rfl rfl rfl rfl

theorem Sound.withEngine {s : State} (h : Sound s) (e : FrameEngine) : Sound { s with engine := e } := h.congr rfl rfl rfl rfl

theorem Sound.drawTile {s : State} (h : Sound s) (p : Fin 4) (k : Nat) (l : Layer) (code : Nat) (style : Fin 16)
    (dimmed : Bool) (dim : Byte) (d : PriceDecision) (glyphs : Option (List Nat)) :
    Sound (s.drawTile p k l code style dimmed dim d glyphs) := by
  have h1 : Sound (if d.clamped then s.raiseBoth .priceClamped .priceClamped else s) := by
    split
    · exact h.raiseBoth _ _
    · exact h
  unfold State.drawTile
  dsimp only
  generalize formTileUpset _ _ _ _ _ = f
  generalize (if d.clamped then s.raiseBoth .priceClamped .priceClamped else s) = t at h1 ⊢
  split
  · exact ((h1.raiseContent _).onBack _ _).withEngine _
  · exact (h1.onBack _ _).withEngine _

theorem Sound.drawLayer {s : State} (h : Sound s) (p : Fin 4) (k : Nat) (l : Layer) (dimmed : Bool) (dim : Byte)
    (u : ComposeUpset) : Sound (s.drawLayer p k l dimmed dim u) := by
  unfold State.drawLayer
  split
  · exact h.onBack _ _
  · exact h.onBack _ _
  · unfold State.drawPrice
    split
    · exact h
    · split
      · exact h
      · split
        · exact h
        · split
          · exact h
          · exact h.drawTile ..

theorem Sound.drawFault {s : State} (h : Sound s) (p : Fin 4) (k : Nat) (l : Layer) (dimmed : Bool) (dim : Byte) :
    Sound (s.drawFault p k l dimmed dim) := by
  unfold State.drawFault
  split
  · exact h.drawTile ..
  all_goals exact h

theorem Sound.visibility {s : State} (h : Sound s) (l : Layer) : Sound (s.visibility l).1 := by
  unfold State.visibility
  split
  · exact h
  · split
    · exact h
    · split
      · exact h
      · split
        · exact h
        · split
          · exact h
          · exact h.readBody _

theorem Sound.composeAt {s : State} (h : Sound s) (p : Fin 4) (k : Nat) (u : ComposeUpset) : Sound (s.composeAt p k u) := by
  unfold State.composeAt
  split
  · exact h
  · rename_i l dim _
    have hv := h.visibility l
    unfold State.composeLayer
    split <;> rename_i e <;> rw [e] at hv
    · exact hv
    · exact hv.drawLayer ..
    · exact hv.drawFault ..

theorem Sound.suspendMismatch {s : State} (h : Sound s) (code : Nat) : Sound (s.suspendMismatch code) :=
  h.reads (h.live.suspendMismatch code) (s.suspendMismatch_reports code).readsBodies

theorem Sound.checkAt {s : State} (h : Sound s) (stuck testing : Bool) (i : Nat) (r : ShownRecord) :
    Sound (s.checkAt stuck testing i r) := by
  have h1 : Sound (s.readRecordBody r.code) := by
    unfold State.readRecordBody
    split
    · exact h.readBody _
    · exact h
  unfold State.checkAt
  dsimp only
  generalize s.readRecordBody r.code = t at h1 ⊢
  generalize t.judge stuck r = v
  have h2 : Sound ((t.markRecord i r v.mark).handRejection r.code v.mark) := by
    have hm : Sound (t.markRecord i r v.mark) := h1.withEngine _
    unfold State.handRejection
    split
    · exact hm
    · exact hm.suspendMismatch _
  refine Sound.setJob ?_ _
  unfold State.selfTest
  split
  · exact h2.congr rfl rfl rfl rfl
  · exact h2
  · exact h2

theorem Sound.drawPatch {s : State} (h : Sound s) (r : ShownRecord) : Sound (s.drawPatch r) := by
  unfold State.drawPatch
  split
  · exact h
  · dsimp only
    split
    · exact h.onBack _ _
    · exact (h.onBack _ _).onBack _ _

theorem Sound.patchAt {s : State} (h : Sound s) (i : Nat) (r : ShownRecord) : Sound (s.patchAt i r) := by
  unfold State.patchAt
  split
  · exact h
  · exact (h.drawPatch r).withEngine _

/-! ### The array at work -/

theorem Sound.withNva {s : State} (h : Sound s) (n : Nva) : Sound { s with nva := n } := h.congr rfl rfl rfl rfl

theorem Sound.logFault {s : State} (h : Sound s) (f : FaultEntry) : Sound (s.logFault f) := h.congr rfl rfl rfl rfl

theorem Sound.requestRepair {s : State} (h : Sound s) (i : ItemIndex) : Sound (s.requestRepair i) :=
  h.reads (h.live.requestRepair i) (s.requestRepair_reads i)

theorem Sound.markUnrepairable {s : State} (h : Sound s) (i : ItemIndex) : Sound (s.markUnrepairable i) :=
  h.reads (h.live.markUnrepairable i) (s.markUnrepairable_reports i).readsBodies

theorem Sound.beginWrite {s : State} (h : Sound s) (k : SlotId) (rest : List SlotId) : Sound (s.beginWrite k rest) := by
  unfold State.beginWrite
  split
  · dsimp only
    split
    · exact (h.withNva _).readBody _
    all_goals exact h.withNva _
  · exact h.withNva _

theorem Sound.completeWrite {s : State} (h : Sound s) (w : SlotWrite) (v : NvSlot) : Sound (s.completeWrite w v) := by
  unfold State.completeWrite
  dsimp only
  generalize w.verifies v = b
  generalize hn : Nva.afterWrite _ w b = n
  have h1 : Sound (if b then { s with nva := n } else
      ({ s with nva := n } : State).logFault { slot := w.slot.val, kind := .ded, origin := .write }) := by
    split
    · exact h.withNva _
    · exact (h.withNva _).logFault _
  split
  · split
    · exact h1.requestRepair _
    all_goals exact h1
  · exact h1

theorem Sound.restore {s : State} (h : Sound s) (i : ItemIndex) (code : Nat) {body : ItemBody} (hb : body.valid = true) :
    Sound (s.restore i code body) := by
  unfold State.restore
  split
  · exact h
  · rename_i it hi
    split
    · exact h
    · split
      · have hp := h.live.putItem (it := { it with body := body, parityFails := false, health := .good }) hi rfl hb
        refine h.reads (hp.unsuspendRestored code) ?_
        exact (s.putItem_reads i _).trans (State.unsuspendRestored_reports _ code).readsBodies
      · exact h.markUnrepairable i

/-- R64: a usable repair read carries a valid body. -/
theorem repairResult_valid {i : ItemIndex} {v : NvSlot} {c : Bool} {code : Nat} {body : ItemBody}
    (h : repairResult i v = .usable c code body) : body.valid = true := by
  unfold repairResult at h
  split at h
  · rename_i hf
    have hv := (loadFinding_valid hf).2
    rw [slotKind_itemSlot] at hv
    split at h
    · cases h
      simp only [SlotRecord.validFor, Bool.and_eq_true] at hv
      exact hv.2
    all_goals cases h
  all_goals cases h

theorem Sound.completeRepair {s : State} (h : Sound s) (i : ItemIndex) (v : NvSlot) : Sound (s.completeRepair i v) := by
  have ht : Sound { s with nva := { s.nva.setSlot (itemSlot i) v with op := .free } } := h.withNva _
  unfold State.completeRepair
  dsimp only
  split
  · split
    · split
      · exact ht.logFault _
      · exact ht
    · exact ht.logFault _
  · split
    · rename_i c code body hr
      have hres := ht.restore i code (repairResult_valid hr)
      split
      · exact hres.logFault _
      · exact hres
    · exact ((ht.withNva _).markUnrepairable i).logFault _

/-! ### Sensors and the resets -/

theorem Sound.raiseIf {s : State} (h : Sound s) (c : Bool) (f : ContentFlag) : Sound (s.raiseIf c f) := by
  unfold State.raiseIf
  split
  · exact h.raiseContent f
  · exact h

theorem Sound.thermistorRead {s : State} (h : Sound s) (p : Fin 4) (c : Nat) : Sound (s.thermistorRead p c) :=
  ((h.setPanel p _).raiseIf _ _).raiseIf _ _

theorem afterReset_sound (straps : BitVec 5) (large : Bool) (array : List (SlotId × NvSlot)) (journal : Journal)
    (memory : List Host.Cell) : Sound (State.afterReset straps large array journal memory) where
  live := LoadSound.live ⟨by simp [State.afterReset, ItemsSound, Sparse.rising],
    ⟨standardPromos_valid, standardRules_valid, standardSchedule_valid _⟩, rfl, rfl⟩
  stager := ⟨.nil, by simp [State.afterReset]⟩

theorem Sound.discardAllBuilding {s : State} (h : Sound s) : Sound s.discardAllBuilding :=
  List.foldlRecOn _ State.discardBuilding h fun _ ht p _ => ht.discardBuilding p

/-! ### Every step -/

/-- Every command keeps the promises. -/
theorem Sound.exec {s t : State} (h : Sound s) {c : Instr} (e : exec c s = .next t) : Sound t := by
  cases c <;> simp only [Machine.exec] at e
  case powerOnReset straps large =>
    cases e
    exact (afterReset_sound straps large s.arrayAtReset s.nva.journal s.assets.memory).congr rfl rfl rfl rfl
  case pcieLinkReset =>
    cases e
    exact (h.withAssets _).discardAllBuilding.congr rfl rfl rfl rfl
  case loadCompletion slots journal =>
    rw [execLoadCompletion_eq] at e
    cases e
    split
    · exact h.loadCompletion slots journal
    · exact h
  case lineByte b fe =>
    cases e
    split
    · exact h
    · exact h.receiveByte b fe
  case idlePeriodExpiry =>
    cases e
    split
    · exact h
    · split
      · exact h.setReceiver _
      all_goals exact h
  case frameGapExpiry =>
    cases e
    split
    · exact h
    · split
      · exact h.setReceiver _
      all_goals exact h
  case frameDropped frame =>
    cases e
    exact h.onFrame fun _ ht => ht.acceptFrame frame
  case unknownKind a kind l =>
    cases e
    exact h.onFrame fun _ ht => ht.takeKind a kind l
  case answerBegin =>
    cases e
    split
    · split
      · exact h
      · exact h.congr rfl rfl rfl rfl
    · exact h
  case answerEnd =>
    cases e
    split
    · rename_i a _
      split
      · refine ⟨h.live.congr rfl rfl rfl, ?_⟩
        unfold State.endAnswer
        dsimp only
        split
        · exact h.stager.fixExpiry
        · exact h.stager
      · exact h
    · exact h
  case status a l => cases e; exact h.request (kind := 0x01) (l := l) a rfl
  case itemStage a l => cases e; exact h.request (kind := 0x02) (l := l) a rfl
  case itemRemove a l => cases e; exact h.request (kind := 0x03) (l := l) a rfl
  case promoStage a l => cases e; exact h.request (kind := 0x04) (l := l) a rfl
  case rulesStage a l => cases e; exact h.request (kind := 0x05) (l := l) a rfl
  case stageAbort a l => cases e; exact h.request (kind := 0x06) (l := l) a rfl
  case commit a l => cases e; exact h.request (kind := 0x07) (l := l) a rfl
  case commitCheckCompletion l =>
    cases e
    split
    · exact h
    · split
      · exact (h.upsets l).walkBodies.finishCheck _
      · exact h
  case apply a l => cases e; exact h.request (kind := 0x08) (l := l) a rfl
  case commitCancel a l => cases e; exact h.request (kind := 0x09) (l := l) a rfl
  case holdExpiry =>
    cases e
    split
    · exact h
    · split
      · exact ⟨h.live.congr rfl rfl rfl, h.stager.noCommit _ _⟩
      · exact h
  case availSet a l => cases e; exact h.request (kind := 0x0A) (l := l) a rfl
  case scheduleSet a l => cases e; exact h.request (kind := 0x0B) (l := l) a rfl
  case daypartForce a l => cases e; exact h.request (kind := 0x0C) (l := l) a rfl
  case timeSet a l => cases e; exact h.request (kind := 0x0D) (l := l) a rfl
  case itemRead a l => cases e; exact h.request (kind := 0x0E) (l := l) a rfl
  case suspendedList a l => cases e; exact h.request (kind := 0x0F) (l := l) a rfl
  case suspendClear a l => cases e; exact h.request (kind := 0x10) (l := l) a rfl
  case nvaReport a l => cases e; exact h.request (kind := 0x11) (l := l) a rfl
  case checkTest path =>
    cases e
    split
    · rename_i a l
      exact h.request (kind := 0x12) (l := l) a rfl
    · exact (h.writeRecord _).takeCheckTest _
  case secondTick => cases e; exact h.congr rfl rfl rfl rfl
  case frameStart first =>
    cases e
    split
    · exact h.startPeriod.panelStart.engineStart
    · exact h.startPeriod.engineStart.panelStart
  case composePanelFill =>
    cases e
    split
    · exact (h.onBack _ _).setJob _
    all_goals exact h
  case composeLayer u =>
    cases e
    split
    · exact ((h.upsets _).composeAt _ _ _).setJob _
    all_goals exact h
  case composeStageEnd =>
    cases e
    split
    · exact (h.withEngine _).setJob _
    all_goals exact h
  case checkRecord l stuck =>
    cases e
    split
    · split
      · exact (h.upsets l).checkAt ..
      · exact h
    all_goals exact h
  case checkStageEnd =>
    cases e
    split
    · split
      · exact h.setJob _
      · exact h
    all_goals exact h
  case patchRecord =>
    cases e
    split
    · split
      · exact (h.patchAt _ _).setJob _
      · exact h
    all_goals exact h
  case jobCompletion =>
    cases e
    split
    · split
      · exact h.setJob _
      · exact h
    all_goals exact h
  case slotWriteBegin l =>
    cases e
    split
    · exact (h.upsets l).beginWrite _ _
    · exact h
  case slotWriteCompletion found =>
    cases e
    split
    · exact h.completeWrite _ _
    all_goals exact h
  case repairReadStart =>
    cases e
    split
    · exact h.withNva _
    · exact h
  case repairReadCompletion found =>
    cases e
    split
    · exact h.completeRepair _ _
    all_goals exact h
  case sensorConversionCompletion code =>
    cases e
    split
    · exact h
    · have ht : Sound { s with panel := { s.panel with conversion := none } } := h.congr rfl rfl rfl rfl
      dsimp only
      split
      · exact ht
      · split
        · exact ht.thermistorRead _ _
        · exact ht.setPanel _ _
  case apertureWrite o l => cases e; exact h.apertureWrite _ _
  case summaryWordRead o n => cases e; exact h.windowRead _ _
  case loadFaultRecordRead o n => cases e; exact h.windowRead _ _
  case registerWrite o l => cases e; exact h.windowWrite _ _
  case unknownCommand go code => cases e; exact (h.writeRecord _).runRecord go
  case assetOpen go f => cases e; exact (h.writeRecord _).takeAssetOpen go f
  case assetClose go n => cases e; exact (h.writeRecord _).takeAssetClose go n
  case assetAbort go n => cases e; exact (h.writeRecord _).takeAssetAbort go n
  case assetFree go n => cases e; exact (h.writeRecord _).takeAssetFree go n
  case assetQuery go n => cases e; exact (h.writeRecord _).takeAssetQuery go n
  case sceneBegin go f => cases e; exact (h.writeRecord _).takeSceneBegin go f
  case layerAdd go f => cases e; exact (h.writeRecord _).takeLayerAdd go f
  case sceneSubmit go p => cases e; exact (h.writeRecord _).takeSceneSubmit go p
  case sceneDiscard go p => cases e; exact (h.writeRecord _).takeSceneDiscard go p
  case styleSet go f => cases e; exact (h.writeRecord _).takeStyleSet go f
  case panelSet go p en r => cases e; exact (h.writeRecord _).takePanelSet go p en r
  case curveSet go f => cases e; exact (h.writeRecord _).takeCurveSet go f
  case thermalSet go f => cases e; exact (h.writeRecord _).takeThermalSet go f
  case backlightRestart go p => cases e; exact (h.writeRecord _).takeBacklightRestart go p
  case frameRateSet go r => cases e; exact (h.writeRecord _).takeFrameRateSet go r
  case itemQuery go code => cases e; exact (h.writeRecord _).takeItemQuery go code
  case statusQuery go => cases e; exact (h.writeRecord _).takeStatusQuery go
  case messageEnable b => cases e; exact h.congr rfl rfl rfl rfl

theorem Sound.step {s t : State} (h : Sound s) (e : step s = .next t) : Sound t := by
  unfold Machine.step at e
  split at e
  · cases e
    exact h
  · exact Sound.exec (s := s.popped) (h.congr rfl rfl rfl rfl) e

/-- Settles O55: the promises hold of what every command answers, command by command. -/
theorem stepKeepsRecordsAndSets : Obligations.StepKeepsRecordsAndSets := by
  unfold Obligations.StepKeepsRecordsAndSets
  intro s t hr hs e
  exact sound_iff.1 ((sound_iff.2 ⟨hr, hs⟩).step e)

end Sys2Proof.Machine
end

section
/-! SUPPORT. The reset state meets every invariant, and what POWER_ON_RESET leaves. -/

namespace Sys2Proof.Machine

/-! ### The reset state, block by block -/

section
variable (straps : BitVec 5) (large : Bool) (array : List (SlotId × NvSlot)) (journal : Journal) (memory : List Host.Cell)

theorem afterReset_slotState (k : SlotId) :
    (State.afterReset straps large array journal memory).nva.slotState k = .clean := rfl

theorem afterReset_entry (h : Handle) : (State.afterReset straps large array journal memory).assets.entry h = .empty := rfl

theorem afterReset_windows (n : Fin 4) : (State.afterReset straps large array journal memory).assets.windows[n] = none := by
  simp [State.afterReset]

theorem afterReset_panels (p : Fin 4) :
    (State.afterReset straps large array journal memory).panel.panels[p] = PanelRecord.standard := by
  simp [State.afterReset]

theorem afterReset_scenes (p : Fin 4) :
    (State.afterReset straps large array journal memory).scenes.panels[p] =
      { building := none, pending := none, active := none } := by
  simp [State.afterReset]

theorem afterReset_styles (i : Fin 16) :
    (State.afterReset straps large array journal memory).former.styles[i] =
      { current := Style.standard, pending := none } := by
  simp [State.afterReset]

theorem afterReset_outputs (p : Fin 4) :
    (State.afterReset straps large array journal memory).engine.outputs[p] = { frontOdd := false, showing := false } := by
  simp [State.afterReset]

theorem afterReset_names : (State.afterReset straps large array journal memory).names = [] := by
  simp [State.names, State.afterReset, PanelScenes.names, sceneNames, StyleSlot.names, Style.standard]

theorem afterReset_nva_sound : NvaSound (State.afterReset straps large array journal memory).nva where
  queueOnce := List.nodup_nil
  queueDirty k := by
    rw [afterReset_slotState]
    simp [State.afterReset]
  writing k := by
    rw [afterReset_slotState]
    simp [State.afterReset, Nva.writes]
  repairsOnce := List.nodup_nil
  repairsClean := by simp [State.afterReset]
  readAlone := by simp [State.afterReset]
  readState := by simp [State.afterReset]
  states := rfl

theorem afterReset_assets_sound : AssetsSound (State.afterReset straps large array journal memory).assets where
  entries := rfl
  each := by simp [State.afterReset]
  pagesOnce := by simp [State.afterReset, AssetMap.usedPages]
  pagesInPool := by simp [State.afterReset, AssetMap.usedPages]
  windowLoading n h e := by
    rw [afterReset_windows] at e
    cases e
  loadingWindow h e := by
    rw [afterReset_entry] at e
    cases e
  oneWindow n k h e := by
    rw [afterReset_windows] at e
    cases e

theorem afterReset_refs_sound : RefsSound (State.afterReset straps large array journal memory) := by
  intro h
  rw [afterReset_names, afterReset_entry]
  rfl

theorem PanelRecord.standard_sound : PanelSound PanelRecord.standard where
  cap := by decide
  target := by decide
  disabled _ := ⟨rfl, rfl⟩
  curve := by decide
  pendingCurve := by simp [PanelRecord.standard]
  thermal := by decide
  pendingThermal := by simp [PanelRecord.standard]

theorem afterReset_glass_sound : GlassSound (State.afterReset straps large array journal memory) where
  digits := by simp [State.afterReset]
  rejected := by simp [State.afterReset, FrameEngine.passed]
  latched := by simp [State.afterReset]

end

theorem reset_link_sound : LinkSound State.reset.link where
  unit := by decide
  assembling := by simp [State.reset, State.afterReset]
  lengthByte := by simp [State.reset, State.afterReset]
  answer := by simp [State.reset, State.afterReset]

/-- Settles O60, block by block. -/
theorem resetIsSound : Obligations.ResetIsSound := by
  unfold Obligations.ResetIsSound State.reset
  obtain ⟨hr, hs⟩ := sound_iff.1 (afterReset_sound 1 false [] Journal.erased [])
  refine ⟨hr, hs, afterReset_nva_sound .., afterReset_assets_sound .., fun _ => afterReset_refs_sound .., reset_memory_wf,
    fun p => ?_, afterReset_glass_sound .., reset_link_sound⟩
  rw [afterReset_panels]
  exact PanelRecord.standard_sound

/-! ### POWER_ON_RESET -/

/-- R65: a slot that is not being written keeps what it holds. -/
theorem State.slot_arrayAtReset (s : State) {k : SlotId} (h : s.nva.writes k = false) :
    Sparse.getD NvSlot.erased s.arrayAtReset k = s.nva.slot k := by
  unfold State.arrayAtReset
  split
  · rename_i w hw
    have hne : k ≠ w.slot := by
      rintro rfl
      simp [Nva.writes, hw] at h
    exact (Nva.slot_setSlot s.nva w.slot k _).trans (if_neg hne)
  all_goals rfl

theorem FrameBuffer.read_black (x y : Nat) : FrameBuffer.black.read x y = Rgb.black := rfl

/-- Settles O3: each block of the reset state, read field by field. -/
theorem powerOnResetLeaves : Obligations.PowerOnResetLeaves := by
  unfold Obligations.PowerOnResetLeaves
  intro straps large s
  have hstyles := afterReset_styles straps large s.arrayAtReset s.nva.journal s.assets.memory
  have hwindows := afterReset_windows straps large s.arrayAtReset s.nva.journal s.assets.memory
  have hscenes := afterReset_scenes straps large s.arrayAtReset s.nva.journal s.assets.memory
  have hpanels := afterReset_panels straps large s.arrayAtReset s.nva.journal s.assets.memory
  refine ⟨_, rfl, rfl, rfl, rfl, rfl, rfl, ⟨rfl, rfl, rfl, rfl, rfl, rfl, rfl, fun k => s.slot_arrayAtReset⟩,
    hstyles, ⟨fun _ => rfl, hwindows, rfl, ?_⟩,
    hscenes, ⟨rfl, rfl, rfl, rfl, fun p => ?_, fun b x y => ?_⟩, rfl,
    ⟨hpanels, rfl, rfl⟩, ?_, fun k => ?_, rfl, rfl, rfl, rfl, rfl⟩
  · cases large <;> rfl
  · dsimp only
    constructor
    · rw [afterReset_outputs]
    · simp [FrameEngine.frontIndex, State.afterReset]
  · have hb : (State.afterReset straps large s.arrayAtReset s.nva.journal s.assets.memory).engine.buffers[b] =
        FrameBuffer.black := by simp [State.afterReset]
    exact (congrArg (·.read x y) hb).trans (FrameBuffer.read_black x y)
  · have : straps = 0 ↔ straps.toNat = 0 := by rw [BitVec.toNat_eq]; rfl
    simp only [State.afterReset, this]
  · simp [State.afterReset]

end Sys2Proof.Machine
end

section
/-! SUPPORT. The stages of the shown price: tax, step, saturation and promotion, and the shown price they give. -/

namespace Sys2Proof.Machine

/-! ### The tax stage (R16) -/

theorem taxStage_inclusive {r : Rules} (h : r.taxMode = .inclusive) (v : Nat) :
    taxStage r v = (v * (10000 + r.taxRate) + 5000) / 10000 := by
  simp [taxStage, h]

theorem taxStage_exclusive {r : Rules} (h : r.taxMode = .exclusive) (v : Nat) : taxStage r v = v := by
  simp [taxStage, h]

/-- The greatest price at the greatest rate bounds the tax stage. -/
theorem taxStage_le {r : Rules} {v : Nat} (hv : v ≤ 999999) (ht : r.taxRate ≤ 2500) : taxStage r v ≤ 1249999 := by
  cases hm : r.taxMode with
  | exclusive =>
    rw [taxStage_exclusive hm]
    omega
  | inclusive =>
    rw [taxStage_inclusive hm]
    have : v * (10000 + r.taxRate) ≤ 999999 * 12500 := Nat.mul_le_mul hv (by omega)
    omega

/-! ### The step stage (R17) -/

theorem stepStage_nearest {r : Rules} (h : r.rounding = .nearest) (w : Nat) :
    stepStage r w = (w + r.step / 2) / r.step * r.step := by
  simp [stepStage, h]

theorem stepStage_up {r : Rules} (h : r.rounding = .up) (w : Nat) :
    stepStage r w = (w + r.step - 1) / r.step * r.step := by
  simp [stepStage, h]

theorem stepStage_down {r : Rules} (h : r.rounding = .down) (w : Nat) : stepStage r w = w / r.step * r.step := by
  simp [stepStage, h]

theorem stepStage_one {r : Rules} (h : r.step = 1) (w : Nat) : stepStage r w = w := by
  cases hm : r.rounding <;> simp [stepStage, hm, h]

/-- Whatever the mode, the step stage gives a multiple of the step. -/
theorem stepStage_mod (r : Rules) (w : Nat) : stepStage r w % r.step = 0 := by
  unfold stepStage
  split <;> exact Nat.mul_mod_left _ _

/-- The multiple of `s` that `w + k` reaches, where the remainder of `w` and `k` stay short of one more step. -/
theorem add_div_mul_of_lt {w k s : Nat} (h : w % s + k < s) : (w + k) / s * s = w - w % s := by
  have hw := Nat.div_add_mod w s
  have hs : 0 < s := by omega
  have hdiv : (w + k) / s = w / s := by
    rw [Nat.div_eq_iff hs]
    have : w / s * s = s * (w / s) := Nat.mul_comm _ _
    omega
  rw [hdiv, Nat.mul_comm]
  omega

/-- The multiple of `s` that `w + k` reaches, where the remainder of `w` and `k` make one more step. -/
theorem add_div_mul_of_ge {w k s : Nat} (hk : k < s) (h : s ≤ w % s + k) : (w + k) / s * s = w - w % s + s := by
  have hw := Nat.div_add_mod w s
  have hs : 0 < s := by omega
  have hlt := Nat.mod_lt w hs
  have hdiv : (w + k) / s = w / s + 1 := by
    rw [Nat.div_eq_iff hs]
    have : (w / s + 1) * s = s * (w / s) + s := by rw [Nat.add_mul, Nat.mul_comm, Nat.one_mul]
    omega
  have : (w / s + 1) * s = s * (w / s) + s := by rw [Nat.add_mul, Nat.mul_comm, Nat.one_mul]
  rw [hdiv, this]
  omega

/-- Settles O27, stage by stage. -/
theorem taxAndStepStages : Obligations.TaxAndStepStages := by
  unfold Obligations.TaxAndStepStages
  intro r v w
  refine ⟨fun h => taxStage_inclusive h v, fun h => taxStage_exclusive h v, fun h h0 => ?_, taxStage_le, fun h ht => ?_,
    fun h => stepStage_nearest h w, fun h => stepStage_up h w, fun h => stepStage_down h w, fun h => stepStage_one h w,
    fun h heven hpos hhalf => ?_, fun h hodd => ⟨fun hle => ?_, fun hlt => ?_⟩⟩
  · rw [taxStage_inclusive h, h0]
    omega
  · rw [taxStage_inclusive h, ht]
  · rw [stepStage_nearest h, add_div_mul_of_ge (by omega) (by omega)]
    have := Nat.mod_le w r.step
    omega
  · rw [stepStage_nearest h, add_div_mul_of_lt (by omega)]
  · rw [stepStage_nearest h, add_div_mul_of_ge (by omega) (by omega)]

/-! ### The saturation stage (R18) -/

theorem saturate_of_le {r : Rules} {q : Nat} (h : q ≤ maxPrice) : saturate r q = (q, false) := if_neg (by omega)

theorem saturate_of_lt {r : Rules} {q : Nat} (h : maxPrice < q) : saturate r q = (maxPrice / r.step * r.step, true) :=
  if_pos h

theorem saturate_le (r : Rules) (q : Nat) : (saturate r q).1 ≤ maxPrice := by
  by_cases h : maxPrice < q
  · rw [saturate_of_lt h]
    exact Nat.div_mul_le_self _ _
  · rw [saturate_of_le (by omega)]
    show q ≤ maxPrice
    omega

theorem saturate_mod {r : Rules} {q : Nat} (h : q % r.step = 0) : (saturate r q).1 % r.step = 0 := by
  unfold saturate
  split
  · exact Nat.mul_mod_left _ _
  · exact h

/-! ### The promotion stage (R15) -/

theorem Promotion.discounted_le (p : Promotion) (b : Nat) : p.discounted b ≤ b := by
  unfold Promotion.discounted
  split
  · omega
  · split <;> omega
  · split <;> omega

theorem promotionStage_le (p : Option Promotion) (d : Daypart) (b : Nat) : promotionStage p d b ≤ b := by
  unfold promotionStage
  split
  · split
    · exact Promotion.discounted_le _ b
    · exact le_rfl
  · exact le_rfl

theorem promotionStage_applies {p : Promotion} {d : Daypart} (he : p.enabled = true) (hm : p.mask.getLsbD d.val = true)
    (b : Nat) : promotionStage (some p) d b = p.discounted b := by
  simp [promotionStage, he, hm]

theorem promotionStage_idle {p : Promotion} {d : Daypart} (h : p.enabled = false ∨ p.mask.getLsbD d.val = false) (b : Nat) :
    promotionStage (some p) d b = b := by
  have : (p.enabled && p.mask.getLsbD d.val) = false := Bool.and_eq_false_iff.2 h
  simp only [promotionStage, this, Bool.false_eq_true, if_false]

theorem namedPromotion_of_some {promos : Vector Promotion 32} {b : ItemBody} {i : Fin 32} (h : b.promo = some i.val) :
    namedPromotion promos b = some promos[i] := by
  simp [namedPromotion, h]

/-! ### The shown price (R14 to R18) -/

theorem shownPrice_none {promos : Vector Promotion 32} {r : Rules} {b : ItemBody} {d : Daypart} (h : b.price[d] = none) :
    shownPrice promos r b d = (none, false) := by
  unfold shownPrice
  rw [h]

theorem shownPrice_some {promos : Vector Promotion 32} {r : Rules} {b : ItemBody} {d : Daypart} {base : Nat}
    (h : b.price[d] = some base) :
    shownPrice promos r b d =
      (some (saturate r (stepStage r (taxStage r (promotionStage (namedPromotion promos b) d base)))).1,
        (saturate r (stepStage r (taxStage r (promotionStage (namedPromotion promos b) d base)))).2) := by
  unfold shownPrice
  rw [h]

/-- A shown price never passes the largest price, whatever the records hold. -/
theorem shownPrice_le {promos : Vector Promotion 32} {r : Rules} {b : ItemBody} {d : Daypart} {q : Nat}
    (h : (shownPrice promos r b d).1 = some q) : q ≤ maxPrice := by
  cases hb : b.price[d] with
  | none =>
    rw [shownPrice_none hb] at h
    cases h
  | some base =>
    rw [shownPrice_some hb] at h
    cases h
    exact saturate_le _ _

theorem Rules.step_bounds {r : Rules} (h : r.valid = true) : 0 < r.step ∧ r.step ≤ 100 := by
  have hmem : r.step ∈ roundingSteps := by
    simp only [Rules.valid, Bool.and_eq_true] at h
    simpa using h.2
  simp only [roundingSteps, List.mem_cons, List.not_mem_nil, or_false] at hmem
  omega

/-- Settles O28: the promotion stage gives `v`; the step stage and the saturation of it give the price. -/
theorem shownPriceInRangeOnStep : Obligations.ShownPriceInRangeOnStep := by
  unfold Obligations.ShownPriceInRangeOnStep
  intro promos r b d _ hr hb
  refine ⟨shownPrice_none, fun base hbase => ?_⟩
  obtain ⟨hstep, -⟩ := Rules.step_bounds hr
  generalize hv : promotionStage (namedPromotion promos b) d base = v
  have hshown := shownPrice_some (promos := promos) (r := r) hbase
  rw [hv] at hshown
  refine ⟨_, _, v, hshown, saturate_le _ _, saturate_mod (stepStage_mod _ _), hv ▸ promotionStage_le _ _ _,
    fun i hi he hm => ?_, fun hidle => ?_, fun hle => ?_, fun hlt => ?_⟩
  · rw [← hv, namedPromotion_of_some hi, promotionStage_applies he hm]
    rfl
  · rw [← hv]
    cases hp : b.promo with
    | none => simp [namedPromotion, hp, promotionStage]
    | some j =>
      have hj : j < 32 := by
        simp only [ItemBody.valid, hp, Bool.and_eq_true] at hb
        simpa using hb.2
      have hi : b.promo = some (⟨j, hj⟩ : Fin 32).val := hp
      rw [namedPromotion_of_some hi, promotionStage_idle (hidle _ hi)]
  · rw [saturate_of_le hle]
    exact ⟨rfl, rfl⟩
  · rw [saturate_of_lt hlt]
    refine ⟨rfl, ?_⟩
    have h1 := Nat.div_add_mod maxPrice r.step
    have h2 := Nat.mod_lt maxPrice hstep
    have h3 := Nat.mul_comm (maxPrice / r.step) r.step
    have h4 : maxPrice = 999999 := rfl
    dsimp only
    omega

end Sys2Proof.Machine
end

section
/-! SUPPORT. The rows of POS requests: each is its request taken from a frame (R157 to R160); a broadcast acts unanswered. -/

namespace Sys2Proof.Machine

/-! ### Rows and requests -/

/-- A row's request: it has the kind's number, its lengths and its leave to be broadcast. -/
structure RowRequest (k : Nat) (a : Addressing) (payload : List Byte) (i : Instr) (r : Request) : Prop where
  request : requestOf (byteOf k) payload = some r
  kind : r.kind = byteOf k
  length : r.lengthFits = lengthFitsKind k payload
  broadcast : r.broadcast = decide (k ∈ broadcastKinds)
  row : ∀ s, exec i s = .next (s.onFrame fun t => t.take a r)

/-- The lengths of AVAIL_SET: 1 to 16 pairs of three bytes. -/
theorem availSet_lengths (n : Nat) : (decide (3 ≤ n) && decide (n ≤ 48) && decide (n % 3 = 0)) =
    [3, 6, 9, 12, 15, 18, 21, 24, 27, 30, 33, 36, 39, 42, 45, 48].contains n := by
  rw [Bool.eq_iff_iff]
  simp only [Bool.and_eq_true, decide_eq_true_eq, List.contains_iff_mem, List.mem_cons, List.not_mem_nil, or_false]
  omega

/-- The lengths of SCHEDULE_SET: as many entries as its first byte says. -/
theorem scheduleSet_lengths (payload : List Byte) :
    (!payload.isEmpty && decide (payload.length = 1 + 3 * byteAt payload 0)) = lengthFitsKind 0x0B payload := by
  cases payload with
  | nil => rfl
  | cons n rest =>
    simp only [lengthFitsKind, List.isEmpty_cons, Bool.not_false, Bool.true_and, List.length_cons, byteAt,
      List.getD_cons_zero, decide_eq_decide]
    omega

/-- Table 12-2: every row of a request takes that request from its frame. -/
theorem requestRow_request {k : Nat} {a : Addressing} {payload : List Byte} {i : Instr}
    (h : requestRow k a payload = some i) : ∃ r, RowRequest k a payload i r := by
  unfold requestRow at h
  split at h
  case h_10 =>
    cases h
    exact ⟨_, rfl, rfl, availSet_lengths _, rfl, fun _ => rfl⟩
  case h_11 =>
    cases h
    exact ⟨_, rfl, rfl, scheduleSet_lengths _, rfl, fun _ => rfl⟩
  case h_19 => cases h
  all_goals
    cases h
    exact ⟨_, rfl, rfl, rfl, rfl, fun _ => rfl⟩

/-! ### Requests that may be broadcast -/

/-- An owner that answers at once and leaves the link to the controller. -/
structure AnswersAtOnce (owner : State → Reply) (s : State) : Prop where
  answer : ∃ p, (owner s).2 = some p
  link : (owner s).1.link = s.link

theorem applyOwner_answers {s : State} : AnswersAtOnce applyOwner s := by
  unfold applyOwner
  cases hc : s.stager.commit with
  | none => exact ⟨⟨_, by simp only [hc]; rfl⟩, by simp only [hc]; rfl⟩
  | some c =>
    by_cases hs : c.state = .checking
    · exact ⟨⟨_, by simp only [hc, if_pos hs]; rfl⟩, by simp only [hc, if_pos hs]; rfl⟩
    · exact ⟨⟨_, by simp only [hc, if_neg hs]; rfl⟩, by simp only [hc, if_neg hs]; rfl⟩

theorem availSetOwner_answers {s : State} (l : List Byte) : AnswersAtOnce (availSetOwner l) s := by
  unfold availSetOwner
  cases h : checkPairs s.table l (l.length / 3) 0 with
  | error e => exact ⟨⟨_, by simp only [h]; rfl⟩, by simp only [h]; rfl⟩
  | ok pairs => exact ⟨⟨_, by simp only [h]; rfl⟩, by simp only [h]; rfl⟩

theorem daypartForceOwner_answers {s : State} (l : List Byte) : AnswersAtOnce (daypartForceOwner l) s := by
  unfold daypartForceOwner
  cases h : forceOf (byteAt l 0) with
  | none => exact ⟨⟨_, rfl⟩, rfl⟩
  | some f => exact ⟨⟨_, rfl⟩, rfl⟩

theorem timeSetOwner_answers {s : State} (l : List Byte) : AnswersAtOnce (timeSetOwner l) s := by
  unfold timeSetOwner
  by_cases h : beAt l 0 2 < 1440 ∧ byteAt l 2 < 60
  · exact ⟨⟨_, by simp only [if_pos h]; rfl⟩, by simp only [if_pos h]; rfl⟩
  · exact ⟨⟨_, by simp only [if_neg h]; rfl⟩, by simp only [if_neg h]; rfl⟩

/-- R160: the four owners that a broadcast may reach answer at once and leave the link to the controller. -/
theorem broadcast_answers {k : Nat} {payload : List Byte} {r : Request} (hr : requestOf (byteOf k) payload = some r)
    (hk : k ∈ broadcastKinds) (s : State) : AnswersAtOnce r.owner s := by
  simp only [broadcastKinds, List.mem_cons, List.not_mem_nil, or_false] at hk
  rcases hk with rfl | rfl | rfl | rfl <;> cases hr
  · exact applyOwner_answers
  · exact availSetOwner_answers payload
  · exact daypartForceOwner_answers payload
  · exact timeSetOwner_answers payload

/-- Settles O10: a broadcast is ignored by one of the tests of R160, or its owner is reached as the addressed request's is. -/
theorem broadcastActsUnanswered : Obligations.BroadcastActsUnanswered := by
  unfold Obligations.BroadcastActsUnanswered
  intro s k payload i j hi hj hs
  obtain ⟨r, hri⟩ := requestRow_request hi
  obtain ⟨r', hrj⟩ := requestRow_request hj
  obtain rfl : r = r' := Option.some.inj (hri.request.symm.trans hrj.request)
  rw [hri.row, hrj.row, State.onFrame_broadcast, State.onFrame_addressed, hri.broadcast, hri.length]
  constructor
  · intro hignored
    have : (s.nva.loading || s.checking || !decide (k ∈ broadcastKinds) || !lengthFitsKind k payload) = true := by
      simpa [or_assoc] using hignored
    simp [hs, this]
  · intro hl hc hk hf
    obtain ⟨⟨p, hp⟩, hlink⟩ := broadcast_answers hri.request hk s.frameEnd
    refine ⟨(r.owner s.frameEnd).1.holdAnswer r.kind p, by simp [hs, hl, hc, hf, hp], ?_⟩
    simp only [hs, hl, hc, hk, hf, Bool.false_eq_true, if_false, decide_true, Bool.not_true, Bool.or_false]
    generalize (r.owner s.frameEnd).1 = u at hlink
    rw [← hlink]
    rfl

end Sys2Proof.Machine
end

section
/-! SUPPORT. Bytes and numbers in both orders, and the forms of Chapter 12 read back from their parsers: a staging request
takes exactly the forms of valid entries. -/

namespace Sys2Proof.Machine

/-! ### Bytes -/

@[simp] theorem byteOf_toNat (v : Nat) : (byteOf v).toNat = v % 256 := BitVec.toNat_ofNat v 8

theorem byteOf_of_lt {v : Nat} (h : v < 256) : (byteOf v).toNat = v := by rw [byteOf_toNat, Nat.mod_eq_of_lt h]

theorem byteOf_toNat_self (b : Byte) : byteOf b.toNat = b :=
  BitVec.eq_of_toNat_eq ((byteOf_toNat _).trans (Nat.mod_eq_of_lt b.isLt))

@[simp] theorem byteAt_cons_zero (b : Byte) (l : List Byte) : byteAt (b :: l) 0 = b.toNat := rfl

@[simp] theorem byteAt_cons_succ (b : Byte) (l : List Byte) (i : Nat) : byteAt (b :: l) (i + 1) = byteAt l i := by
  simp [byteAt]

theorem beAt_two (l : List Byte) (i : Nat) : beAt l i 2 = byteAt l i * 256 + byteAt l (i + 1) := by
  simp [beAt]

theorem beAt_three (l : List Byte) (i : Nat) :
    beAt l i 3 = (byteAt l i * 256 + byteAt l (i + 1)) * 256 + byteAt l (i + 2) := by
  simp [beAt]

theorem leAt_two (l : List Byte) (i : Nat) : leAt l i 2 = byteAt l i + 256 * byteAt l (i + 1) := by
  simp [leAt]

theorem leAt_four (l : List Byte) (i : Nat) : leAt l i 4 =
    byteAt l i + 256 * (byteAt l (i + 1) + 256 * (byteAt l (i + 2) + 256 * byteAt l (i + 3))) := by
  simp [leAt]

theorem beBytes_two (v : Nat) : beBytes 2 v = [byteOf (v / 256), byteOf v] := rfl

theorem beBytes_three (v : Nat) : beBytes 3 v = [byteOf (v / 256 / 256), byteOf (v / 256), byteOf v] := rfl

/-- A two-byte number reads back. -/
theorem two_bytes {v : Nat} (h : v < 65536) : v / 256 % 256 * 256 + v % 256 = v := by omega

/-- A three-byte number reads back. -/
theorem three_bytes {v : Nat} (h : v < 16777216) : (v / 256 / 256 % 256 * 256 + v / 256 % 256) * 256 + v % 256 = v := by
  omega

/-- A four-byte number reads back. -/
theorem four_bytes {v : Nat} (h : v < 4294967296) :
    v % 256 + 256 * (v / 256 % 256 + 256 * (v / 256 / 256 % 256 + 256 * (v / 256 / 256 / 256 % 256))) = v := by omega

/-- Two bytes are the big-endian form of the number they hold. -/
theorem beBytes_of_two (a b : Byte) : beBytes 2 (a.toNat * 256 + b.toNat) = [a, b] := by
  have ha := a.isLt
  have hb := b.isLt
  have h1 : (a.toNat * 256 + b.toNat) / 256 = a.toNat := by omega
  have h2 : byteOf (a.toNat * 256 + b.toNat) = b := BitVec.eq_of_toNat_eq (by rw [byteOf_toNat]; omega)
  rw [beBytes_two, h1, h2, byteOf_toNat_self]

/-- Three bytes are the big-endian form of the number they hold. -/
theorem beBytes_of_three (a b c : Byte) : beBytes 3 ((a.toNat * 256 + b.toNat) * 256 + c.toNat) = [a, b, c] := by
  have hc := c.isLt
  have h1 : ((a.toNat * 256 + b.toNat) * 256 + c.toNat) / 256 = a.toNat * 256 + b.toNat := by omega
  have h2 : byteOf ((a.toNat * 256 + b.toNat) * 256 + c.toNat) = c := BitVec.eq_of_toNat_eq (by rw [byteOf_toNat]; omega)
  have h3 := beBytes_of_two a b
  rw [beBytes_two] at h3
  rw [beBytes_three, h1, h2]
  exact congrArg (· ++ [c]) h3

/-! ### Lists of a known length -/

theorem length_two {l : List Byte} (h : l.length = 2) : ∃ a b, l = [a, b] := by
  match l, h with
  | [a, b], _ => exact ⟨a, b, rfl⟩

theorem length_six {l : List Byte} (h : l.length = 6) : ∃ a b c d e f, l = [a, b, c, d, e, f] := by
  match l, h with
  | [a, b, c, d, e, f], _ => exact ⟨a, b, c, d, e, f, rfl⟩

theorem length_sixteen {l : List Byte} (h : l.length = 16) : ∃ a b p a0 b0 c0 a1 b1 c1 a2 b2 c2 a3 b3 c3 m,
    l = [a, b, p, a0, b0, c0, a1, b1, c1, a2, b2, c2, a3, b3, c3, m] := by
  match l, h with
  | [a, b, p, a0, b0, c0, a1, b1, c1, a2, b2, c2, a3, b3, c3, m], _ =>
    exact ⟨a, b, p, a0, b0, c0, a1, b1, c1, a2, b2, c2, a3, b3, c3, m, rfl⟩

/-! ### The item form -/

/-- R24: a price taken is the number its three bytes hold, present or not. -/
theorem formPrice_getD {l : List Byte} {k : Nat} (h : formPriceOk l k = true) :
    (formPrice l k).getD 0 = beAt l (3 + 3 * k) 3 := by
  unfold formPriceOk at h
  unfold formPrice
  split
  · rfl
  · simp_all

/-- A presence byte is the sum of its five bits. -/
theorem presence_bits {n : Nat} (h : n < 32) :
    (if n.testBit 0 then 1 else 0) + (if n.testBit 1 then 2 else 0) + (if n.testBit 2 then 4 else 0)
      + (if n.testBit 3 then 8 else 0) + (if n.testBit 4 then 16 else 0) = n := by
  have : ∀ n < 32, (if n.testBit 0 then 1 else 0) + (if n.testBit 1 then 2 else 0) + (if n.testBit 2 then 4 else 0)
      + (if n.testBit 3 then 8 else 0) + (if n.testBit 4 then 16 else 0) = n := by decide
  exact this n h

/-- R24: what ITEM_STAGE takes is the item form of the item it takes. -/
theorem parseItem_form {l : List Byte} (hl : l.length = 16) {code : Nat} {body : ItemBody}
    (h : parseItem l = some (code, body)) : l = itemForm code body := by
  obtain ⟨a, b, p, a0, b0, c0, a1, b1, c1, a2, b2, c2, a3, b3, c3, m, rfl⟩ := length_sixteen hl
  generalize hL : [a, b, p, a0, b0, c0, a1, b1, c1, a2, b2, c2, a3, b3, c3, m] = l at h
  unfold parseItem at h
  split at h
  · rename_i hok
    simp only [Bool.and_eq_true, decide_eq_true_eq, Bool.not_eq_true', decide_eq_false_iff_not] at hok
    obtain ⟨⟨⟨⟨⟨⟨⟨-, hlt⟩, -⟩, h0⟩, h1⟩, h2⟩, h3⟩, hpromo⟩ := hok
    obtain ⟨rfl, rfl⟩ := Prod.mk.inj (Option.some.inj h)
    have hpresence : byteOf (byteAt l 2) = p := by
      rw [← hL]
      exact byteOf_toNat_self p
    have hm : byteOf ((if (byteAt l 2).testBit 4 then some (byteAt l 15) else none).getD 0) = m := by
      have : (if (byteAt l 2).testBit 4 then some (byteAt l 15) else none).getD 0 = byteAt l 15 := by
        unfold formPromoOk at hpromo
        split <;> simp_all
      rw [this, ← hL]
      exact byteOf_toNat_self m
    have hsome : ((if (byteAt l 2).testBit 4 then some (byteAt l 15) else none : Option Nat)).isSome =
        (byteAt l 2).testBit 4 := by
      split <;> simp_all
    have hcode : beBytes 2 (beAt l 0 2) = [a, b] := by
      rw [beAt_two, ← hL]
      exact beBytes_of_two a b
    have hp0 : beBytes 3 (beAt l 3 3) = [a0, b0, c0] := by
      rw [beAt_three, ← hL]
      exact beBytes_of_three a0 b0 c0
    have hp1 : beBytes 3 (beAt l 6 3) = [a1, b1, c1] := by
      rw [beAt_three, ← hL]
      exact beBytes_of_three a1 b1 c1
    have hp2 : beBytes 3 (beAt l 9 3) = [a2, b2, c2] := by
      rw [beAt_three, ← hL]
      exact beBytes_of_three a2 b2 c2
    have hp3 : beBytes 3 (beAt l 12 3) = [a3, b3, c3] := by
      rw [beAt_three, ← hL]
      exact beBytes_of_three a3 b3 c3
    simp only [itemForm, priceBytes, presenceByte, Vector.getElem_mk, List.getElem_toArray, List.getElem_cons_zero,
      List.getElem_cons_succ, formPrice_isSome, formPrice_getD h0, formPrice_getD h1, formPrice_getD h2,
      formPrice_getD h3, hsome, presence_bits hlt, hpresence, hm, hcode, hp0, hp1, hp2, hp3]
    exact hL.symm
  · cases h

/-! ### The promotion form -/

theorem promoKindOf_code {n : Nat} {k : PromoKind} (h : promoKindOf n = some k) : k.code = n := by
  unfold promoKindOf at h
  split at h <;> cases h <;> rfl

/-- The first byte of a promotion form is its top bit and the rest. -/
theorem topBit_add {n : Nat} (h : n < 256) {top : Bool} (ht : n.testBit 7 = top) :
    (if top then 128 else 0) + n % 128 = n := by
  rw [Nat.testBit_eq_decide_div_mod_eq] at ht
  subst ht
  split <;> simp_all <;> omega

/-- R26: what PROMO_STAGE takes is the promotion form of the promotion it takes. -/
theorem parsePromo_form {a b c d e : Byte} {p : Promotion} (h : parsePromo [a, b, c, d, e] = some p) :
    [a, b, c, d, e] = promoForm p := by
  unfold parsePromo at h
  split at h
  · cases h
  · rename_i k hk
    dsimp only at h
    split at h
    · rename_i hok
      obtain ⟨hmask, -⟩ : decide (byteAt [a, b, c, d, e] 4 < 16) = true ∧ _ := Bool.and_eq_true _ _ ▸ hok
      have hm : e.toNat < 16 := of_decide_eq_true hmask
      have hfirst : byteOf ((if a.toNat.testBit 7 then 128 else 0) + k.code) = a := by
        rw [promoKindOf_code hk]
        exact (congrArg byteOf (topBit_add a.isLt rfl)).trans (byteOf_toNat_self a)
      have hvalue : beBytes 3 (beAt [a, b, c, d, e] 1 3) = [b, c, d] := by
        rw [beAt_three]
        exact beBytes_of_three b c d
      have hlast : (BitVec.ofNat 4 e.toNat).setWidth 8 = e := by
        apply BitVec.eq_of_toNat_eq
        simp only [BitVec.toNat_setWidth, BitVec.toNat_ofNat]
        omega
      cases h
      show [a, b, c, d, e] = [byteOf ((if a.toNat.testBit 7 then 128 else 0) + k.code)] ++
        beBytes 3 (beAt [a, b, c, d, e] 1 3) ++ [(BitVec.ofNat 4 e.toNat).setWidth 8]
      rw [hfirst, hvalue, hlast]
      rfl
    · cases h

/-! ### The rules form -/

theorem taxModeOf_code {n : Nat} {m : TaxMode} (h : taxModeOf n = some m) : m.code = n := by
  unfold taxModeOf at h
  split at h <;> cases h <;> rfl

theorem roundingOf_code {n : Nat} {m : RoundingMode} (h : roundingOf n = some m) : m.code = n := by
  unfold roundingOf at h
  split at h <;> cases h <;> rfl

theorem minorDigitsOf_code {n : Nat} {two : Bool} (h : minorDigitsOf n = some two) : (if two then 2 else 0) = n := by
  unfold minorDigitsOf at h
  split at h <;> cases h <;> rfl

theorem daypartOf_val {n : Nat} {d : Daypart} (h : daypartOf n = some d) : d.val = n := by
  unfold daypartOf at h
  split at h
  · cases h
    rfl
  · cases h

/-- R26: what RULES_STAGE takes is the rules form of the rules it takes. -/
theorem parseRules_form {a b c d e f : Byte} {r : Rules} (h : parseRules [a, b, c, d, e, f] = some r) :
    [a, b, c, d, e, f] = rulesForm r := by
  unfold parseRules at h
  split at h
  · rename_i t m two day ht hm htwo hday
    dsimp only at h
    split at h
    · have h1 := taxModeOf_code ht
      have h2 := roundingOf_code hm
      have h3 := minorDigitsOf_code htwo
      have h4 := daypartOf_val hday
      have hrate : beBytes 2 (beAt [a, b, c, d, e, f] 1 2) = [b, c] := by
        rw [beAt_two]
        exact beBytes_of_two b c
      have hlast : (if two then 32 else 0) + day.val = f.toNat := by
        simp only [byteAt_cons_zero, byteAt_cons_succ] at h3 h4
        cases two <;> simp only [Bool.false_eq_true, if_false, if_true] at h3 ⊢ <;> omega
      simp only [byteAt_cons_zero, byteAt_cons_succ] at h1 h2
      cases h
      simp only [rulesForm, byteAt_cons_zero, byteAt_cons_succ, h1, h2, hrate, hlast, byteOf_toNat_self]
      rfl
    · cases h
  · cases h

/-! ### Staging requests of every other form -/

theorem State.TakesRequests.handed {s : State} (h : s.TakesRequests) {r : Request} (hl : r.lengthFits = true) {t : State}
    {p : List Byte} (ho : r.owner s.frameEnd = (t, some p)) :
    s.onFrame (fun u => u.take .addressed r) = t.holdAnswer r.kind p := by
  rw [State.onFrame_handed h hl, ho]

/-- Settles O13: what a staging owner takes is the form of the valid entry it takes. -/
theorem stagingRefusesEveryOtherForm : Obligations.StagingRefusesEveryOtherForm := by
  unfold Obligations.StagingRefusesEveryOtherForm
  intro s payload hs
  refine ⟨fun hl hno => ?_, fun hl hno => ?_, fun hl hno => ?_, fun hl hno => ?_⟩
  · refine congrArg Host.Outcome.next (hs.handed (r := itemStageRequest payload) (by simp [itemStageRequest, hl]) ?_)
    simp only [itemStageRequest, itemStageOwner]
    split
    · rename_i code body hp
      obtain ⟨hc, hb⟩ := parseItem_valid hp
      exact absurd (parseItem_form hl hp) (hno code body hc hb)
    · rfl
  · refine congrArg Host.Outcome.next (hs.handed (r := itemRemoveRequest payload) (by simp [itemRemoveRequest, hl]) ?_)
    simp only [itemRemoveRequest, itemRemoveOwner]
    split
    · rename_i hc
      obtain ⟨a, b, rfl⟩ := length_two hl
      refine absurd ?_ (hno _ hc)
      rw [beAt_two]
      exact (beBytes_of_two a b).symm
    · rfl
  · refine congrArg Host.Outcome.next (hs.handed (r := promoStageRequest payload) (by simp [promoStageRequest, hl]) ?_)
    obtain ⟨i, a, b, c, d, e, rfl⟩ := length_six hl
    simp only [promoStageRequest, promoStageOwner]
    split
    · rename_i hi
      split
      · rename_i p hp
        refine absurd ?_ (hno ⟨i.toNat, hi⟩ p (parsePromo_valid hp))
        rw [← parsePromo_form hp]
        exact congrArg (· :: _) (byteOf_toNat_self i).symm
      · rfl
    · rfl
  · refine congrArg Host.Outcome.next (hs.handed (r := rulesStageRequest payload) (by simp [rulesStageRequest, hl]) ?_)
    obtain ⟨a, b, c, d, e, f, rfl⟩ := length_six hl
    simp only [rulesStageRequest, rulesStageOwner]
    split
    · rename_i r hr
      exact absurd (parseRules_form hr) (hno r (parseRules_valid hr))
    · rfl

end Sys2Proof.Machine
end

section
/-! SUPPORT. AVAIL_SET: its pairs as they stand in the payload, and how they are examined. -/

namespace Sys2Proof.Machine

theorem byteAt_append_right (front l : List Byte) (i : Nat) : byteAt (front ++ l) (front.length + i) = byteAt l i := by
  simp [byteAt, List.getElem?_append_right]

/-- Table 12-2: a pair of AVAIL_SET as it stands in the payload. -/
def pairBytes (e : Nat × Nat) : List Byte := beBytes 2 e.1 ++ [byteOf e.2]

/-- The availability of a state byte that is 0 or 1. -/
def pairAvailability (e : Nat × Nat) : Availability := if e.2 = 0 then .available else .soldOut

theorem pairBytes_length (l : List (Nat × Nat)) : (l.flatMap pairBytes).length = 3 * l.length := by
  induction l with
  | nil => rfl
  | cons e l ih => simp [pairBytes, beBytes_two, ih]; omega

theorem availabilityOf_pair {e : Nat × Nat} (h : e.2 ≤ 1) : availabilityOf e.2 = some (pairAvailability e) := by
  obtain ⟨c, a⟩ := e
  match a, h with
  | 0, _ => rfl
  | 1, _ => rfl

theorem availabilityOf_none {n : Nat} (h : 2 ≤ n) : availabilityOf n = none := by
  match n, h with
  | n + 2, _ => rfl

/-- A pair after `front` reads back its code and its state. -/
theorem pairBytes_read {front : List Byte} {k : Nat} (hk : front.length = 3 * k) {e : Nat × Nat} (h1 : e.1 < 65536)
    (h2 : e.2 < 256) (l : List Byte) :
    beAt (front ++ (pairBytes e ++ l)) (3 * k) 2 = e.1 ∧ byteAt (front ++ (pairBytes e ++ l)) (3 * k + 2) = e.2 := by
  have h0 := byteAt_append_right front (pairBytes e ++ l) 0
  rw [beAt_two, ← hk, byteAt_append_right, byteAt_append_right, ← Nat.add_zero front.length, h0]
  exact ⟨two_bytes h1, Nat.mod_eq_of_lt h2⟩

/-- How AVAIL_SET passes a pair that its tests let through. -/
theorem checkPairs_step {t : PriceTable} {front : List Byte} {k : Nat} (hk : front.length = 3 * k) {e : Nat × Nat}
    (h1 : e.1 < 65536) (h2 : e.2 ≤ 1) (hlive : t.has e.1 = true) (l : List Byte) (n : Nat) :
    checkPairs t (front ++ (pairBytes e ++ l)) (n + 1) k =
      (checkPairs t ((front ++ pairBytes e) ++ l) n (k + 1)).map ((e.1, pairAvailability e) :: ·) := by
  obtain ⟨hcode, hstate⟩ := pairBytes_read hk h1 (by omega) l
  rw [List.append_assoc]
  simp only [checkPairs, hcode, hstate, availabilityOf_pair h2, hlive, if_true]
  cases checkPairs t (front ++ (pairBytes e ++ l)) n (k + 1) <;> rfl

/-- Every pair passes: the map entries in order. -/
theorem checkPairs_ok {t : PriceTable} (l : List (Nat × Nat)) (hsize : ∀ e ∈ l, e.1 < 65536 ∧ e.2 < 256)
    (hgood : ∀ e ∈ l, e.2 ≤ 1 ∧ t.has e.1 = true) {front : List Byte} {k : Nat} (hk : front.length = 3 * k) :
    checkPairs t (front ++ l.flatMap pairBytes) l.length k = .ok (l.map fun e => (e.1, pairAvailability e)) := by
  induction l generalizing front k with
  | nil => rfl
  | cons e l ih =>
    obtain ⟨h1, -⟩ := hsize e (List.mem_cons_self ..)
    obtain ⟨h2, hlive⟩ := hgood e (List.mem_cons_self ..)
    have hnext : (front ++ pairBytes e).length = 3 * (k + 1) := by
      simp [pairBytes, beBytes_two, hk]
      omega
    rw [List.flatMap_cons, List.length_cons, checkPairs_step hk h1 h2 hlive,
      ih (fun x hx => hsize x (List.mem_cons_of_mem _ hx)) (fun x hx => hgood x (List.mem_cons_of_mem _ hx)) hnext]
    rfl

/-- The first pair that fails decides, at its position. -/
theorem checkPairs_error {t : PriceTable} (good : List (Nat × Nat)) {e : Nat × Nat} (rest : List (Nat × Nat))
    (hsize : ∀ g ∈ good ++ e :: rest, g.1 < 65536 ∧ g.2 < 256) (hgood : ∀ g ∈ good, g.2 ≤ 1 ∧ t.has g.1 = true)
    {st : PosStatus} (hst : (2 ≤ e.2 ∧ st = .badValue) ∨ (e.2 ≤ 1 ∧ t.has e.1 = false ∧ st = .notFound))
    {front : List Byte} {k : Nat} (hk : front.length = 3 * k) :
    checkPairs t (front ++ (good ++ e :: rest).flatMap pairBytes) (good ++ e :: rest).length k =
      .error (st, k + good.length) := by
  induction good generalizing front k with
  | nil =>
    obtain ⟨h1, h2⟩ := hsize e (List.mem_cons_self ..)
    obtain ⟨hcode, hstate⟩ := pairBytes_read hk h1 h2 (rest.flatMap pairBytes)
    rw [List.nil_append, List.flatMap_cons, List.length_cons]
    rcases hst with ⟨hbad, rfl⟩ | ⟨hok, hno, rfl⟩
    · simp only [checkPairs, hstate, availabilityOf_none hbad]
      rfl
    · simp only [checkPairs, hcode, hstate, availabilityOf_pair hok, hno]
      rfl
  | cons g good ih =>
    obtain ⟨h1, -⟩ := hsize g (List.mem_cons_self ..)
    obtain ⟨h2, hlive⟩ := hgood g (List.mem_cons_self ..)
    have hnext : (front ++ pairBytes g).length = 3 * (k + 1) := by
      simp [pairBytes, beBytes_two, hk]
      omega
    rw [List.cons_append, List.flatMap_cons, List.length_cons, checkPairs_step hk h1 h2 hlive,
      ih (fun x hx => hsize x (List.mem_cons_of_mem _ hx)) (fun x hx => hgood x (List.mem_cons_of_mem _ hx)) hnext]
    exact congrArg (fun n => Except.error (st, n)) (by rw [List.length_cons]; omega)

theorem availSetRequest_fits {l : List (Nat × Nat)} (h1 : 1 ≤ l.length) (h2 : l.length ≤ 16) :
    (availSetRequest (l.flatMap pairBytes)).lengthFits = true := by
  simp only [availSetRequest, pairBytes_length, Bool.and_eq_true, decide_eq_true_eq]
  omega

section
variable {l : List (Nat × Nat)} {s : State}

theorem pairCount (l : List (Nat × Nat)) : (l.flatMap pairBytes).length / 3 = l.length := by
  rw [pairBytes_length]
  omega

/-- R9: what AVAIL_SET's owner does where a pair fails. -/
theorem availSetOwner_error {st : PosStatus} {k : Nat}
    (h : checkPairs s.table (l.flatMap pairBytes) l.length 0 = .error (st, k)) :
    availSetOwner (l.flatMap pairBytes) s = (s, some [st.byte, byteOf k]) := by
  simp only [availSetOwner, pairCount, h]
  rfl

/-- R9: what AVAIL_SET's owner does where every pair passes. -/
theorem availSetOwner_ok {m : List (Nat × Availability)}
    (h : checkPairs s.table (l.flatMap pairBytes) l.length 0 = .ok m) :
    availSetOwner (l.flatMap pairBytes) s =
      ({ s with table := { s.table with pendingAvail := enterPairs s.table.pendingAvail m } }, some [0x00]) := by
  simp only [availSetOwner, pairCount, h]
  rfl

end

/-- Settles O19: the examination passes every pair, or stops at the first that fails. -/
theorem availSetTakenWholeOrNotAtAll : Obligations.AvailSetTakenWholeOrNotAtAll := by
  unfold Obligations.AvailSetTakenWholeOrNotAtAll
  intro s l hs h1 h2 hsize
  have hfits := availSetRequest_fits h1 h2
  have hfail : ∀ st k, checkPairs s.table (l.flatMap pairBytes) l.length 0 = .error (st, k) →
      exec (.availSet .addressed (l.flatMap pairBytes)) s = s.frameEnd.answers 0x0A [st.byte, byteOf k] := by
    intro st k hc
    exact congrArg Host.Outcome.next (hs.handed hfits (availSetOwner_error (by rw [State.frameEnd_table, hc])))
  refine ⟨fun hgood => ?_, fun good e rest hl hgood => ⟨fun hbad => ?_, fun hok hno => ?_⟩⟩
  · have hok := checkPairs_ok (t := s.table) l hsize hgood (front := []) (k := 0) rfl
    rw [List.nil_append, ← State.frameEnd_table] at hok
    refine (congrArg Host.Outcome.next (hs.handed hfits (availSetOwner_ok hok))).trans ?_
    simp only [enterPairs, List.foldl_map, State.frameEnd_table]
    rfl
  · subst hl
    refine hfail .badValue _ ?_
    have := checkPairs_error (t := s.table) good rest hsize hgood (.inl ⟨hbad, rfl⟩) (front := []) (k := 0) rfl
    rwa [List.nil_append, Nat.zero_add] at this
  · subst hl
    refine hfail .notFound _ ?_
    have := checkPairs_error (t := s.table) good rest hsize hgood (.inr ⟨hok, hno, rfl⟩) (front := []) (k := 0) rfl
    rwa [List.nil_append, Nat.zero_add] at this

end Sys2Proof.Machine
end

section
/-! SUPPORT. The flags of the two summaries under a report, the suspended set entry by entry, and what a body read does. -/

namespace Sys2Proof.Machine

/-! ### Flags under a report -/

theorem PosFlag.bit_inj {f g : PosFlag} : f.bit = g.bit ↔ f = g := by
  cases f <;> cases g <;> decide

theorem ContentFlag.bit_inj {f g : ContentFlag} : f.bit = g.bit ↔ f = g := by
  cases f <;> cases g <;> decide

theorem PosFlag.bit_lt (f : PosFlag) : f.bit < 8 := by cases f <;> decide

theorem ContentFlag.bit_lt (f : ContentFlag) : f.bit < 32 := by cases f <;> decide

theorem State.posFlag_congr {s t : State} (h : t.link.summary = s.link.summary) (f : PosFlag) : t.posFlag f = s.posFlag f := by
  unfold State.posFlag
  rw [h]

theorem State.contentFlag_congr {s t : State} (h : t.port.summary = s.port.summary) (f : ContentFlag) :
    t.contentFlag f = s.contentFlag f := by
  unfold State.contentFlag
  rw [h]

/-- R162: an event sets its own flag and leaves every other. -/
theorem State.posFlag_raisePos (s : State) (f g : PosFlag) :
    (s.raisePos f).posFlag g = (s.posFlag g || decide (g = f)) := by
  have : (BitVec.twoPow 8 f.bit).getLsbD g.bit = decide (g = f) := by
    rw [BitVec.getLsbD_twoPow, decide_eq_true f.bit_lt, Bool.true_and, decide_eq_decide, PosFlag.bit_inj, eq_comm]
  simp [State.posFlag, State.raisePos, this]

theorem ContentPort.raise_getLsbD (p : ContentPort) (f g : ContentFlag) :
    (p.raise f).summary.getLsbD g.bit = (p.summary.getLsbD g.bit || decide (g = f)) := by
  have : (BitVec.twoPow 32 f.bit).getLsbD g.bit = decide (g = f) := by
    rw [BitVec.getLsbD_twoPow, decide_eq_true f.bit_lt, Bool.true_and, decide_eq_decide, ContentFlag.bit_inj, eq_comm]
  rw [ContentPort.raise_summary, BitVec.getLsbD_or, this]

/-- R169: an event sets its own flag and leaves every other. -/
theorem State.contentFlag_raiseContent (s : State) (f g : ContentFlag) :
    (s.raiseContent f).contentFlag g = (s.contentFlag g || decide (g = f)) := s.port.raise_getLsbD f g

theorem State.posFlag_raiseContent (s : State) (f : ContentFlag) (g : PosFlag) :
    (s.raiseContent f).posFlag g = s.posFlag g := rfl

theorem State.posFlag_raiseBoth (s : State) (p : PosFlag) (c : ContentFlag) (g : PosFlag) :
    (s.raiseBoth p c).posFlag g = (s.posFlag g || decide (g = p)) := s.posFlag_raisePos p g

theorem State.contentFlag_raiseBoth (s : State) (p : PosFlag) (c g : ContentFlag) :
    (s.raiseBoth p c).contentFlag g = (s.contentFlag g || decide (g = c)) := s.port.raise_getLsbD c g

/-! ### Changes of the suspended set and their flags -/

/-- `t` follows `s` by changes of the suspended set, each reported: either nothing changed, or a measure of the set grew and
both flags stand; no other flag moved. -/
structure Reported {α : Type} [Preorder α] (μ : Checker → α) (s t : State) : Prop where
  step : (t.checker = s.checker ∧ t.link = s.link ∧ t.port = s.port) ∨
    (μ s.checker < μ t.checker ∧ t.posFlag .suspendedChanged = true ∧ t.contentFlag .priceSuspended = true)
  pos : ∀ fl, fl ≠ .suspendedChanged → t.posFlag fl = s.posFlag fl
  content : ∀ fl, fl ≠ .priceSuspended → t.contentFlag fl = s.contentFlag fl

section
variable {α : Type} [Preorder α] {μ : Checker → α} {s t u : State}

/-- A change that leaves the set and the ports alone. -/
theorem Reported.of_eq (hc : t.checker = s.checker) (hl : t.link = s.link) (hp : t.port = s.port) : Reported μ s t where
  step := .inl ⟨hc, hl, hp⟩
  pos fl _ := State.posFlag_congr (hl ▸ rfl) fl
  content fl _ := State.contentFlag_congr (hp ▸ rfl) fl

theorem Reported.refl (s : State) : Reported μ s s := .of_eq rfl rfl rfl

theorem Reported.trans (a : Reported μ s t) (b : Reported μ t u) : Reported μ s u where
  step := by
    rcases a.step with ⟨hc, hl, hp⟩ | ⟨hlt, hf, hg⟩
    · rw [← hc, ← hl, ← hp]
      exact b.step
    · rcases b.step with ⟨hc, hl, hp⟩ | ⟨hlt', hf', hg'⟩
      · exact .inr ⟨hc ▸ hlt, (State.posFlag_congr (hl ▸ rfl) _).trans hf, (State.contentFlag_congr (hp ▸ rfl) _).trans hg⟩
      · exact .inr ⟨hlt.trans hlt', hf', hg'⟩
  pos fl h := (b.pos fl h).trans (a.pos fl h)
  content fl h := (b.content fl h).trans (a.content fl h)

theorem Reported.foldl {β : Type} {f : State → β → State} (h : ∀ s b, Reported μ s (f s b)) (l : List β) (s : State) :
    Reported μ s (l.foldl f s) :=
  List.foldlRecOn l f (motive := Reported μ s) (.refl s) fun _ ht b _ => ht.trans (h _ b)

/-- R138: a written set is reported. -/
theorem Reported.setSuspended {set : List (Nat × SuspendReason)}
    (h : μ s.checker < μ { s.checker with suspended := set }) : Reported μ s (s.setSuspended set) where
  step := .inr ⟨h, by simp [State.setSuspended, State.posFlag_raiseBoth], by simp [State.setSuspended, State.contentFlag_raiseBoth]⟩
  pos fl hfl := by
    rw [State.setSuspended, State.posFlag_raiseBoth, decide_eq_false hfl, Bool.or_false]
    rfl
  content fl hfl := by
    rw [State.setSuspended, State.contentFlag_raiseBoth, decide_eq_false hfl, Bool.or_false]
    rfl

theorem Reported.link_port (h : Reported μ s t) (hμ : μ t.checker = μ s.checker) : t.link = s.link ∧ t.port = s.port := by
  rcases h.step with ⟨-, hl, hp⟩ | ⟨hlt, -, -⟩
  · exact ⟨hl, hp⟩
  · exact absurd hlt (hμ ▸ lt_irrefl _)

theorem Reported.flags (h : Reported μ s t) (hne : t.checker ≠ s.checker) :
    t.posFlag .suspendedChanged = true ∧ t.contentFlag .priceSuspended = true := by
  rcases h.step with ⟨hc, -, -⟩ | ⟨-, hf⟩
  · exact absurd hc hne
  · exact hf

end

/-! ### Suspensions grow worse -/

/-- How bad a suspension is: none, MISMATCH, PARITY, UNREPAIRABLE. -/
def suspensionRank : Option SuspendReason → Nat
  | none => 0
  | some .mismatch => 1
  | some .parity => 2
  | some .unrepairable => 3

/-- How bad the suspension of each code is. -/
def Checker.ranks (c : Checker) : Nat → Nat := fun code => suspensionRank (Sparse.find c.suspended code)

/-- `t` follows `s` by suspensions that begin or grow worse, each reported (R138). -/
abbrev Worsens (s t : State) : Prop := Reported Checker.ranks s t

theorem Worsens.suspend {s : State} {code : Nat} {r : SuspendReason}
    (h : suspensionRank (s.suspension code) < suspensionRank (some r)) : Worsens s (s.suspend code r) := by
  refine Reported.setSuspended (Pi.lt_def.2 ⟨fun c => ?_, code, ?_⟩)
  · simp only [Checker.ranks, Sparse.find_put]
    split
    · rename_i hc
      subst hc
      exact h.le
    · exact le_rfl
  · simp only [Checker.ranks, Sparse.find_put_self]
    exact h

theorem State.suspendMismatch_worsens (s : State) (code : Nat) : Worsens s (s.suspendMismatch code) := by
  unfold State.suspendMismatch
  split
  · exact .refl s
  · rename_i h
    split
    · exact .suspend (by rw [h]; decide)
    · exact .refl s

theorem State.suspendParity_worsens (s : State) (code : Nat) : Worsens s (s.suspendParity code) := by
  unfold State.suspendParity
  split
  · exact .refl s
  · exact .refl s
  all_goals
    rename_i h
    exact .suspend (by rw [h]; decide)

theorem State.markUnrepairable_worsens (s : State) (i : ItemIndex) : Worsens s (s.markUnrepairable i) := by
  unfold State.markUnrepairable
  split
  · exact .refl s
  · split
    · exact .refl s
    all_goals
      rename_i h
      exact .suspend (by rw [h]; decide)

theorem State.requestRepair_worsens (s : State) (i : ItemIndex) : Worsens s (s.requestRepair i) := by
  have h : Worsens s { s with nva := s.nva.takeRepair i } := .of_eq rfl rfl rfl
  unfold State.requestRepair
  dsimp only
  split
  · exact h.trans (State.markUnrepairable_worsens _ i)
  · exact h

theorem State.parityFailure_worsens (s : State) (i : ItemIndex) (it : Item) : Worsens s (s.parityFailure i it) := by
  have h : Worsens s (s.putItem i { it with health := .corrupt }) := .of_eq rfl rfl rfl
  exact (h.trans (State.suspendParity_worsens _ _)).trans (State.requestRepair_worsens _ i)

theorem State.readBody_worsens (s : State) (i : ItemIndex) : Worsens s (s.readBody i) := by
  unfold State.readBody
  split
  · exact .refl s
  · split
    · exact s.parityFailure_worsens i _
    · exact .refl s

/-! ### The suspended set, entry by entry (R138) -/

theorem State.suspension_suspend (s : State) (code : Nat) (r : SuspendReason) (c : Nat) :
    (s.suspend code r).suspension c = if c = code then some r else s.suspension c := Sparse.find_put _ _ _ _

theorem State.suspension_unsuspend (s : State) (code c : Nat) :
    (s.unsuspend code).suspension c = if c = code then none else s.suspension c := by
  unfold State.suspension
  rw [State.unsuspend_suspended, Sparse.find_drop]

theorem State.suspension_suspendMismatch (s : State) (code c : Nat) : (s.suspendMismatch code).suspension c =
    if c = code ∧ s.suspension c = none ∧ s.table.has c = true then some .mismatch else s.suspension c := by
  unfold State.suspendMismatch
  split
  · rename_i r h
    split
    · rename_i hc
      obtain ⟨rfl, hnone, -⟩ := hc
      simp [h] at hnone
    · rfl
  · rename_i h
    split
    · rename_i hlive
      rw [State.suspension_suspend]
      by_cases hc : c = code
      · subst hc
        simp [h, hlive]
      · simp [hc]
    · rename_i hlive
      split
      · rename_i hc
        obtain ⟨rfl, -, hlive'⟩ := hc
        exact absurd hlive' hlive
      · rfl

theorem State.suspension_suspendParity (s : State) (code c : Nat) : (s.suspendParity code).suspension c =
    if c = code then (if s.suspension code = some .unrepairable then some .unrepairable else some .parity)
    else s.suspension c := by
  by_cases hc : c = code
  · subst hc
    unfold State.suspendParity
    split <;> simp_all [State.suspension_suspend]
  · unfold State.suspendParity
    split <;> simp [State.suspension_suspend, hc]

theorem State.suspension_markUnrepairable {s : State} {i : ItemIndex} {it : Item} (hi : s.table.item i = some it) (c : Nat) :
    (s.markUnrepairable i).suspension c = if c = it.code then some .unrepairable else s.suspension c := by
  by_cases hc : c = it.code
  · subst hc
    unfold State.markUnrepairable
    rw [hi]
    dsimp only
    split <;> simp_all [State.suspension_suspend]
  · unfold State.markUnrepairable
    rw [hi]
    dsimp only
    split <;> simp [State.suspension_suspend, hc]

theorem State.suspension_congr {s t : State} (h : t.checker.suspended = s.checker.suspended) (c : Nat) :
    t.suspension c = s.suspension c := by
  unfold State.suspension
  rw [h]

/-! ### What a repair request meets (R62) -/

section
variable {n : Nva} {i : ItemIndex}

theorem Nva.takeRepair_outstanding (h : n.repairOutstanding i = true) : n.takeRepair i = n := by
  simp [Nva.takeRepair, h]

theorem Nva.takeRepair_clean (h : n.repairOutstanding i = false) (hs : n.slotState (itemSlot i) = .clean) :
    n.takeRepair i = { n with repairs := n.repairs ++ [i] } := by
  simp [Nva.takeRepair, h, hs]

theorem Nva.takeRepair_writing (h : n.repairOutstanding i = false) (hs : n.slotState (itemSlot i) = .writing)
    {w : SlotWrite} (ho : n.op = .write w) (hw : w.slot = itemSlot i) :
    n.takeRepair i = { n with op := .write { w with repairWaits := true } } := by
  simp [Nva.takeRepair, h, hs, ho, hw]

theorem Nva.takeRepair_dirty (h : n.repairOutstanding i = false) (hs : n.slotState (itemSlot i) = .dirty) :
    n.takeRepair i =
      { n.setSlotState (itemSlot i) .stale with queue := n.queue.filter (fun k => !decide (k = itemSlot i)) } := by
  simp [Nva.takeRepair, h, hs]

theorem Nva.takeRepair_unusable (h : n.repairOutstanding i = false)
    (hs : n.slotState (itemSlot i) = .stale ∨ n.slotState (itemSlot i) = .faulted) : n.takeRepair i = n := by
  rcases hs with hs | hs <;> simp [Nva.takeRepair, h, hs]

/-- R62: a request is refused where no repair is outstanding and the slot is DIRTY, STALE or FAULTED. -/
theorem Nva.repairRefused_iff : n.repairRefused i = true ↔ n.repairOutstanding i = false ∧
    (n.slotState (itemSlot i) = .dirty ∨ n.slotState (itemSlot i) = .stale ∨ n.slotState (itemSlot i) = .faulted) := by
  unfold Nva.repairRefused
  cases n.slotState (itemSlot i) <;> simp

end

@[simp] theorem State.requestRepair_nva (s : State) (i : ItemIndex) : (s.requestRepair i).nva = s.nva.takeRepair i := by
  unfold State.requestRepair
  dsimp only
  split
  · rw [(State.markUnrepairable_reports _ i).eq]
  · rfl

@[simp] theorem State.requestRepair_table (s : State) (i : ItemIndex) : (s.requestRepair i).table = s.table := by
  unfold State.requestRepair
  dsimp only
  split
  · rw [(State.markUnrepairable_reports _ i).eq]
  · rfl

theorem State.suspension_requestRepair {s : State} {i : ItemIndex} {it : Item} (hi : s.table.item i = some it) (c : Nat) :
    (s.requestRepair i).suspension c =
      if s.nva.repairRefused i = true ∧ c = it.code then some .unrepairable else s.suspension c := by
  unfold State.requestRepair
  dsimp only
  split
  · rename_i h
    rw [State.suspension_markUnrepairable (s := { s with nva := s.nva.takeRepair i }) hi c]
    simp only [h, true_and]
    rfl
  · rename_i h
    simp only [h, Bool.false_eq_true, false_and, if_false]
    rfl

/-! ### A body read (R11) -/

/-- The item once its parity failure has been found. -/
def Item.failed (it : Item) : Item := { it with health := .corrupt }

theorem State.readBody_none {s : State} {i : ItemIndex} (h : s.table.item i = none) : s.readBody i = s := by
  simp [State.readBody, h]

theorem State.readBody_sound {s : State} {i : ItemIndex} {it : Item} (hi : s.table.item i = some it)
    (h : it.health = .corrupt ∨ it.parityFails = false) : s.readBody i = s := by
  rcases h with h | h <;> simp [State.readBody, hi, h]

theorem State.readBody_fails {s : State} {i : ItemIndex} {it : Item} (hi : s.table.item i = some it)
    (hg : it.health = .good) (hp : it.parityFails = true) : s.readBody i = s.parityFailure i it := by
  simp [State.readBody, hi, hg, hp]

@[simp] theorem State.suspendParity_table (s : State) (code : Nat) : (s.suspendParity code).table = s.table := by
  rw [(s.suspendParity_reports code).eq]

@[simp] theorem State.suspendParity_nva (s : State) (code : Nat) : (s.suspendParity code).nva = s.nva := by
  rw [(s.suspendParity_reports code).eq]

theorem State.parityFailure_table (s : State) (i : ItemIndex) (it : Item) :
    (s.parityFailure i it).table = s.table.putItem i it.failed := by
  simp [State.parityFailure, Item.failed, State.putItem]

theorem State.parityFailure_nva (s : State) (i : ItemIndex) (it : Item) :
    (s.parityFailure i it).nva = s.nva.takeRepair i := by
  simp [State.parityFailure, State.putItem]

/-- R11, R62: the suspension that a parity failure leaves. -/
theorem State.suspension_parityFailure (s : State) (i : ItemIndex) (it : Item) (c : Nat) :
    (s.parityFailure i it).suspension c =
      if c = it.code then
        (if s.nva.repairRefused i = true ∨ s.suspension it.code = some .unrepairable then some .unrepairable
         else some .parity)
      else s.suspension c := by
  unfold State.parityFailure
  have hi : ((s.putItem i { it with health := .corrupt }).suspendParity it.code).table.item i = some it.failed := by
    rw [State.suspendParity_table]
    exact (PriceTable.item_putItem s.table i i _).trans (if_pos rfl)
  have hsusp : (s.putItem i { it with health := .corrupt }).suspension = s.suspension := rfl
  rw [State.suspension_requestRepair hi, State.suspension_suspendParity, State.suspendParity_nva, hsusp]
  show (if s.nva.repairRefused i = true ∧ c = it.code then _ else _) = _
  by_cases hc : c = it.code
  · subst hc
    by_cases hr : s.nva.repairRefused i = true <;> simp [hr]
  · simp [hc]

end Sys2Proof.Machine
end

section
/-! SUPPORT. ParityFailureHandledAtRead: a body read and the rows that carry upsets. -/

namespace Sys2Proof.Machine

/-! ### Upsets -/

@[simp] theorem State.upset_scenes (s : State) (i : ItemIndex) : (s.upset i).scenes = s.scenes := by
  rw [(s.upset_reads i).eq]

theorem State.upset_eq {s : State} {i : ItemIndex} {it : Item} (hi : s.table.item i = some it) :
    s.upset i = s.putItem i { it with parityFails := true } := by
  simp [State.upset, hi]

theorem State.layerFrom_congr {s t : State} (hs : t.scenes = s.scenes) (hp : t.panel = s.panel) (p : Fin 4) (k : Nat) :
    t.layerFrom p k = s.layerFrom p k := by
  simp only [State.layerFrom, State.panelFrom, State.enabled, hs, hp]

/-- The rows that carry upsets act as the same rows without any, over the bodies upset. -/
theorem upsets_first (s : State) (l : List ItemIndex) (d : ComposeUpset) (stuck : Bool) :
    exec (.commitCheckCompletion l) s = (match s.stager.commit with
      | some c => if c.state = .checking then exec (.commitCheckCompletion []) (l.foldl State.upset s) else .next s
      | none => .next s) ∧
    (∀ p k, s.engine.job = .compose (.layer p k) →
      exec (.composeLayer ⟨l, d⟩) s = exec (.composeLayer ⟨[], d⟩) (l.foldl State.upset s)) ∧
    (∀ i testing, s.engine.job = .check i testing → i < s.engine.shown.length →
      exec (.checkRecord l stuck) s = exec (.checkRecord [] stuck) (l.foldl State.upset s)) ∧
    (s.nva.loading = false → s.nva.op = .free → s.nva.repairs = [] → s.nva.queue ≠ [] →
      exec (.slotWriteBegin l) s = exec (.slotWriteBegin []) (l.foldl State.upset s)) := by
  have hr : ReadsBodies s (l.foldl State.upset s) := State.upsets_reads l s
  have hnva : (l.foldl State.upset s).nva = s.nva :=
    List.foldlRecOn l State.upset (motive := fun t => t.nva = s.nva) rfl fun t ht i _ => by
      rw [← ht]
      unfold State.upset
      split <;> rfl
  have hstager : (l.foldl State.upset s).stager = s.stager := hr.stager
  have hengine : (l.foldl State.upset s).engine = s.engine := by rw [hr.eq]
  refine ⟨?_, fun p k hj => ?_, fun i testing hj hi => ?_, fun hl ho hrep hq => ?_⟩
  · simp only [exec, execCommitCheckCompletion, hstager]
    cases hc : s.stager.commit with
    | none => rfl
    | some c =>
      by_cases hs : c.state = .checking
      · simp only [hs, if_true]
        rfl
      · simp only [hs, if_false]
  · simp only [exec, execComposeLayer, hengine, hj]
    rw [State.layerFrom_congr (s := s) (t := l.foldl State.upset s) (by rw [hr.eq]) (by rw [hr.eq])]
    rfl
  · simp only [exec, execCheckRecord, hengine, hj, List.getElem?_eq_getElem hi]
    rfl
  · obtain ⟨k, rest, hq⟩ := List.exists_cons_of_ne_nil hq
    simp only [exec, execSlotWriteBegin, hnva, hl, ho, hrep, hq]
    rfl

/-! ### A body read -/

/-- What a parity failure leaves of the array and of the suspension of its item, by what the request meets. -/
theorem parityFailure_by_slot (s : State) (i : ItemIndex) (it : Item) :
    let t := s.parityFailure i it
    let k := itemSlot i
    (s.nva.repairOutstanding i = true → t.nva = s.nva ∧
      t.suspension it.code = if s.suspension it.code = some .unrepairable then some .unrepairable else some .parity) ∧
    (s.nva.repairOutstanding i = false →
      (s.nva.slotState k = .clean → t.nva = { s.nva with repairs := s.nva.repairs ++ [i] } ∧
        t.suspension it.code = if s.suspension it.code = some .unrepairable then some .unrepairable else some .parity) ∧
      (∀ w, s.nva.slotState k = .writing → s.nva.op = .write w → w.slot = k →
        t.nva = { s.nva with op := .write { w with repairWaits := true } } ∧
        t.suspension it.code = if s.suspension it.code = some .unrepairable then some .unrepairable else some .parity) ∧
      (s.nva.slotState k = .dirty →
        t.nva = { s.nva.setSlotState k .stale with queue := s.nva.queue.filter (fun j => !decide (j = k)) } ∧
        t.suspension it.code = some .unrepairable) ∧
      (s.nva.slotState k = .stale ∨ s.nva.slotState k = .faulted →
        t.nva = s.nva ∧ t.suspension it.code = some .unrepairable)) := by
  dsimp only
  rw [State.parityFailure_nva, State.suspension_parityFailure, if_pos rfl]
  have taken : ¬ s.nva.repairRefused i = true →
      (if s.nva.repairRefused i = true ∨ s.suspension it.code = some .unrepairable then some SuspendReason.unrepairable
        else some .parity) =
      if s.suspension it.code = some .unrepairable then some .unrepairable else some .parity := by
    intro h
    simp [h]
  have refused : s.nva.repairRefused i = true →
      (if s.nva.repairRefused i = true ∨ s.suspension it.code = some .unrepairable then some SuspendReason.unrepairable
        else some .parity) = some .unrepairable := by
    intro h
    simp [h]
  refine ⟨fun ho => ⟨Nva.takeRepair_outstanding ho, taken ?_⟩, fun ho => ⟨fun hs => ⟨Nva.takeRepair_clean ho hs, taken ?_⟩,
    fun w hs hop hw => ⟨Nva.takeRepair_writing ho hs hop hw, taken ?_⟩,
    fun hs => ⟨Nva.takeRepair_dirty ho hs, refused ?_⟩, fun hs => ⟨Nva.takeRepair_unusable ho hs, refused ?_⟩⟩⟩ <;>
    rw [Nva.repairRefused_iff]
  · simp [ho]
  · simp [hs]
  · simp [hs]
  · exact ⟨ho, .inl hs⟩
  · exact ⟨ho, .inr hs⟩

/-- Settles O22: a failing body, every other body, and the rows that carry upsets. -/
theorem parityFailureHandledAtRead : Obligations.ParityFailureHandledAtRead := by
  unfold Obligations.ParityFailureHandledAtRead
  refine ⟨fun s i it hi => ⟨State.readBody_sound hi, fun hg hp => ?_⟩, fun s i => ⟨fun hi => ?_, fun it hi => ?_⟩,
    upsets_first⟩
  · rw [State.readBody_fails hi hg hp]
    have hreads := s.parityFailure_reads i it
    have hworse := s.parityFailure_worsens i it
    have htable := s.parityFailure_table i it
    obtain ⟨hout, hfree⟩ := parityFailure_by_slot s i it
    have hothers : ∀ c, c ≠ it.code → (s.parityFailure i it).suspension c = s.suspension c := fun c hc =>
      (s.suspension_parityFailure i it c).trans (if_neg hc)
    have hsame : s.suspension it.code = (s.parityFailure i it).suspension it.code →
        Checker.ranks (s.parityFailure i it).checker = Checker.ranks s.checker := by
      intro h
      funext c
      by_cases hc : c = it.code
      · subst hc
        exact congrArg suspensionRank h.symm
      · exact congrArg suspensionRank (hothers c hc)
    dsimp only
    generalize s.parityFailure i it = t at *
    refine ⟨?_, fun j hj => ?_, htable ▸ rfl, htable ▸ rfl, htable ▸ rfl, hothers, ?_, hout, hfree, fun hne => ?_,
      fun heq => hworse.link_port (hsame heq), hworse.pos, hworse.content, ?_⟩
    · rw [htable, PriceTable.item_putItem, if_pos rfl]
      rfl
    · rw [htable, PriceTable.item_putItem, if_neg hj]
    · rw [hreads.eq]
    · refine hworse.flags fun hc => hne ?_
      exact (State.suspension_congr (hc ▸ rfl) _).symm
    · refine ⟨?_, ?_, ?_, ?_, ?_, ?_, ?_, ?_, ?_, ?_, ?_⟩ <;> rw [hreads.eq]
  · exact ⟨State.readBody_none hi, by simp [State.upset, hi]⟩
  · rw [State.upset_eq hi]
    exact ⟨(PriceTable.item_putItem ..).trans (if_pos rfl), fun j hj => (PriceTable.item_putItem ..).trans (if_neg hj), rfl⟩

end Sys2Proof.Machine
end

section
/-! SUPPORT. ITEM_READ and ITEM_QUERY: the bytes of their answers and what they read. -/

namespace Sys2Proof.Machine

/-! ### Fields of an answer -/

/-- A flag at bit k as a multiple of its `Bool.toNat`. -/
theorem ite_eq_mul_toNat (b : Bool) (v : Nat) : (if b = true then v else 0) = v * b.toNat := by
  cases b <;> simp

/-- The bits of a sum of five flags. -/
theorem fiveFlags_bits (a b c d e : Bool) :
    ((if a then 1 else 0) + (if b then 2 else 0) + (if c then 4 else 0) + (if d then 8 else 0)
      + (if e then 16 else 0)) % 256 = Nat.bit a (Nat.bit b (Nat.bit c (Nat.bit d (Nat.bit e 0)))) := by
  have := Bool.toNat_le a
  have := Bool.toNat_le b
  have := Bool.toNat_le c
  have := Bool.toNat_le d
  have := Bool.toNat_le e
  simp only [ite_eq_mul_toNat, Nat.bit_val]
  omega

/-- The bits of a sum of eight flags. -/
theorem eightFlags_bits (a b c d e f g h : Bool) :
    ((if a then 1 else 0) + (if b then 2 else 0) + (if c then 4 else 0) + (if d then 8 else 0)
      + (if e then 16 else 0) + (if f then 32 else 0) + (if g then 64 else 0) + (if h then 128 else 0)) % 256 =
      Nat.bit a (Nat.bit b (Nat.bit c (Nat.bit d (Nat.bit e (Nat.bit f (Nat.bit g (Nat.bit h 0))))))) := by
  have := Bool.toNat_le a
  have := Bool.toNat_le b
  have := Bool.toNat_le c
  have := Bool.toNat_le d
  have := Bool.toNat_le e
  have := Bool.toNat_le f
  have := Bool.toNat_le g
  have := Bool.toNat_le h
  simp only [ite_eq_mul_toNat, Nat.bit_val]
  omega

/-- Tables 12-5 and 12-7: the presence byte shows each price and the promotion in its bit. -/
theorem presenceByte_bits (b : ItemBody) :
    (∀ d : Daypart, (byteOf (presenceByte b)).toNat.testBit d.val = b.price[d].isSome) ∧
      (byteOf (presenceByte b)).toNat.testBit 4 = b.promo.isSome := by
  have hbits := fiveFlags_bits b.price[0].isSome b.price[1].isSome b.price[2].isSome b.price[3].isSome b.promo.isSome
  have hbyte : (byteOf (presenceByte b)).toNat = _ := (byteOf_toNat _).trans hbits
  rw [hbyte]
  refine ⟨fun d => ?_, by simp only [Nat.testBit_bit_succ, Nat.testBit_bit_zero]⟩
  match d with
  | 0 => exact Nat.testBit_bit_zero ..
  | 1 => exact (Nat.testBit_bit_succ ..).trans (Nat.testBit_bit_zero ..)
  | 2 => simp [Nat.testBit_bit_succ]
  | 3 => simp [Nat.testBit_bit_succ]

/-- Tables 12-5 and 12-7: the marks show which shown prices are offered and which are clamped. -/
theorem shownMarks_bits (q : Vector (Option Nat × Bool) 4) (d : Daypart) :
    (shownMarks q).toNat.testBit d.val = q[d].1.isSome ∧ (shownMarks q).toNat.testBit (4 + d.val) = q[d].2 := by
  have hbits := eightFlags_bits q[0].1.isSome q[1].1.isSome q[2].1.isSome q[3].1.isSome q[0].2 q[1].2 q[2].2 q[3].2
  have hbyte : (shownMarks q).toNat = _ := (byteOf_toNat _).trans hbits
  rw [hbyte]
  match d with
  | 0 => simp [Nat.testBit_bit_succ]
  | 1 => simp [Nat.testBit_bit_succ]
  | 2 => simp [Nat.testBit_bit_succ]
  | 3 => simp [Nat.testBit_bit_succ]

/-- Four prices of three bytes each read back, most significant byte first. -/
theorem beAt_priceBytes (front back : List Byte) {v : Vector (Option Nat) 4} (d : Daypart) (h : v[d].getD 0 < 16777216) :
    beAt (front ++ (priceBytes (beBytes 3) v ++ back)) (front.length + 3 * d.val) 3 = v[d].getD 0 := by
  rw [beAt_three, Nat.add_assoc, Nat.add_assoc, byteAt_append_right, byteAt_append_right, byteAt_append_right]
  match d with
  | 0 => exact three_bytes h
  | 1 => exact three_bytes h
  | 2 => exact three_bytes h
  | 3 => exact three_bytes h

/-- Four prices of four bytes each read back, least significant byte first. -/
theorem leAt_priceBytes (front back : List Byte) {v : Vector (Option Nat) 4} (d : Daypart) (h : v[d].getD 0 < 16777216) :
    leAt (front ++ (priceBytes (leBytes 4) v ++ back)) (front.length + 4 * d.val) 4 = v[d].getD 0 := by
  rw [leAt_four, Nat.add_assoc, Nat.add_assoc, Nat.add_assoc, byteAt_append_right, byteAt_append_right, byteAt_append_right,
    byteAt_append_right]
  match d with
  | 0 => exact four_bytes (h.trans (by decide))
  | 1 => exact four_bytes (h.trans (by decide))
  | 2 => exact four_bytes (h.trans (by decide))
  | 3 => exact four_bytes (h.trans (by decide))

/-- The shown price of a daypart among the four. -/
theorem shownPrices_get (t : PriceTable) (b : ItemBody) (d : Daypart) :
    (shownPrices t b)[d] = shownPrice t.promos t.rules b d := by
  match d with
  | 0 => rfl
  | 1 => rfl
  | 2 => rfl
  | 3 => rfl

theorem shownValues_get (q : Vector (Option Nat × Bool) 4) (d : Daypart) : (shownValues q)[d] = q[d].1 := by
  match d with
  | 0 => rfl
  | 1 => rfl
  | 2 => rfl
  | 3 => rfl

/-- R1: the prices of a valid body, absent ones read as 0, and its promotion. -/
theorem ItemBody.valid_bounds {b : ItemBody} (h : b.valid = true) :
    (∀ d : Daypart, b.price[d].getD 0 ≤ maxPrice) ∧ b.promo.getD 0 < 32 := by
  simp only [ItemBody.valid, Bool.and_eq_true] at h
  obtain ⟨⟨⟨⟨⟨-, h0⟩, h1⟩, h2⟩, h3⟩, hp⟩ := h
  have bound : ∀ p : Option Nat, validPrice p = true → p.getD 0 ≤ maxPrice := by
    intro p hv
    cases p with
    | none => exact Nat.zero_le _
    | some v => simpa [validPrice] using hv
  refine ⟨fun d => ?_, ?_⟩
  · match d with
    | 0 => exact bound _ h0
    | 1 => exact bound _ h1
    | 2 => exact bound _ h2
    | 3 => exact bound _ h3
  · cases hb : b.promo with
    | none => decide
    | some i => simpa [hb] using hp

theorem shownPrice_getD_le (t : PriceTable) (b : ItemBody) (d : Daypart) :
    (shownPrice t.promos t.rules b d).1.getD 0 ≤ maxPrice := by
  cases h : (shownPrice t.promos t.rules b d).1 with
  | none => exact Nat.zero_le _
  | some q => exact shownPrice_le h

theorem pendingByte_toNat (a : Option Availability) : (pendingByte a).toNat = match a with
    | some .available => 0
    | some .soldOut => 1
    | none => 255 := by
  match a with
  | none => rfl
  | some .available => rfl
  | some .soldOut => rfl

theorem suspensionByte_toNat (r : Option SuspendReason) : (suspensionByte r).toNat = match r with
    | none => 0
    | some .mismatch => 1
    | some .parity => 2
    | some .unrepairable => 3 := by
  match r with
  | none => rfl
  | some .mismatch => rfl
  | some .parity => rfl
  | some .unrepairable => rfl

theorem Availability.byte_toNat (a : Availability) : a.byte.toNat = match a with
    | .available => 0
    | .soldOut => 1 := by
  cases a <;> rfl

theorem validCode_iff {code : Nat} : validCode code = true ↔ 1 ≤ code ∧ code ≤ 65534 := by
  simp [validCode]

/-! ### ITEM_READ -/

theorem beAt_beBytes_two {v : Nat} (h : v < 65536) : beAt (beBytes 2 v) 0 2 = v := by
  rw [beAt_two]
  exact two_bytes h

section
variable {code : Nat} {s : State} {i : ItemIndex} {it : Item}

/-- R20: an invalid code is refused. -/
theorem itemReadOwner_invalid (h : code < 65536) (hv : validCode code = false) :
    itemReadOwner (beBytes 2 code) s = (s, some [0x04]) := by
  simp only [itemReadOwner, beAt_beBytes_two h, hv]
  rfl

/-- R20: a code that is not in the table. -/
theorem itemReadOwner_absent (h : code < 65536) (hv : validCode code = true) (hi : s.table.indexOf code = none) :
    itemReadOwner (beBytes 2 code) s = (s, some [0x06]) := by
  simp only [itemReadOwner, beAt_beBytes_two h, hv, hi]
  rfl

/-- R20: a record that is CORRUPT once it has been read. -/
theorem itemReadOwner_corrupt (h : code < 65536) (hv : validCode code = true) (hi : s.table.indexOf code = some i)
    (hit : (s.readBody i).table.item i = some it) (hh : it.health = .corrupt) :
    itemReadOwner (beBytes 2 code) s = (s.readBody i, some (0x0B :: (beBytes 2 code ++ beBytes 2 i.val))) := by
  simp only [itemReadOwner, beAt_beBytes_two h, hv, hi, hit, hh]
  rfl

/-- R20: a record that is GOOD once it has been read. -/
theorem itemReadOwner_good (h : code < 65536) (hv : validCode code = true) (hi : s.table.indexOf code = some i)
    (hit : (s.readBody i).table.item i = some it) (hh : it.health = .good) :
    itemReadOwner (beBytes 2 code) s = (s.readBody i, some (PosStatus.ok.byte :: itemReadFields (s.readBody i) i it)) := by
  simp only [itemReadOwner, beAt_beBytes_two h, hv, hi, hit, hh]
  rfl

end

/-- Table 12-5: an ITEM_READ answer up to its prices. -/
def itemReadHead (i : ItemIndex) (it : Item) : List Byte :=
  PosStatus.ok.byte :: (beBytes 2 it.code ++ beBytes 2 i.val ++ [byteOf (presenceByte it.body)])

/-- Table 12-5: an ITEM_READ answer between the prices and the shown prices. -/
def itemReadMiddle (s : State) (it : Item) : List Byte :=
  [byteOf (it.body.promo.getD 0), it.avail.byte, pendingByte (Sparse.find s.table.pendingAvail it.code),
    suspensionByte (s.suspension it.code)]

theorem itemReadFields_parts (s : State) (i : ItemIndex) (it : Item) :
    PosStatus.ok.byte :: itemReadFields s i it =
      itemReadHead i it ++ priceBytes (beBytes 3) it.body.price ++ itemReadMiddle s it
        ++ priceBytes (beBytes 3) (shownValues (shownPrices s.table it.body)) ++ [shownMarks (shownPrices s.table it.body)] := by
  simp only [itemReadFields, itemReadHead, itemReadMiddle, List.append_assoc, List.cons_append]

/-- The answer of ITEM_READ for a GOOD record, field by field (Table 12-5). -/
theorem itemReadFields_read (s : State) (i : ItemIndex) {it : Item} (hcode : it.code < 65536) (hb : it.body.valid = true) :
    let p := PosStatus.ok.byte :: itemReadFields s i it
    p.length = 35 ∧ byteAt p 0 = 0 ∧ beAt p 1 2 = it.code ∧ beAt p 3 2 = i.val ∧
      (∀ d : Daypart, (byteAt p 5).testBit d.val = it.body.price[d].isSome ∧
        beAt p (6 + 3 * d.val) 3 = it.body.price[d].getD 0 ∧
        beAt p (22 + 3 * d.val) 3 = (shownPrice s.table.promos s.table.rules it.body d).1.getD 0 ∧
        (byteAt p 34).testBit d.val = (shownPrice s.table.promos s.table.rules it.body d).1.isSome ∧
        (byteAt p 34).testBit (4 + d.val) = (shownPrice s.table.promos s.table.rules it.body d).2) ∧
      (byteAt p 5).testBit 4 = it.body.promo.isSome ∧ byteAt p 18 = it.body.promo.getD 0 ∧
      byteAt p 19 = it.avail.byte.toNat ∧ byteAt p 20 = (pendingByte (Sparse.find s.table.pendingAvail it.code)).toNat ∧
      byteAt p 21 = (suspensionByte (s.suspension it.code)).toNat := by
  dsimp only
  obtain ⟨hprice, hpromo⟩ := ItemBody.valid_bounds hb
  have hi : i.val < 65536 := by omega
  have hmax : maxPrice < 16777216 := by decide
  have hq : ∀ d : Daypart, (shownValues (shownPrices s.table it.body))[d].getD 0 =
      (shownPrice s.table.promos s.table.rules it.body d).1.getD 0 := fun d => by
    rw [shownValues_get, shownPrices_get]
  have hbase : ∀ d : Daypart, beAt (PosStatus.ok.byte :: itemReadFields s i it) (6 + 3 * d.val) 3 =
      it.body.price[d].getD 0 := by
    intro d
    have := beAt_priceBytes (itemReadHead i it) (itemReadMiddle s it ++ (priceBytes (beBytes 3)
      (shownValues (shownPrices s.table it.body)) ++ [shownMarks (shownPrices s.table it.body)])) d ((hprice d).trans_lt hmax)
    rwa [← List.append_assoc, ← List.append_assoc, ← List.append_assoc, ← itemReadFields_parts] at this
  have hshown : ∀ d : Daypart, beAt (PosStatus.ok.byte :: itemReadFields s i it) (22 + 3 * d.val) 3 =
      (shownPrice s.table.promos s.table.rules it.body d).1.getD 0 := by
    intro d
    have := beAt_priceBytes (itemReadHead i it ++ priceBytes (beBytes 3) it.body.price ++ itemReadMiddle s it)
      [shownMarks (shownPrices s.table it.body)] (v := shownValues (shownPrices s.table it.body)) d
      (hq d ▸ (shownPrice_getD_le ..).trans_lt hmax)
    rwa [hq, ← List.append_assoc, ← itemReadFields_parts] at this
  have hpres : byteAt (PosStatus.ok.byte :: itemReadFields s i it) 5 = (byteOf (presenceByte it.body)).toNat := rfl
  have hmarks : byteAt (PosStatus.ok.byte :: itemReadFields s i it) 34 = (shownMarks (shownPrices s.table it.body)).toNat := by
    rw [itemReadFields_parts]
    rfl
  obtain ⟨hbit, hbit4⟩ := presenceByte_bits it.body
  refine ⟨?_, rfl, ?_, ?_, fun d => ⟨?_, hbase d, hshown d, ?_, ?_⟩, ?_, ?_, ?_, ?_, ?_⟩
  · simp [itemReadFields, priceBytes, beBytes_two, beBytes_three]
  · rw [beAt_two]
    exact two_bytes hcode
  · rw [beAt_two]
    exact two_bytes hi
  · rw [hpres, hbit d]
  · rw [hmarks, ← shownPrices_get, (shownMarks_bits _ d).1]
  · rw [hmarks, ← shownPrices_get, (shownMarks_bits _ d).2]
  · rw [hpres, hbit4]
  · exact byteOf_of_lt (by omega)
  · rfl
  · rfl
  · rfl

/-- Settles O23: refused, or the item as its read leaves it. -/
theorem itemReadReports : Obligations.ItemReadReports := by
  unfold Obligations.ItemReadReports
  intro s code hs hcode
  have run : ∀ t p, itemReadOwner (beBytes 2 code) s.frameEnd = (t, some p) →
      exec (.itemRead .addressed (beBytes 2 code)) s = t.answers 0x0E p := fun t p ho =>
    congrArg Host.Outcome.next (hs.handed (r := itemReadRequest (beBytes 2 code)) (by simp [itemReadRequest, beBytes_two]) ho)
  refine ⟨fun hbad => run _ _ ?_, fun h1 h2 hno => run _ _ ?_, fun i it h1 h2 hi hit hc => ?_⟩
  · refine itemReadOwner_invalid hcode ?_
    rcases hbad with rfl | rfl <;> rfl
  · refine itemReadOwner_absent hcode (validCode_iff.2 ⟨h1, h2⟩) ?_
    rw [State.frameEnd_table]
    exact PriceTable.has_eq_false_iff.1 hno
  · have hv := validCode_iff.2 ⟨h1, h2⟩
    have hfe : s.frameEnd.table.item i = some it := by rw [State.frameEnd_table, hit]
    have hfi : s.frameEnd.table.indexOf code = some i := by rw [State.frameEnd_table, hi]
    refine ⟨fun hbad => run _ _ ?_, fun hg hp => run _ _ ?_, fun hg hp hb => ?_⟩
    · have hread := State.readBody_sound hfe (.inl hbad)
      have := itemReadOwner_corrupt hcode hv hfi (hread.symm ▸ hfe) hbad
      rwa [hread] at this
    · have hfailed : (s.frameEnd.readBody i).table.item i = some it.failed := by
        rw [State.readBody_fails hfe hg hp, State.parityFailure_table, PriceTable.item_putItem, if_pos rfl]
      exact itemReadOwner_corrupt hcode hv hfi hfailed rfl
    · have hread := State.readBody_sound hfe (.inr hp)
      have hown := itemReadOwner_good hcode hv hfi (hread.symm ▸ hfe) hg
      rw [hread] at hown
      refine ⟨_, run _ _ hown, ?_⟩
      have hfields := itemReadFields_read s.frameEnd i (hc ▸ hcode) hb
      rw [Availability.byte_toNat, pendingByte_toNat, suspensionByte_toNat, hc] at hfields
      rw [State.frameEnd_table, State.suspension_congr (s := s) (t := s.frameEnd) (by rw [State.frameEnd_checker])] at hfields
      exact hfields

end Sys2Proof.Machine
end

section
/-! SUPPORT. ItemQueryReports: ITEM_QUERY refused, not present, without prices, or in full. -/

namespace Sys2Proof.Machine

/-- A number of two bytes from its bytes, the low one first. -/
theorem two_bytes_le {v : Nat} (h : v < 65536) : v % 256 + 256 * (v / 256 % 256) = v := by omega

/-- R21: what the owner answers about an item of the table, without its prices. -/
def itemQueryHead (s : State) (i : ItemIndex) (it : Item) : List Byte :=
  leBytes 2 it.code ++ leBytes 2 i.val ++ [it.avail.byte,
    pendingByte (Sparse.find s.table.pendingAvail it.code), suspensionByte (s.suspension it.code)]

theorem itemQueryFields_corrupt {s : State} {i : ItemIndex} {it : Item} (h : it.health = .corrupt) :
    itemQueryFields s i it = [1, 1] ++ itemQueryHead s i it := by
  simp only [itemQueryFields, h, itemQueryHead]

/-- Table 12-7: the bytes of the ITEM_QUERY report from the presence byte to the marks. -/
def itemQueryMarks (s : State) (it : Item) : List Byte :=
  [byteOf (presenceByte it.body), byteOf (it.body.promo.getD 0), shownMarks (shownPrices s.table it.body)]

theorem itemQueryFields_good {s : State} {i : ItemIndex} {it : Item} (h : it.health = .good) :
    itemQueryFields s i it = [1, 0] ++ itemQueryHead s i it ++ itemQueryMarks s it
      ++ priceBytes (leBytes 4) it.body.price ++ priceBytes (leBytes 4) (shownValues (shownPrices s.table it.body)) := by
  simp only [itemQueryFields, h, itemQueryHead, itemQueryMarks]

/-- The fields of an ITEM_QUERY report that every present item has (Table 12-7). -/
theorem itemQueryHead_read (a b : Byte) (s : State) (i : ItemIndex) {it : Item} (hcode : it.code < 65536) (back : List Byte) :
    let p := [a, b] ++ itemQueryHead s i it ++ back
    byteAt p 0 = a.toNat ∧ byteAt p 1 = b.toNat ∧ leAt p 2 2 = it.code ∧ leAt p 4 2 = i.val ∧
      byteAt p 6 = it.avail.byte.toNat ∧ byteAt p 7 = (pendingByte (Sparse.find s.table.pendingAvail it.code)).toNat ∧
      byteAt p 8 = (suspensionByte (s.suspension it.code)).toNat := by
  have hi : i.val < 65536 := by omega
  refine ⟨rfl, rfl, ?_, ?_, rfl, rfl, rfl⟩
  · rw [leAt_two]
    exact two_bytes_le hcode
  · rw [leAt_two]
    exact two_bytes_le hi

/-- The prices of an ITEM_QUERY report (Table 12-7). -/
theorem itemQueryFields_read (s : State) (i : ItemIndex) {it : Item} (hg : it.health = .good) (hb : it.body.valid = true) :
    let p := itemQueryFields s i it
    p.length = 44 ∧ (byteAt p 9).testBit 4 = it.body.promo.isSome ∧ byteAt p 10 = it.body.promo.getD 0 ∧
      ∀ d : Daypart, (byteAt p 9).testBit d.val = it.body.price[d].isSome ∧
        leAt p (12 + 4 * d.val) 4 = it.body.price[d].getD 0 ∧
        leAt p (28 + 4 * d.val) 4 = (shownPrice s.table.promos s.table.rules it.body d).1.getD 0 ∧
        (byteAt p 11).testBit d.val = (shownPrice s.table.promos s.table.rules it.body d).1.isSome ∧
        (byteAt p 11).testBit (4 + d.val) = (shownPrice s.table.promos s.table.rules it.body d).2 := by
  dsimp only
  rw [itemQueryFields_good hg]
  obtain ⟨hprice, hpromo⟩ := ItemBody.valid_bounds hb
  have hmax : maxPrice < 16777216 := by decide
  have hq : ∀ d : Daypart, (shownValues (shownPrices s.table it.body))[d].getD 0 =
      (shownPrice s.table.promos s.table.rules it.body d).1.getD 0 := fun d => by
    rw [shownValues_get, shownPrices_get]
  let front := [1, 0] ++ itemQueryHead s i it ++ itemQueryMarks s it
  have hbase : ∀ d : Daypart, leAt (front ++ priceBytes (leBytes 4) it.body.price
      ++ priceBytes (leBytes 4) (shownValues (shownPrices s.table it.body))) (12 + 4 * d.val) 4 = it.body.price[d].getD 0 := by
    intro d
    have := leAt_priceBytes front (priceBytes (leBytes 4) (shownValues (shownPrices s.table it.body))) d
      ((hprice d).trans_lt hmax)
    rwa [← List.append_assoc] at this
  have hshown : ∀ d : Daypart, leAt (front ++ priceBytes (leBytes 4) it.body.price
      ++ priceBytes (leBytes 4) (shownValues (shownPrices s.table it.body))) (28 + 4 * d.val) 4 =
      (shownPrice s.table.promos s.table.rules it.body d).1.getD 0 := by
    intro d
    have := leAt_priceBytes (front ++ priceBytes (leBytes 4) it.body.price) [] (v := shownValues (shownPrices s.table it.body)) d
      (hq d ▸ (shownPrice_getD_le ..).trans_lt hmax)
    rwa [hq, List.append_nil] at this
  have hpres : byteAt (front ++ priceBytes (leBytes 4) it.body.price
      ++ priceBytes (leBytes 4) (shownValues (shownPrices s.table it.body))) 9 = (byteOf (presenceByte it.body)).toNat := rfl
  have hmarks : byteAt (front ++ priceBytes (leBytes 4) it.body.price
      ++ priceBytes (leBytes 4) (shownValues (shownPrices s.table it.body))) 11 =
      (shownMarks (shownPrices s.table it.body)).toNat := rfl
  obtain ⟨hbit, hbit4⟩ := presenceByte_bits it.body
  refine ⟨rfl, ?_, ?_, fun d => ⟨?_, hbase d, hshown d, ?_, ?_⟩⟩
  · rw [hpres, hbit4]
  · exact byteOf_of_lt (by omega)
  · rw [hpres, hbit d]
  · rw [hmarks, ← shownPrices_get, (shownMarks_bits _ d).1]
  · rw [hmarks, ← shownPrices_get, (shownMarks_bits _ d).2]

section
variable {code : Nat} {s : State} {i : ItemIndex} {it : Item}

/-- R21: an invalid code is refused. -/
theorem itemQueryOwner_invalid (hv : validCode code = false) :
    itemQueryOwner code s = { state := s, status := .badValue, answer := [] } := by
  simp only [itemQueryOwner, hv]
  rfl

/-- R21: a code that is not in the table. -/
theorem itemQueryOwner_absent (hv : validCode code = true) (hi : s.table.indexOf code = none) :
    itemQueryOwner code s = { state := s, status := .ok, answer := [0] } := by
  simp only [itemQueryOwner, hv, hi]
  rfl

/-- R21: an item of the table, as its read leaves it. -/
theorem itemQueryOwner_present (hv : validCode code = true) (hi : s.table.indexOf code = some i)
    (hit : (s.readBody i).table.item i = some it) :
    itemQueryOwner code s = { state := s.readBody i, status := .ok, answer := itemQueryFields (s.readBody i) i it } := by
  simp only [itemQueryOwner, hv, hi, hit]
  rfl

end

/-- What a body read does to a suspension depends on the table, the array and the suspended set alone. -/
theorem State.suspension_readBody_congr {s t : State} (ht : t.table = s.table) (hn : t.nva = s.nva)
    (hc : t.checker = s.checker) (i : ItemIndex) (c : Nat) : (t.readBody i).suspension c = (s.readBody i).suspension c := by
  have hsusp : ∀ c, t.suspension c = s.suspension c := State.suspension_congr (hc ▸ rfl)
  cases hi : s.table.item i with
  | none => rw [State.readBody_none hi, State.readBody_none (ht ▸ hi), hsusp]
  | some it =>
    by_cases hbad : it.health = .corrupt ∨ it.parityFails = false
    · rw [State.readBody_sound hi hbad, State.readBody_sound (ht ▸ hi) hbad, hsusp]
    · obtain ⟨hg, hp⟩ := not_or.1 hbad
      have hg : it.health = .good := by cases h : it.health <;> simp_all
      have hp : it.parityFails = true := by simpa using hp
      rw [State.readBody_fails hi hg hp, State.readBody_fails (ht ▸ hi) hg hp, State.suspension_parityFailure,
        State.suspension_parityFailure, hn, hsusp, hsusp]

/-- R11: the record of an item once it has been read and is CORRUPT. -/
theorem State.item_readBody_failed {s : State} {i : ItemIndex} {it : Item} (hi : s.table.item i = some it)
    (h : it.health = .corrupt ∨ it.parityFails = true) : (s.readBody i).table.item i = some it.failed := by
  cases hh : it.health with
  | corrupt =>
    have : it.failed = it := by
      cases it
      cases hh
      rfl
    rw [State.readBody_sound hi (.inl hh), hi, this]
  | good =>
    have hp := h.resolve_left (by simp [hh])
    rw [State.readBody_fails hi hh hp, State.parityFailure_table, PriceTable.item_putItem, if_pos rfl]

theorem State.pendingAvail_readBody (s : State) (i : ItemIndex) :
    (s.readBody i).table.pendingAvail = s.table.pendingAvail := by
  unfold State.readBody
  split
  · rfl
  · split
    · rw [State.parityFailure_table]
      rfl
    · rfl

section
variable {code : Nat} {s : State} {i : ItemIndex} {it : Item}

/-- R21: the answer about an item whose record is CORRUPT, or is found so at this read. -/
theorem itemQueryOwner_failed (hv : validCode code = true) (hi : s.table.indexOf code = some i)
    (hit : s.table.item i = some it) (hc : it.code = code) (hbad : it.health = .corrupt ∨ it.parityFails = true) :
    ∃ p, itemQueryOwner code s = { state := s.readBody i, status := .ok, answer := p } ∧ p.length = 9 ∧
      byteAt p 0 = 1 ∧ byteAt p 1 = 1 ∧ leAt p 2 2 = code ∧ leAt p 4 2 = i.val ∧ byteAt p 6 = it.avail.byte.toNat ∧
      byteAt p 7 = (pendingByte (Sparse.find s.table.pendingAvail code)).toNat ∧
      byteAt p 8 = (suspensionByte ((s.readBody i).suspension code)).toNat := by
  subst hc
  obtain ⟨-, hsmall⟩ := validCode_iff.1 hv
  have hread := itemQueryHead_read 1 1 (s.readBody i) i (it := it.failed) (show it.code < 65536 by omega) []
  rw [List.append_nil, State.pendingAvail_readBody] at hread
  refine ⟨_, itemQueryOwner_present hv hi (State.item_readBody_failed hit hbad), ?_⟩
  rw [itemQueryFields_corrupt rfl]
  exact ⟨rfl, hread⟩

/-- R21: the answer about an item whose record is sound. -/
theorem itemQueryOwner_sound (hv : validCode code = true) (hi : s.table.indexOf code = some i)
    (hit : s.table.item i = some it) (hc : it.code = code) (hg : it.health = .good) (hp : it.parityFails = false) :
    itemQueryOwner code s = { state := s, status := .ok, answer := itemQueryFields s i it } ∧
      byteAt (itemQueryFields s i it) 0 = 1 ∧ byteAt (itemQueryFields s i it) 1 = 0 ∧
      leAt (itemQueryFields s i it) 2 2 = code ∧ leAt (itemQueryFields s i it) 4 2 = i.val ∧
      byteAt (itemQueryFields s i it) 6 = it.avail.byte.toNat ∧
      byteAt (itemQueryFields s i it) 7 = (pendingByte (Sparse.find s.table.pendingAvail code)).toNat ∧
      byteAt (itemQueryFields s i it) 8 = (suspensionByte (s.suspension code)).toNat := by
  subst hc
  obtain ⟨-, hsmall⟩ := validCode_iff.1 hv
  have hread := State.readBody_sound hit (.inr hp)
  have hown := itemQueryOwner_present hv hi (hread.symm ▸ hit)
  rw [hread] at hown
  have hhead := itemQueryHead_read 1 0 s i (it := it) (by omega) (itemQueryMarks s it ++ (priceBytes (leBytes 4) it.body.price
    ++ priceBytes (leBytes 4) (shownValues (shownPrices s.table it.body))))
  rw [← List.append_assoc, ← List.append_assoc, ← itemQueryFields_good hg] at hhead
  exact ⟨hown, hhead⟩

end

/-- The ITEM_QUERY command as it is taken. -/
def itemQueryRow (go : BitVec 32) (code : BitVec 16) : CommandRow := ⟨0x40, go, [(4, two code)]⟩

/-- ITEM_QUERY ends as its owner decides (R167). -/
theorem itemQuery_completes {s : State} {go : BitVec 32} {code : BitVec 16} (hl : s.nva.loading = false)
    {effect : State → State} {st : ContentStatus} {answer : List Byte}
    (ho : itemQueryOwner code.toNat (s.taken (itemQueryRow go code)) = ⟨effect (s.taken (itemQueryRow go code)), st, answer⟩) :
    s.Completes (.itemQuery go code) effect st answer := by
  refine ⟨itemQueryRow go code, rfl, congrArg Host.Outcome.next ?_⟩
  have hlive : (s.writeRecord [(0, [0x40]), (4, two code)]).nva.loading = false := by rw [State.writeRecord_nva, hl]
  have htaken : (s.writeRecord [(0, [0x40]), (4, two code)]).tagged go = s.taken (itemQueryRow go code) := rfl
  rw [takeItemQuery, State.takeCommand_owner (.inl hlive), htaken, ho]
  rfl

/-- Settles O24: refused, not present, without prices, or in full. -/
theorem itemQueryReports : Obligations.ItemQueryReports := by
  unfold Obligations.ItemQueryReports
  intro s go code hl
  have valid : code ≠ 0 → code ≠ 0xFFFF → validCode code.toNat = true := fun h0 h1 => validCode_iff.2 (by bv_omega)
  have htable := State.taken_table s (itemQueryRow go code)
  have hsusp : ∀ c, (s.taken (itemQueryRow go code)).suspension c = s.suspension c := fun _ => rfl
  have hfail : ∀ i c, ((s.taken (itemQueryRow go code)).readBody i).suspension c = (s.readBody i).suspension c :=
    State.suspension_readBody_congr htable (State.taken_nva ..) (State.taken_checker ..)
  have run := fun effect st answer => itemQuery_completes (go := go) (code := code) hl (effect := effect) (st := st) (answer := answer)
  generalize s.taken (itemQueryRow go code) = t at *
  refine ⟨fun hbad => run id _ _ ?_, fun h0 h1 hno => run id _ _ ?_, fun i it h0 h1 hi hit hc => ?_⟩
  · refine itemQueryOwner_invalid ?_
    rcases hbad with rfl | rfl <;> rfl
  · refine itemQueryOwner_absent (valid h0 h1) ?_
    rw [htable]
    exact PriceTable.has_eq_false_iff.1 hno
  · have hv := valid h0 h1
    rw [← htable] at hi hit
    refine ⟨fun hbad => ?_, fun hg hp hb => ?_⟩
    · obtain ⟨p, ho, hlen, hp0, hp1, hp2, hp4, hp6, hp7, hp8⟩ := itemQueryOwner_failed hv hi hit hc hbad
      rw [Availability.byte_toNat] at hp6
      rw [pendingByte_toNat, htable] at hp7
      rw [suspensionByte_toNat, hfail] at hp8
      exact ⟨p, run (fun t => t.readBody i) _ _ ho, hlen, hp0, hp1, hp2, hp4, hp6, hp7, hp8⟩
    · obtain ⟨ho, hp0, hp1, hp2, hp4, hp6, hp7, hp8⟩ := itemQueryOwner_sound hv hi hit hc hg hp
      obtain ⟨hlen, h94, h10, hd⟩ := itemQueryFields_read t i hg hb
      rw [Availability.byte_toNat] at hp6
      rw [pendingByte_toNat, htable] at hp7
      rw [suspensionByte_toNat, hsusp] at hp8
      rw [htable] at hd
      exact ⟨_, run id _ _ ho, hlen, hp0, hp1, hp2, hp4, hp6, hp7, hp8, h94, h10, hd⟩

end Sys2Proof.Machine
end

section
/-! SUPPORT. CommitAppliedEntryByEntry: what an applied entry does to the table, the suspended set and its slot. -/

namespace Sys2Proof.Machine

/-! ### Slots marked DIRTY and repairs withdrawn (R58) -/

section
variable {n : Nva} {k : SlotId} {i : ItemIndex}

theorem Nva.markDirty_queued (h : n.slotState k = .clean ∨ n.slotState k = .stale ∨ n.slotState k = .faulted) :
    n.markDirty k = { n.setSlotState k .dirty with queue := n.queue ++ [k] } := by
  rcases h with h | h | h <;> simp [Nva.markDirty, h]

theorem Nva.markDirty_dirty (h : n.slotState k = .dirty) : n.markDirty k = n := by simp [Nva.markDirty, h]

theorem Nva.markDirty_writing (h : n.slotState k = .writing) {w : SlotWrite} (ho : n.op = .write w) (hw : w.slot = k) :
    n.markDirty k = { n with op := .write { w with rewrite := true } } := by
  simp [Nva.markDirty, h, ho, hw]

theorem Nva.withdrawRepair_waiting {w : SlotWrite} (ho : n.op = .write w) (hw : w.slot = itemSlot i) :
    n.withdrawRepair i =
      { n with repairs := n.repairs.filter (fun j => !decide (j = i)), op := .write { w with repairWaits := false } } := by
  simp [Nva.withdrawRepair, ho, hw]

theorem Nva.withdrawRepair_other (h : ∀ w, n.op = .write w → w.slot ≠ itemSlot i) :
    n.withdrawRepair i = { n with repairs := n.repairs.filter (fun j => !decide (j = i)) } := by
  unfold Nva.withdrawRepair
  cases ho : n.op with
  | free => rfl
  | read j => rfl
  | write w => simp [h w ho]

/-- R58: of the repairs of a slot only a read in flight outlives the withdrawal. -/
theorem Nva.repairOutstanding_withdrawRepair (n : Nva) (i : ItemIndex) :
    (n.withdrawRepair i).repairOutstanding i = decide (n.op = .read i) := by
  have hlist : (n.repairs.filter (fun j => !decide (j = i))).contains i = false := by simp
  by_cases h : ∃ w, n.op = .write w ∧ w.slot = itemSlot i
  · obtain ⟨w, ho, hw⟩ := h
    rw [Nva.withdrawRepair_waiting ho hw]
    simp only [Nva.repairOutstanding, hlist, ho, Bool.and_false, Bool.or_false]
    exact (decide_eq_false (by simp)).symm
  · have hno : ∀ w, n.op = .write w → w.slot ≠ itemSlot i := fun w ho hw => h ⟨w, ho, hw⟩
    rw [Nva.withdrawRepair_other hno]
    simp only [Nva.repairOutstanding, hlist, Bool.false_or]
    cases ho : n.op with
    | free => simp
    | read j => simp
    | write w => simp [hno w ho]

end

/-! ### Entries applied (R38, R39) -/

theorem PriceTable.lowestFree_eq {t : PriceTable} {i : ItemIndex} (h : t.item i = none)
    (hbelow : ∀ j : ItemIndex, j.val < i.val → t.item j ≠ none) : t.lowestFree = some i := by
  refine List.find?_eq_some_iff_getElem.2 ⟨by simp [h], i.val, by simp, by simp, fun j hj => ?_⟩
  have := hbelow ⟨j, hj.trans i.isLt⟩ hj
  simpa [Option.isSome_iff_ne_none] using this

section
variable (s : State) (i : ItemIndex) (code : Nat) (body : ItemBody) (a : Availability)

theorem State.setItemAt_table :
    (s.setItemAt i code body a).table = s.table.putItem i ⟨code, body, false, .good, a⟩ := State.unsuspend_table _ _

theorem State.setItemAt_nva : (s.setItemAt i code body a).nva = (s.nva.withdrawRepair i).markDirty (itemSlot i) := by
  simp only [State.setItemAt, State.unsuspend_nva, State.putItem_nva]
  rfl

theorem State.suspension_setItemAt (c : Nat) :
    (s.setItemAt i code body a).suspension c = if c = code then none else s.suspension c :=
  State.suspension_unsuspend _ code c

end

/-- R38: an ITEM_SET is written at the index of its code, or at the lowest free one. -/
theorem State.applyItemSet_at {s : State} {code : Nat} {i : ItemIndex} (body : ItemBody)
    (hi : s.table.indexOf code = some i ∨
      (s.table.has code = false ∧ s.table.item i = none ∧ ∀ j : ItemIndex, j.val < i.val → s.table.item j ≠ none)) :
    s.applyItemSet code body = s.setItemAt i code body
      (if s.table.has code then ((s.table.item i).map (·.avail)).getD .available else .available) := by
  unfold State.applyItemSet
  rcases hi with hi | ⟨hno, hfree, hbelow⟩
  · rw [hi, if_pos (PriceTable.has_of_indexOf hi)]
  · rw [PriceTable.has_eq_false_iff.1 hno, PriceTable.lowestFree_eq hfree hbelow, hno]
    rfl

/-! ### Suspensions lifted -/

/-- How few suspensions there are. -/
def Checker.lifted (c : Checker) : ℕᵒᵈ := OrderDual.toDual c.suspended.length

/-- `t` follows `s` by suspensions lifted, each reported (R138). -/
abbrev Lifts (s t : State) : Prop := Reported Checker.lifted s t

theorem Sparse.drop_length_lt {κ α : Type} [LinearOrder κ] {m : List (κ × α)} {k : κ} {v : α}
    (h : Sparse.find m k = some v) : (Sparse.drop m k).length < m.length :=
  List.length_filter_lt_length_iff_exists.2 ⟨(k, v), Sparse.mem_of_find h, by simp⟩

theorem State.unsuspend_lifts (s : State) (code : Nat) : Lifts s (s.unsuspend code) := by
  unfold State.unsuspend
  split
  · rename_i r h
    exact .setSuspended (OrderDual.toDual_lt_toDual.2 (Sparse.drop_length_lt h))
  · exact .refl s

theorem State.setItemAt_lifts (s : State) (i : ItemIndex) (code : Nat) (body : ItemBody) (a : Availability) :
    Lifts s (s.setItemAt i code body a) := by
  have hput : Lifts s (s.putItem i ⟨code, body, false, .good, a⟩) := .of_eq rfl rfl rfl
  exact (hput.trans (State.unsuspend_lifts _ code)).trans (.of_eq rfl rfl rfl)

theorem State.applyEntry_lifts (s : State) (e : StagedEntry) : Lifts s (s.applyEntry e) := by
  cases e with
  | itemSet code body =>
    simp only [State.applyEntry, State.applyItemSet]
    split
    · exact s.setItemAt_lifts ..
    · split
      · exact s.setItemAt_lifts ..
      · exact .refl s
  | itemRemove code =>
    simp only [State.applyEntry, State.applyItemRemove]
    split
    · exact .refl s
    · rename_i i _
      have hdrop : Lifts s { s with table := { s.table with items := Sparse.drop s.table.items i,
                                                            pendingAvail := Sparse.drop s.table.pendingAvail code } } :=
        .of_eq rfl rfl rfl
      exact (hdrop.trans (State.unsuspend_lifts _ code)).trans (.of_eq rfl rfl rfl)
  | promoSet i p => exact .of_eq rfl rfl rfl
  | rulesSet r => exact .of_eq rfl rfl rfl

theorem State.applyEntries_lifts (s : State) (l : List StagedEntry) : Lifts s (l.foldl State.applyEntry s) :=
  Reported.foldl State.applyEntry_lifts l s

/-! ### The whole commit (R37) -/

/-- The state in which a PENDING record has ended, over the state its entries leave. -/
def State.commitEnded (s t : State) : State :=
  ({ t with stager := { s.stager with commit := none, commitNumber := s.stager.commitNumber + 1,
                                      lastOutcome := .applied } }).raiseBoth .commitApplied .commitApplied

theorem State.applyCommit_pending {s : State} {c : CommitRecord} (hc : s.stager.commit = some c) (hp : c.state = .pending) :
    s.applyCommit = s.commitEnded (c.entries.foldl State.applyEntry s) := by
  simp only [State.applyCommit, hc, hp, if_true, State.applyEntries_stager]
  rfl

theorem State.applyCommit_other {s : State} (h : ∀ c, s.stager.commit = some c → c.state ≠ .pending) : s.applyCommit = s := by
  unfold State.applyCommit
  cases hc : s.stager.commit with
  | none => rfl
  | some c => exact if_neg (h c hc)

theorem State.posFlag_commitEnded (s t : State) (f : PosFlag) :
    (s.commitEnded t).posFlag f = (t.posFlag f || decide (f = .commitApplied)) := State.posFlag_raiseBoth _ _ _ f

theorem State.contentFlag_commitEnded (s t : State) (f : ContentFlag) :
    (s.commitEnded t).contentFlag f = (t.contentFlag f || decide (f = .commitApplied)) :=
  State.contentFlag_raiseBoth _ _ _ f

/-- Settles O18: the whole application, each kind of entry, and the marks on slots. -/
theorem commitAppliedEntryByEntry : Obligations.CommitAppliedEntryByEntry := by
  unfold Obligations.CommitAppliedEntryByEntry
  intro s
  refine ⟨fun c hc hp => ?_, State.applyCommit_other, fun code body i hi => ?_, fun code => ?_, fun i p => rfl,
    fun r => rfl, fun n k => ⟨fun h => ?_, Nva.markDirty_dirty, fun w h => Nva.markDirty_writing h⟩,
    fun n i => ⟨fun w => Nva.withdrawRepair_waiting, Nva.withdrawRepair_other, n.repairOutstanding_withdrawRepair i⟩⟩
  · have hlifts := s.applyEntries_lifts c.entries
    refine ⟨_, rfl, State.applyEntries_stager .., State.applyCommit_pending hc hp, ?_⟩
    rw [State.applyCommit_pending hc hp]
    simp only [State.posFlag_commitEnded, State.contentFlag_commitEnded, decide_true, Bool.or_true, true_and]
    refine ⟨fun fl h1 h2 => ?_, fun fl h1 h2 => ?_, fun heq => ?_, fun hne => ?_⟩
    · simp [h1, hlifts.pos fl h2]
    · simp [h1, hlifts.content fl h2]
    · obtain ⟨hl, hpt⟩ := hlifts.link_port (congrArg Checker.lifted heq)
      rw [State.posFlag_congr (congrArg _ hl), State.contentFlag_congr (congrArg _ hpt)]
      simp
    · obtain ⟨hf, hg⟩ := hlifts.flags hne
      simp [hf, hg]
  · rw [State.applyEntry, State.applyItemSet_at body hi]
    refine ⟨?_, fun j hj => ?_, ?_, ?_, ?_, ?_, fun x hx => ?_, State.setItemAt_nva ..⟩
    · rw [State.setItemAt_table, PriceTable.item_putItem, if_pos rfl]
    · rw [State.setItemAt_table, PriceTable.item_putItem, if_neg hj]
    · rw [State.setItemAt_table]
      rfl
    · rw [State.setItemAt_table]
      rfl
    · rw [State.setItemAt_table]
      rfl
    · rw [State.suspension_setItemAt, if_pos rfl]
    · rw [State.suspension_setItemAt, if_neg hx]
  · simp only [State.applyEntry, State.applyItemRemove]
    refine ⟨fun hno => ?_, fun i hi => ?_⟩
    · rw [PriceTable.has_eq_false_iff.1 hno]
    · rw [hi]
      dsimp only
      rw [State.unsuspend_table, State.unsuspend_nva]
      exact ⟨Sparse.find_drop_self .., fun j hj => Sparse.find_drop_ne _ hj, rfl, rfl, rfl,
        (State.suspension_unsuspend _ code code).trans (if_pos rfl),
        fun x hx => (State.suspension_unsuspend _ code x).trans (if_neg hx), rfl⟩
  · refine ⟨_, Nva.markDirty_queued h, fun j => ?_⟩
    rw [Nva.markDirty_queued h]
    exact Nva.slotState_setSlotState n k j .dirty

end Sys2Proof.Machine
end

section
/-! SUPPORT. RepairRestoresOrFails: the result of a repair read and what its completion does. -/

namespace Sys2Proof.Machine

/-- R53: a record that fits its position is valid, corrected or not. -/
theorem loadFinding_fits {k : SlotId} {torn : Option SlotId} {v : NvSlot} (ht : torn ≠ some k)
    (hread : v.read = .clean ∨ v.read = .sec) (hfit : v.record.validFor (slotKind k) = true) :
    loadFinding k torn v = .valid (decide (v.read = .sec)) v.record := by
  rcases hread with hread | hread <;> simp [loadFinding, ht, hread, hfit]

/-- R64: the contents of an item slot can be used for a repair. -/
def NvSlot.repairs (v : NvSlot) (code : Nat) (body : ItemBody) : Prop :=
  (v.read = .clean ∨ v.read = .sec) ∧ v.record = .item code body ∧ validCode code = true ∧ body.valid = true

section
variable {i : ItemIndex} {v : NvSlot} {code : Nat} {body : ItemBody}

theorem repairResult_usable (h : v.repairs code body) :
    repairResult i v = .usable (decide (v.read = .sec)) code body := by
  obtain ⟨hread, hrec, hcode, hbody⟩ := h
  have hfit : v.record.validFor (slotKind (itemSlot i)) = true := by
    rw [slotKind_itemSlot, hrec]
    simp [SlotRecord.validFor, hcode, hbody]
  unfold repairResult
  rw [loadFinding_fits (by simp) hread hfit, hrec]

theorem repairs_of_repairResult {corrected : Bool} (h : repairResult i v = .usable corrected code body) :
    v.repairs code body := by
  unfold repairResult at h
  split at h
  · rename_i hf
    have hfound := hf
    obtain ⟨rfl, hfit⟩ := loadFinding_valid hf
    rw [slotKind_itemSlot] at hfit
    split at h
    · rename_i hrec
      cases h
      simp only [hrec, SlotRecord.validFor, Bool.and_eq_true] at hfit
      refine ⟨?_, hrec, hfit⟩
      cases hread : v.read with
      | clean => exact .inl rfl
      | sec => exact .inr rfl
      | ded => simp [loadFinding, hread] at hfound
      | erased => simp [loadFinding, hread] at hfound
    all_goals cases h
  all_goals cases h

theorem repairResult_unusable (h : ∀ code body, ¬ v.repairs code body) : repairResult i v = .unusable := by
  cases hr : repairResult i v with
  | unusable => rfl
  | usable corrected code body => exact absurd (repairs_of_repairResult hr) (h code body)

end

/-! ### A restore (R13, R138) -/

section
variable {s : State} {i : ItemIndex} {code : Nat} {body : ItemBody} {it : Item}

theorem State.restore_same (hi : s.table.item i = some it) (hh : it.health = .corrupt) (hc : it.code = code) :
    s.restore i code body =
      (s.putItem i { it with body := body, parityFails := false, health := .good }).unsuspendRestored code := by
  simp only [State.restore, hi, hh, if_pos hc]

theorem State.restore_other (hi : s.table.item i = some it) (hh : it.health = .corrupt) (hc : it.code ≠ code) :
    s.restore i code body = s.markUnrepairable i := by
  simp only [State.restore, hi, hh, if_neg hc]

theorem State.restore_good (h : ∀ it, s.table.item i = some it → it.health = .good) : s.restore i code body = s := by
  unfold State.restore
  cases hi : s.table.item i with
  | none => rfl
  | some it => simp only [h it hi]

end

/-! ### The completion (R64) -/

/-- R57: a single-bit correction met at a repair read is logged. -/
def State.logRepairSec (s : State) (i : ItemIndex) (v : NvSlot) : State :=
  if v.read = .sec then s.logFault { slot := i.val, kind := .sec, origin := .repair } else s

/-- R63: the array is free again, and the slot holds what was read. -/
def State.repairRead (s : State) (i : ItemIndex) (v : NvSlot) : State :=
  { s with nva := { s.nva.setSlot (itemSlot i) v with op := .free } }

section
variable {s : State} {i : ItemIndex} {v : NvSlot} {code : Nat} {body : ItemBody}

theorem State.completeRepair_dirty_usable (hd : s.nva.slotState (itemSlot i) = .dirty) (h : v.repairs code body) :
    s.completeRepair i v = (s.repairRead i v).logRepairSec i v := by
  simp only [State.completeRepair, hd, if_true, repairResult_usable h, decide_eq_true_eq]
  rfl

theorem State.completeRepair_dirty_unusable (hd : s.nva.slotState (itemSlot i) = .dirty)
    (h : ∀ code body, ¬ v.repairs code body) :
    s.completeRepair i v = (s.repairRead i v).logFault { slot := i.val, kind := .ded, origin := .repair } := by
  simp only [State.completeRepair, hd, if_true, repairResult_unusable h]
  rfl

theorem State.completeRepair_usable (hd : s.nva.slotState (itemSlot i) ≠ .dirty) (h : v.repairs code body) :
    s.completeRepair i v = ((s.repairRead i v).restore i code body).logRepairSec i v := by
  simp only [State.completeRepair, if_neg hd, repairResult_usable h, decide_eq_true_eq]
  rfl

theorem State.completeRepair_unusable (hd : s.nva.slotState (itemSlot i) ≠ .dirty)
    (h : ∀ code body, ¬ v.repairs code body) : s.completeRepair i v = (s.repairRead i v).failRepair i := by
  simp only [State.completeRepair, if_neg hd, repairResult_unusable h]
  rfl

end

/-- Settles O41: the start of a repair read, and its completion by the slot's state and what was read. -/
theorem repairRestoresOrFails : Obligations.RepairRestoresOrFails := by
  unfold Obligations.RepairRestoresOrFails
  intro s
  refine ⟨fun i rest hl ho hr => ?_, fun i found ho => ?_⟩
  · simp only [exec, execRepairReadStart, hl, ho, hr]
  · have hexec : exec (.repairReadCompletion found) s =
        .next (s.completeRepair i (found.getD (s.nva.slot (itemSlot i)))) := by
      simp only [exec, execRepairReadCompletion, ho]
    rw [hexec]
    refine ⟨fun hd => ⟨fun code body it hu hi hh hc => ?_, fun code body it hu hi hh hc => ?_, fun code body hu hg => ?_,
      fun hno => ?_⟩, fun hd => ⟨fun code body hu => ?_, fun hno => ?_⟩⟩
    · rw [State.completeRepair_usable hd hu, State.restore_same (s := s.repairRead i _) hi hh hc]
      rfl
    · rw [State.completeRepair_usable hd hu, State.restore_other (s := s.repairRead i _) hi hh hc]
      rfl
    · rw [State.completeRepair_usable hd hu, State.restore_good (s := s.repairRead i _) hg]
      rfl
    · rw [State.completeRepair_unusable hd hno]
      rfl
    · rw [State.completeRepair_dirty_usable hd hu]
      rfl
    · rw [State.completeRepair_dirty_unusable hd hno]
      rfl

end Sys2Proof.Machine
end

section
/-! SUPPORT. RecordJudgedAndComparatorTested: glyph strings hold no dash, the verdict on a record, and what the check stage
does with it. -/

namespace Sys2Proof.Machine

/-! ### A price string holds no dash (R72, R73, R142) -/

theorem digitsWithin_lt (k n : Nat) : ∀ g ∈ digitsWithin k n, g < 10 := by
  induction k generalizing n with
  | zero => simp [digitsWithin]
  | succ k ih =>
    intro g hg
    rw [digitsWithin] at hg
    split at hg
    · rename_i h
      rw [List.mem_singleton] at hg
      omega
    · rcases List.mem_append.1 hg with hg | hg
      · exact ih _ g hg
      · rw [List.mem_singleton] at hg
        omega

theorem mem_grouped {sep : Nat} {l : List Nat} {g : Nat} (h : g ∈ grouped sep l) : g = sep ∨ g ∈ l := by
  induction l with
  | nil => simp [grouped] at h
  | cons d rest ih =>
    rw [grouped] at h
    split at h <;> simp only [List.mem_cons] at h ⊢ <;> tauto

theorem majorString_ne_dash (st : Style) (n : Nat) : ∀ g ∈ majorString st n, g ≠ glyphDash := by
  intro g hg
  have digit : ∀ g ∈ majorDigits n, g ≠ glyphDash := fun g hg => ((digitsWithin_lt _ _ g hg).trans (by decide)).ne
  unfold majorString at hg
  split at hg
  · exact digit g hg
  · rcases mem_grouped hg with rfl | hg
    · decide
    · exact digit g hg
  · rcases mem_grouped hg with rfl | hg
    · decide
    · exact digit g hg

theorem minorString_ne_dash (st : Style) (two : Bool) {n : Nat} (hn : n < 100) : ∀ g ∈ minorString st two n, g ≠ glyphDash := by
  intro g hg
  unfold minorString at hg
  split at hg
  · simp at hg
  · have hmark : st.mark.glyph < glyphDash := by cases st.mark <;> decide
    simp only [List.mem_cons, List.not_mem_nil, or_false] at hg
    show g ≠ 13
    change _ < 13 at hmark
    rcases hg with rfl | rfl | rfl <;> omega

theorem priceString_ne_dash (st : Style) (two : Bool) (q : Nat) : ∀ g ∈ priceString st two q, g ≠ glyphDash := by
  have hminor : q % (if two then 100 else 1) < 100 := by
    split <;> omega
  have digits : ∀ g ∈ majorString st (q / (if two then 100 else 1)) ++ minorString st two (q % (if two then 100 else 1)),
      g ≠ glyphDash := fun g hg =>
    (List.mem_append.1 hg).elim (majorString_ne_dash st _ g) (minorString_ne_dash st two hminor g)
  have symbol : glyphSymbol ≠ glyphDash := by decide
  intro g hg
  unfold priceString at hg
  dsimp only at hg
  split at hg
  · rcases List.mem_cons.1 hg with rfl | hg
    · exact symbol
    · exact digits g hg
  · rcases List.mem_append.1 hg with hg | hg
    · exact digits g hg
    · rw [List.mem_singleton.1 hg]
      exact symbol
  · exact digits g hg

/-- R142: a working comparator tells a price string from one that ends in a dash. -/
theorem comparesEqual_dashLast (stuck : Bool) (st : Style) (two : Bool) (q : Nat) (gs : List Nat) :
    comparesEqual stuck (priceString st two q) (dashLast gs) = stuck := by
  have : priceString st two q ≠ dashLast gs := fun h =>
    priceString_ne_dash st two q glyphDash (h ▸ List.mem_append_right _ (List.mem_singleton_self _)) rfl
  rw [comparesEqual, decide_eq_false this, Bool.or_false]

/-! ### The record's body and style -/

theorem PriceTable.goodBody_eq_some_iff {t : PriceTable} {code : Nat} {b : ItemBody} :
    t.goodBody code = some b ↔
      ∃ k it, t.indexOf code = some k ∧ t.item k = some it ∧ it.health = .good ∧ it.body = b := by
  unfold PriceTable.goodBody
  cases hk : t.indexOf code with
  | none => simp
  | some k =>
    cases hi : t.item k with
    | none => simp [hi]
    | some it => by_cases hg : it.health = .good <;> simp [hi, hg]

/-- R132: the current style of the PRICE layer that a record names in the active scene. -/
theorem State.recordStyle_eq_some_iff {s : State} {r : ShownRecord} {st : Style} :
    s.recordStyle r = some st ↔ ∃ sc l style, s.scenes.panels[r.panel].active = some sc ∧
      sc.layers[r.layer]? = some l ∧ l.content = .price style ∧ st = s.former.styles[style].current := by
  unfold State.recordStyle State.layerAt
  cases hsc : s.scenes.panels[r.panel].active with
  | none => simp
  | some sc =>
    cases hl : sc.layers[r.layer]? with
    | none => simp [hl]
    | some l =>
      cases hc : l.content with
      | price style => simp [hl, hc, eq_comm]
      | photo h => simp [hl, hc]
      | fill c => simp [hl, hc]

theorem State.recordStyle_congr {s t : State} (hs : t.scenes = s.scenes) (hf : t.former = s.former) (r : ShownRecord) :
    t.recordStyle r = s.recordStyle r := by
  unfold State.recordStyle State.layerAt
  rw [hs, hf]

/-- A body read leaves the promotions and the rules. -/
theorem State.readBody_settings (s : State) (i : ItemIndex) :
    (s.readBody i).table.promos = s.table.promos ∧ (s.readBody i).table.rules = s.table.rules := by
  unfold State.readBody
  split
  · exact ⟨rfl, rfl⟩
  · split
    · rw [State.parityFailure_table]
      exact ⟨rfl, rfl⟩
    · exact ⟨rfl, rfl⟩

section
variable {s : State} {code : Nat}

theorem State.readRecordBody_at {k : ItemIndex} (h : s.table.indexOf code = some k) :
    s.readRecordBody code = s.readBody k := by
  simp only [State.readRecordBody, h]

theorem State.readRecordBody_absent (h : s.table.indexOf code = none) : s.readRecordBody code = s := by
  simp only [State.readRecordBody, h]

theorem State.readRecordBody_reads (s : State) (code : Nat) : ReadsBodies s (s.readRecordBody code) := by
  cases h : s.table.indexOf code with
  | none =>
    rw [State.readRecordBody_absent h]
    exact .refl s
  | some k =>
    rw [State.readRecordBody_at h]
    exact s.readBody_reads k

theorem State.readRecordBody_worsens (s : State) (code : Nat) : Worsens s (s.readRecordBody code) := by
  cases h : s.table.indexOf code with
  | none =>
    rw [State.readRecordBody_absent h]
    exact .refl s
  | some k =>
    rw [State.readRecordBody_at h]
    exact s.readBody_worsens k

theorem State.readRecordBody_settings (s : State) (code : Nat) :
    (s.readRecordBody code).table.promos = s.table.promos ∧ (s.readRecordBody code).table.rules = s.table.rules := by
  cases h : s.table.indexOf code with
  | none =>
    rw [State.readRecordBody_absent h]
    exact ⟨rfl, rfl⟩
  | some k =>
    rw [State.readRecordBody_at h]
    exact s.readBody_settings k

end

/-! ### The verdict (R133, R134) -/

/-- R133: a record that carries digits passes the first five tests against the body of its item. -/
structure State.Reaches (s : State) (r : ShownRecord) (b : ItemBody) (st : Style) (q : Nat) : Prop where
  body : s.table.goodBody r.code = some b
  unsuspended : s.suspension r.code = none
  daypart : r.daypart = s.daypart.live
  shown : s.recomputed b = (some q, r.clamped)
  price : r.price = some q
  style : s.recordStyle r = some st

section
variable {s : State} {r : ShownRecord} {stuck : Bool}

theorem State.judge_fault (h : s.table.goodBody r.code = none) : s.judge stuck r = .rejected .recordFault := by
  unfold State.judge State.judgeDigits State.judgeDashes
  rw [h]
  exact ite_self _

theorem State.judge_dashes (hd : r.reason ≠ .none) {b : ItemBody} (hb : s.table.goodBody r.code = some b) :
    s.judge stuck r =
      if r.glyphs.any isDigitGlyph then .rejected .mismatch else { mark := none, compared := none } := by
  have : r.digits = false := decide_eq_false hd
  unfold State.judge State.judgeDashes
  rw [this, hb]
  rfl

theorem State.judge_digits (hd : r.reason = .none) : s.judge stuck r = s.judgeDigits stuck r :=
  if_pos (decide_eq_true hd)

theorem State.judge_suspended (hd : r.reason = .none) {b : ItemBody} (hb : s.table.goodBody r.code = some b)
    (hs : s.suspension r.code ≠ none) : s.judge stuck r = .rejected .suspended := by
  simp only [State.judge_digits hd, State.judgeDigits, hb, Option.isSome_iff_ne_none.2 hs, if_true]

theorem State.judge_reached (hd : r.reason = .none) {b : ItemBody} {st : Style} {q : Nat} (h : s.Reaches r b st q) :
    s.judge stuck r =
      { mark := if comparesEqual stuck (priceString st s.table.rules.twoDigits q) r.glyphs then none else some .mismatch,
        compared := some (priceString st s.table.rules.twoDigits q) } := by
  simp [State.judge_digits hd, State.judgeDigits, h.body, h.unsuspended, h.daypart, h.shown, h.price,
    State.recomputedString, h.style]

theorem State.judge_unreached (hd : r.reason = .none) {b : ItemBody} (hb : s.table.goodBody r.code = some b)
    (hs : s.suspension r.code = none) (h : ∀ st q, ¬ s.Reaches r b st q) : s.judge stuck r = .rejected .mismatch := by
  simp only [State.judge_digits hd, State.judgeDigits, hb, hs, Option.isSome_none, Bool.false_eq_true, if_false]
  split
  · rfl
  rename_i hday
  split
  · rfl
  rename_i q hq
  split
  · rfl
  rename_i hprice
  split
  · rfl
  rename_i hclamp
  unfold State.recomputedString
  cases hst : s.recordStyle r with
  | none => rfl
  | some st =>
    exact absurd ⟨hb, hs, not_not.1 hday, Prod.ext hq (not_not.1 hclamp).symm, not_not.1 hprice, hst⟩ (h st q)

/-- Test 6 is reached exactly by a record with digits that passes the tests before it. -/
theorem State.judge_compared (s : State) (stuck : Bool) (r : ShownRecord) :
    (∃ b st q, r.reason = .none ∧ s.Reaches r b st q ∧
        (s.judge stuck r).compared = some (priceString st s.table.rules.twoDigits q)) ∨
      ((∀ b st q, ¬ (r.reason = .none ∧ s.Reaches r b st q)) ∧ (s.judge stuck r).compared = none) := by
  by_cases h : ∃ b st q, r.reason = .none ∧ s.Reaches r b st q
  · obtain ⟨b, st, q, hd, hr⟩ := h
    exact .inl ⟨b, st, q, hd, hr, by rw [State.judge_reached hd hr]⟩
  · refine .inr ⟨fun b st q hr => h ⟨b, st, q, hr⟩, ?_⟩
    cases hb : s.table.goodBody r.code with
    | none => rw [State.judge_fault hb]; rfl
    | some b =>
      by_cases hd : r.reason = .none
      · by_cases hs : s.suspension r.code = none
        · rw [State.judge_unreached hd hb hs fun st q hr => h ⟨b, st, q, hd, hr⟩]
          rfl
        · rw [State.judge_suspended hd hb hs]
          rfl
      · rw [State.judge_dashes hd hb]
        split <;> rfl

end

/-! ### The check stage at a record -/

/-- `t` differs from `s` as a check stage may: in the table, the array's bookkeeping, the frame engine, the checker and
what a raised flag changes. -/
structure Checks (s t : State) : Prop where
  eq : t = { s with table := t.table, nva := t.nva, engine := t.engine, checker := t.checker,
                    link := { s.link with summary := t.link.summary },
                    port := { s.port with summary := t.port.summary, armed := t.port.armed, messages := t.port.messages } }

theorem Checks.trans {s t u : State} (a : Checks s t) (b : Checks t u) : Checks s u := by
  constructor
  have h := b.eq
  rw [a.eq] at h
  exact h

theorem ReadsBodies.checks {s t : State} (h : ReadsBodies s t) : Checks s t := by
  constructor
  have hc := congrArg State.checker h.eq
  have he := congrArg State.engine h.eq
  rw [h.eq]

/-- R132, R135: a record marked and its rejection handed on. -/
def State.marked (s : State) (i : Nat) (r : ShownRecord) (m : Option RejectCause) : State :=
  (s.markRecord i r m).handRejection r.code m

section
variable (s : State) (i : Nat) (r : ShownRecord) (m : Option RejectCause)

theorem State.handRejection_reports (code : Nat) : Reports s (s.handRejection code m) := by
  cases m with
  | none => exact .refl s
  | some c => exact s.suspendMismatch_reports code

theorem State.marked_table : (s.marked i r m).table = s.table := by
  unfold State.marked
  rw [(State.handRejection_reports _ m _).eq]
  rfl

theorem State.marked_nva : (s.marked i r m).nva = s.nva := by
  unfold State.marked
  rw [(State.handRejection_reports _ m _).eq]
  rfl

theorem State.marked_engine :
    (s.marked i r m).engine = { s.engine with shown := s.engine.shown.set i { r with mark := m } } := by
  unfold State.marked
  rw [(State.handRejection_reports _ m _).eq]
  rfl

theorem State.marked_checker :
    (s.marked i r m).checker = { s.checker with suspended := (s.marked i r m).checker.suspended } := by
  unfold State.marked
  rw [(State.handRejection_reports _ m _).eq]
  rfl

theorem State.marked_checks : Checks s (s.marked i r m) := by
  have hm : Checks s (s.markRecord i r m) := ⟨rfl⟩
  exact hm.trans (State.handRejection_reports _ m _).readsBodies.checks

theorem State.marked_worsens : Worsens s (s.marked i r m) := by
  have hm : Worsens s (s.markRecord i r m) := .of_eq rfl rfl rfl
  cases m with
  | none => exact hm
  | some c => exact hm.trans (State.suspendMismatch_worsens _ _)

theorem State.suspension_marked (c : Nat) : (s.marked i r m).suspension c =
    if c = r.code ∧ m ≠ none ∧ s.suspension c = none ∧ s.table.has c = true then some .mismatch else s.suspension c := by
  cases m with
  | none =>
    simp only [ne_eq, not_true_eq_false, false_and, and_false, if_false]
    rfl
  | some cause =>
    simp only [ne_eq, reduceCtorEq, not_false_eq_true, true_and]
    exact State.suspension_suspendMismatch _ r.code c

end

/-- The check stage at a record: read, judge and mark it; make the self-test where it is to be made and the record
reaches test 6; go on to the next record. -/
theorem State.checkAt_cases (s : State) (stuck testing : Bool) (i : Nat) (r : ShownRecord) :
    let u := s.readRecordBody r.code
    let w := u.marked i r (u.judge stuck r).mark
    (testing = true ∧ (∃ b st q, r.reason = .none ∧ u.Reaches r b st q) ∧
        s.checkAt stuck testing i r = (w.endTest stuck).setJob (.check (i + 1) false)) ∨
      ((testing = false ∨ ∀ b st q, ¬ (r.reason = .none ∧ u.Reaches r b st q)) ∧
        s.checkAt stuck testing i r = w.setJob (.check (i + 1) testing)) := by
  intro u w
  have hstep : s.checkAt stuck testing i r = (w.selfTest stuck testing r (u.judge stuck r).compared).setJob
      (.check (i + 1) (testing && (u.judge stuck r).compared.isNone)) := rfl
  rcases u.judge_compared stuck r with ⟨b, st, q, hd, hr, hv⟩ | ⟨hno, hv⟩
  · rw [hv] at hstep
    cases testing with
    | false => exact .inr ⟨.inl rfl, hstep⟩
    | true =>
      refine .inl ⟨rfl, ⟨b, st, q, hd, hr⟩, hstep.trans ?_⟩
      rw [State.selfTest, comparesEqual_dashLast]
      rfl
  · rw [hv] at hstep
    refine .inr ⟨.inr hno, hstep.trans ?_⟩
    cases testing <;> rfl

theorem ReadsBodies.engine {s t : State} (h : ReadsBodies s t) : t.engine = s.engine := by rw [h.eq]

/-- What the check stage at a record leaves, whether or not it makes the self-test. -/
structure State.CheckLeaves (s t : State) (i : Nat) (r : ShownRecord) (m : Option RejectCause) : Prop where
  engine : ∃ testing, t.engine = { s.engine with shown := s.engine.shown.set i { r with mark := m },
                                                 job := .check (i + 1) testing }
  table : t.table = (s.readRecordBody r.code).table
  nva : t.nva = (s.readRecordBody r.code).nva
  suspended : t.checker.suspended = ((s.readRecordBody r.code).marked i r m).checker.suspended
  checks : Checks s t

theorem State.checkAt_leaves (s : State) (stuck testing : Bool) (i : Nat) (r : ShownRecord) :
    s.CheckLeaves (s.checkAt stuck testing i r) i r ((s.readRecordBody r.code).judge stuck r).mark := by
  have hreads := s.readRecordBody_reads r.code
  have hcases := s.checkAt_cases stuck testing i r
  dsimp only at hcases
  generalize ((s.readRecordBody r.code).judge stuck r).mark = m at *
  have hengine : ((s.readRecordBody r.code).marked i r m).engine =
      { s.engine with shown := s.engine.shown.set i { r with mark := m } } := by
    rw [State.marked_engine, hreads.engine]
  have hchecks : Checks s ((s.readRecordBody r.code).marked i r m) := hreads.checks.trans (State.marked_checks _ i r m)
  have htable := State.marked_table (s.readRecordBody r.code) i r m
  have hnva := State.marked_nva (s.readRecordBody r.code) i r m
  rcases hcases with ⟨-, -, ht⟩ | ⟨-, ht⟩
  · rw [ht]
    refine ⟨⟨false, ?_⟩, htable, hnva, rfl, hchecks.trans ⟨rfl⟩⟩
    rw [State.setJob_engine, State.endTest, State.raiseBoth_engine, hengine]
  · rw [ht]
    refine ⟨⟨testing, ?_⟩, htable, hnva, rfl, hchecks.trans ⟨rfl⟩⟩
    rw [State.setJob_engine, hengine]

end Sys2Proof.Machine
end

section
/-! SUPPORT. RecordJudgedAndComparatorTested: the marks, the suspension, the self-test and the flags. -/

namespace Sys2Proof.Machine

theorem PriceTable.goodBody_isSome_iff {t : PriceTable} {code : Nat} :
    (∃ b, t.goodBody code = some b) ↔
      ∃ k it, t.indexOf code = some k ∧ t.item k = some it ∧ it.health = .good := by
  simp only [PriceTable.goodBody_eq_some_iff]
  constructor
  · rintro ⟨b, k, it, hk, hi, hg, rfl⟩
    exact ⟨k, it, hk, hi, hg⟩
  · rintro ⟨k, it, hk, hi, hg⟩
    exact ⟨it.body, k, it, hk, hi, hg, rfl⟩

section
variable {s : State} {r : ShownRecord}

/-- R133: the first five tests in terms of the state in which the record is visited. -/
theorem State.reaches_iff {b : ItemBody} {st : Style} {q : Nat} :
    (s.readRecordBody r.code).Reaches r b st q ↔
      (s.readRecordBody r.code).table.goodBody r.code = some b ∧ (s.readRecordBody r.code).suspension r.code = none ∧
        r.daypart = s.daypart.live ∧ s.recordStyle r = some st ∧ r.price = some q ∧
        shownPrice s.table.promos s.table.rules b s.daypart.live = (some q, r.clamped) := by
  have hreads := s.readRecordBody_reads r.code
  have hday : (s.readRecordBody r.code).daypart = s.daypart := by rw [hreads.eq]
  have hstyle : (s.readRecordBody r.code).recordStyle r = s.recordStyle r :=
    State.recordStyle_congr (by rw [hreads.eq]) (by rw [hreads.eq]) r
  obtain ⟨hpromos, hrules⟩ := s.readRecordBody_settings r.code
  have hshown : (s.readRecordBody r.code).recomputed b =
      shownPrice s.table.promos s.table.rules b s.daypart.live := by
    rw [State.recomputed, hpromos, hrules, hday]
  constructor
  · rintro ⟨hb, hs, hd, hq, hp, hst⟩
    exact ⟨hb, hs, hday ▸ hd, hstyle ▸ hst, hp, hshown ▸ hq⟩
  · rintro ⟨hb, hs, hd, hst, hp, hq⟩
    exact ⟨hb, hs, hday.symm ▸ hd, hshown.trans hq, hp, hstyle.trans hst⟩

/-- The mark that a working comparator gives, by the tests of R133 and R134 in order. -/
theorem State.mark_working (s : State) (r : ShownRecord) :
    let u := s.readRecordBody r.code
    let m := (u.judge false r).mark
    (u.table.goodBody r.code = none → m = some .recordFault) ∧
      ∀ b, u.table.goodBody r.code = some b →
        (r.reason = .none → u.suspension r.code ≠ none → m = some .suspended) ∧
        (r.reason = .none → u.suspension r.code = none →
          (∀ st q, u.Reaches r b st q → r.glyphs = priceString st s.table.rules.twoDigits q → m = none) ∧
          ((∀ st q, u.Reaches r b st q → r.glyphs ≠ priceString st s.table.rules.twoDigits q) → m = some .mismatch)) ∧
        (r.reason ≠ .none → (∃ g ∈ r.glyphs, g ≤ 9) → m = some .mismatch) ∧
        (r.reason ≠ .none → (∀ g ∈ r.glyphs, 9 < g) → m = none) := by
  intro u m
  have hrules : u.table.rules = s.table.rules := (s.readRecordBody_settings r.code).2
  have reached : ∀ b st q, r.reason = .none → u.Reaches r b st q →
      m = if priceString st s.table.rules.twoDigits q = r.glyphs then none else some .mismatch := by
    intro b st q hd hr
    show (u.judge false r).mark = _
    rw [State.judge_reached hd hr, hrules]
    simp [comparesEqual]
  refine ⟨fun hb => congrArg Verdict.mark (State.judge_fault hb), fun b hb => ⟨fun hd hs => ?_, fun hd hs => ⟨?_, ?_⟩, ?_, ?_⟩⟩
  · exact congrArg Verdict.mark (State.judge_suspended hd hb hs)
  · intro st q hr heq
    rw [reached b st q hd hr, if_pos heq.symm]
  · intro hne
    by_cases h : ∃ st q, u.Reaches r b st q
    · obtain ⟨st, q, hr⟩ := h
      rw [reached b st q hd hr, if_neg (hne st q hr).symm]
    · exact congrArg Verdict.mark (State.judge_unreached hd hb hs fun st q hr => h ⟨st, q, hr⟩)
  · rintro hd ⟨g, hg, hle⟩
    have hany : r.glyphs.any isDigitGlyph = true := List.any_eq_true.2 ⟨g, hg, decide_eq_true hle⟩
    show (u.judge false r).mark = _
    rw [State.judge_dashes hd hb, if_pos hany]
    rfl
  · intro hd hgt
    have hany : ¬ r.glyphs.any isDigitGlyph = true := by
      rw [List.any_eq_true]
      rintro ⟨g, hg, hdigit⟩
      exact absurd (hgt g hg) (Nat.not_lt.2 (of_decide_eq_true hdigit))
    show (u.judge false r).mark = _
    rw [State.judge_dashes hd hb, if_neg hany]

end

/-! ### The latch and the flags -/

section
variable (s : State) (stuck : Bool)

theorem State.posFlag_endTest (f : PosFlag) :
    (s.endTest stuck).posFlag f = (s.posFlag f || decide (f = .checkResult)) := State.posFlag_raiseBoth _ _ _ f

theorem State.contentFlag_endTest (f : ContentFlag) :
    (s.endTest stuck).contentFlag f = (s.contentFlag f || decide (f = .checkResult)) := State.contentFlag_raiseBoth _ _ _ f

/-- Up to the self-test the check stage changes the checker in its suspended set alone. -/
theorem State.checker_marked (i : Nat) (r : ShownRecord) (m : Option RejectCause) :
    let c := ((s.readRecordBody r.code).marked i r m).checker
    c.latch = s.checker.latch ∧ c.armed = s.checker.armed ∧ c.lastResult = s.checker.lastResult := by
  dsimp only
  rw [State.marked_checker, (s.readRecordBody_reads r.code).eq]
  exact ⟨rfl, rfl, rfl⟩

theorem State.marked_worsens_read (i : Nat) (r : ShownRecord) (m : Option RejectCause) :
    Worsens s ((s.readRecordBody r.code).marked i r m) :=
  (s.readRecordBody_worsens r.code).trans (State.marked_worsens _ i r m)

end

theorem execCheckRecord_eq {s : State} {i : Nat} {testing : Bool} {r : ShownRecord} (hj : s.engine.job = .check i testing)
    (hr : s.engine.shown[i]? = some r) (stuck : Bool) :
    exec (.checkRecord [] stuck) s = .next (s.checkAt stuck testing i r) := by
  simp only [exec, execCheckRecord, hj, hr]
  rfl

theorem State.checkAt_latch (s : State) (testing : Bool) (i : Nat) (r : ShownRecord) :
    (s.checkAt false testing i r).checker.latch = s.checker.latch := by
  obtain ⟨hlatch, -, -⟩ := s.checker_marked i r ((s.readRecordBody r.code).judge false r).mark
  rcases s.checkAt_cases false testing i r with ⟨-, -, ht⟩ | ⟨-, ht⟩
  · rw [ht]
    exact (Bool.or_false _).trans hlatch
  · rw [ht]
    exact hlatch

/-- A report changes a suspension exactly when it changes how bad the suspensions are. -/
theorem Worsens.suspension_same {s t : State} (h : Worsens s t) (hsame : ∀ c, t.suspension c = s.suspension c) :
    t.link = s.link ∧ t.port = s.port :=
  h.link_port (funext fun c => congrArg suspensionRank (hsame c))

/-- The self-test's own part of the check stage at a record. -/
theorem State.checkAt_selfTest (s : State) (stuck testing : Bool) (i : Nat) (r : ShownRecord) :
    let u := s.readRecordBody r.code
    let t := s.checkAt stuck testing i r
    let tests := testing = true ∧ ∃ b st q, r.reason = .none ∧ u.Reaches r b st q
    (tests → t.engine.job = .check (i + 1) false ∧ t.checker.armed = false ∧
      t.checker.lastResult = (if stuck then .fail else .pass) ∧ t.checker.latch = (s.checker.latch || stuck) ∧
      t.posFlag .checkResult = true ∧ t.contentFlag .checkResult = true) ∧
    (¬ tests → t.engine.job = .check (i + 1) testing ∧ t.checker.armed = s.checker.armed ∧
      t.checker.lastResult = s.checker.lastResult ∧ t.checker.latch = s.checker.latch ∧
      t.posFlag .checkResult = s.posFlag .checkResult ∧ t.contentFlag .checkResult = s.contentFlag .checkResult) := by
  intro u t tests
  obtain ⟨hlatch, harmed, hlast⟩ := s.checker_marked i r (u.judge stuck r).mark
  have hworse := s.marked_worsens_read i r (u.judge stuck r).mark
  rcases s.checkAt_cases stuck testing i r with ⟨htest, hr, ht⟩ | ⟨hno, ht⟩
  · refine ⟨fun _ => ?_, fun h => absurd ⟨htest, hr⟩ h⟩
    show (s.checkAt stuck testing i r).engine.job = _ ∧ (s.checkAt stuck testing i r).checker.armed = _ ∧
      (s.checkAt stuck testing i r).checker.lastResult = _ ∧ (s.checkAt stuck testing i r).checker.latch = _ ∧
      (s.checkAt stuck testing i r).posFlag _ = _ ∧ (s.checkAt stuck testing i r).contentFlag _ = _
    rw [ht]
    refine ⟨rfl, rfl, rfl, congrArg (· || stuck) hlatch, ?_, ?_⟩
    · exact (State.posFlag_endTest _ stuck _).trans (by simp)
    · exact (State.contentFlag_endTest _ stuck _).trans (by simp)
  · refine ⟨fun ⟨h, b, st, q, hr⟩ => ?_, fun _ => ?_⟩
    · rcases hno with hno | hno
      · exact absurd (hno.symm.trans h) (by decide)
      · exact absurd hr (hno b st q)
    · show (s.checkAt stuck testing i r).engine.job = _ ∧ (s.checkAt stuck testing i r).checker.armed = _ ∧
        (s.checkAt stuck testing i r).checker.lastResult = _ ∧ (s.checkAt stuck testing i r).checker.latch = _ ∧
        (s.checkAt stuck testing i r).posFlag _ = _ ∧ (s.checkAt stuck testing i r).contentFlag _ = _
      rw [ht]
      exact ⟨rfl, harmed, hlast, hlatch, hworse.pos _ (by decide), hworse.content _ (by decide)⟩

/-- The flags that the check stage at a record leaves, CHECK_RESULT aside. -/
theorem State.checkAt_flags (s : State) (stuck testing : Bool) (i : Nat) (r : ShownRecord) :
    let t := s.checkAt stuck testing i r
    let w := (s.readRecordBody r.code).marked i r ((s.readRecordBody r.code).judge stuck r).mark
    t.checker.suspended = w.checker.suspended ∧ (∀ fl, fl ≠ .checkResult → t.posFlag fl = w.posFlag fl) ∧
      (∀ fl, fl ≠ .checkResult → t.contentFlag fl = w.contentFlag fl) := by
  dsimp only
  rcases s.checkAt_cases stuck testing i r with ⟨-, -, ht⟩ | ⟨-, ht⟩
  · rw [ht]
    refine ⟨rfl, fun fl hfl => ?_, fun fl hfl => ?_⟩
    · exact (State.posFlag_endTest _ stuck fl).trans (by simp [hfl])
    · exact (State.contentFlag_endTest _ stuck fl).trans (by simp [hfl])
  · rw [ht]
    exact ⟨rfl, fun _ _ => rfl, fun _ _ => rfl⟩

/-- The record judged by a working comparator: its mark, its suspension and what else the row leaves. -/
theorem checkRecord_judges {s : State} {i : Nat} {testing : Bool} {r : ShownRecord} (hj : s.engine.job = .check i testing)
    (hr : s.engine.shown[i]? = some r) :
    ∃ t m, exec (.checkRecord [] false) s = .next t ∧ s.CheckLeaves t i r m ∧ t.checker.latch = s.checker.latch ∧
      m = ((s.readRecordBody r.code).judge false r).mark :=
  ⟨_, _, execCheckRecord_eq hj hr false, s.checkAt_leaves false testing i r, s.checkAt_latch testing i r, rfl⟩

/-- Settles O37: the mark and what follows from it, then the self-test and the flags. -/
theorem recordJudgedAndComparatorTested : Obligations.RecordJudgedAndComparatorTested := by
  unfold Obligations.RecordJudgedAndComparatorTested
  refine ⟨fun s i testing r hj hr => ?_, fun s i testing stuck r hj hr => ?_⟩
  · obtain ⟨t, m, hexec, hleaves, hlatch, hm⟩ := checkRecord_judges hj hr
    obtain ⟨hfault, hgood⟩ := s.mark_working r
    rw [← hm] at hfault hgood
    refine ⟨t, hexec, m, ?_⟩
    obtain ⟨testing', hengine⟩ := hleaves.engine
    have hsusp : ∀ c, t.suspension c = ((s.readRecordBody r.code).marked i r m).suspension c :=
      State.suspension_congr hleaves.suspended
    refine ⟨by rw [hengine], fun hno => hfault ?_, fun hg hd hs => ?_, fun hg hd hs he => ?_, fun hg hd hs hne => ?_,
      fun hg hd hdigit => ?_, fun hg hd hdash => ?_, fun c => (hsusp c).trans (State.suspension_marked _ i r m c),
      ⟨testing', by rw [hengine]⟩, by rw [hengine], by rw [hengine], by rw [hengine], hleaves.table, hleaves.nva, hlatch,
      hleaves.checks.eq⟩
    · refine Option.eq_none_iff_forall_ne_some.2 fun b hb => hno (PriceTable.goodBody_isSome_iff.1 ⟨b, hb⟩)
    · obtain ⟨b, hb⟩ := PriceTable.goodBody_isSome_iff.2 hg
      exact (hgood b hb).1 hd hs
    · obtain ⟨b, hb⟩ := PriceTable.goodBody_isSome_iff.2 hg
      obtain ⟨k, it, st, q, hk, hi, hday, hst, hp, hq, heq⟩ := he
      obtain ⟨k', it', hk', hi', -, rfl⟩ := PriceTable.goodBody_eq_some_iff.1 hb
      obtain rfl : k' = k := Option.some.inj (hk'.symm.trans hk)
      obtain rfl : it' = it := Option.some.inj (hi'.symm.trans hi)
      exact ((hgood _ hb).2.1 hd hs).1 st q (State.reaches_iff.2 ⟨hb, hs, hday, hst, hp, hq⟩) heq
    · obtain ⟨b, hb⟩ := PriceTable.goodBody_isSome_iff.2 hg
      refine ((hgood b hb).2.1 hd hs).2 fun st q hreach heq => hne ?_
      obtain ⟨-, -, hday, hst, hp, hq⟩ := State.reaches_iff.1 hreach
      obtain ⟨k, it, hk, hi, -, rfl⟩ := PriceTable.goodBody_eq_some_iff.1 hb
      exact ⟨k, it, st, q, hk, hi, hday, hst, hp, hq, heq⟩
    · obtain ⟨b, hb⟩ := PriceTable.goodBody_isSome_iff.2 hg
      exact (hgood b hb).2.2.1 hd hdigit
    · obtain ⟨b, hb⟩ := PriceTable.goodBody_isSome_iff.2 hg
      exact (hgood b hb).2.2.2 hd hdash
  · refine ⟨fun st => State.recordStyle_eq_some_iff, fun k => State.readRecordBody_at, State.readRecordBody_absent,
      _, execCheckRecord_eq hj hr stuck, ?_⟩
    obtain ⟨hset, hpos, hcontent⟩ := s.checkAt_flags stuck testing i r
    obtain ⟨htested, huntested⟩ := s.checkAt_selfTest stuck testing i r
    have hworse := s.marked_worsens_read i r ((s.readRecordBody r.code).judge stuck r).mark
    have hsusp := State.suspension_congr hset
    have reaches : (r.reason = .none ∧ (s.readRecordBody r.code).suspension r.code = none ∧ r.daypart = s.daypart.live ∧
        s.recordStyle r ≠ none ∧ ∃ k it q, (s.readRecordBody r.code).table.indexOf r.code = some k ∧
          (s.readRecordBody r.code).table.item k = some it ∧ it.health = .good ∧ r.price = some q ∧
          shownPrice s.table.promos s.table.rules it.body s.daypart.live = (some q, r.clamped)) ↔
        ∃ b st q, r.reason = .none ∧ (s.readRecordBody r.code).Reaches r b st q := by
      constructor
      · rintro ⟨hd, hs, hday, hst, k, it, q, hk, hi, hg, hp, hq⟩
        obtain ⟨st, hst⟩ := Option.ne_none_iff_exists'.1 hst
        exact ⟨it.body, st, q, hd, State.reaches_iff.2
          ⟨PriceTable.goodBody_eq_some_iff.2 ⟨k, it, hk, hi, hg, rfl⟩, hs, hday, hst, hp, hq⟩⟩
      · rintro ⟨b, st, q, hd, hreach⟩
        obtain ⟨hb, hs, hday, hst, hp, hq⟩ := State.reaches_iff.1 hreach
        obtain ⟨k, it, hk, hi, hg, rfl⟩ := PriceTable.goodBody_eq_some_iff.1 hb
        exact ⟨hd, hs, hday, by simp [hst], k, it, q, hk, hi, hg, hp, hq⟩
    refine ⟨?_, ?_, ?_, ?_, fun htest hreach => htested ⟨htest, reaches.1 hreach⟩, fun hno => huntested ?_⟩
    · rintro ⟨c, hc⟩
      have hne : ((s.readRecordBody r.code).marked i r ((s.readRecordBody r.code).judge stuck r).mark).checker ≠ s.checker :=
        fun h => hc ((hsusp c).trans (State.suspension_congr (congrArg Checker.suspended h) c))
      obtain ⟨h1, h2⟩ := hworse.flags hne
      exact ⟨(hpos _ (by decide)).trans h1, (hcontent _ (by decide)).trans h2⟩
    · intro hsame
      obtain ⟨hl, hp⟩ := hworse.suspension_same fun c => (hsusp c).symm.trans (hsame c)
      exact ⟨(hpos _ (by decide)).trans (State.posFlag_congr (congrArg PosLink.summary hl) _),
        (hcontent _ (by decide)).trans (State.contentFlag_congr (congrArg ContentPort.summary hp) _)⟩
    · exact fun fl h1 h2 => (hpos fl h2).trans (hworse.pos fl h1)
    · exact fun fl h1 h2 => (hcontent fl h2).trans (hworse.content fl h1)
    · rintro ⟨htest, hreach⟩
      rcases hno with hno | hno
      · exact absurd (hno.symm.trans htest) (by decide)
      · exact hno (reaches.2 hreach)

end Sys2Proof.Machine
end

section
/-! SUPPORT. PriceLayerMakesShownRecord: what a drawn string leaves alone, the tile drawn, and the visibility test of a
PRICE layer. -/

namespace Sys2Proof.Machine

/-! ### Drawing leaves the pixels outside its box -/

theorem Resolution.clip_width_le (r : Resolution) : r.clip.width ≤ 4096 := by cases r <;> decide

theorem FrameBuffer.read_blendRect_outside {clip : Clip} (hc : clip.width ≤ 4096) {x y w h u v : Nat} (hu : u < 4096)
    (hout : ¬ (x ≤ u ∧ u < x + w ∧ y ≤ v ∧ v < y + h)) (src : Nat → Nat → Rgb × Nat) (b : FrameBuffer) :
    (b.blendRect clip x y w h src).read u v = b.read u v := by
  refine List.foldlRecOn (List.range h) _ (motive := fun a : FrameBuffer => a.read u v = b.read u v) rfl fun a ha r hr => ?_
  refine List.foldlRecOn (List.range w) _ (motive := fun a : FrameBuffer => a.read u v = b.read u v) ha fun a ha c hcol => ?_
  have hne : ¬ (u = x + c ∧ v = y + r ∧ x + c < clip.width ∧ y + r < clip.height) := by
    rintro ⟨rfl, rfl, -, -⟩
    rw [List.mem_range] at hr hcol
    exact hout (by omega)
  rw [FrameBuffer.read_blendAt _ _ _ _ _ _ _ _ hc hu, if_neg hne, ha]

theorem FrameBuffer.read_drawGlyphs_outside {m : AssetMap} {st : Style} {clip : Clip} (hc : clip.width ≤ 4096)
    (colour : Rgb) (alpha : Byte) {u v : Nat} (hu : u < 4096) (gs : List Nat) {x y : Nat}
    (hout : ¬ (x ≤ u ∧ u < x + gs.length * st.cw ∧ y ≤ v ∧ v < y + st.ch)) (b : FrameBuffer) :
    (drawGlyphs m st clip colour alpha gs x y b).read u v = b.read u v := by
  induction gs generalizing x b with
  | nil => rfl
  | cons g rest ih =>
    have hlen : (g :: rest).length * st.cw = st.cw + rest.length * st.cw := by
      rw [List.length_cons, Nat.succ_mul, Nat.add_comm]
    rw [hlen] at hout
    rw [drawGlyphs]
    split
    · rfl
    · rw [ih (by omega), FrameBuffer.read_blendRect_outside hc hu (by omega)]

/-! ### What the string former hands back -/

/-- R75, R76: the box of a string is its cells; with no string nothing is drawn. -/
def Formed.Fits (f : Formed) (st : Style) : Prop :=
  f.glyphs = [] ∨ (f.box.w = f.glyphs.length * st.cw ∧ f.box.h = st.ch)

theorem formDashes_fits (st : Style) (tile : Box) (reason : DashReason) (o : Bool) : (formDashes st tile reason o).Fits st := by
  unfold formDashes
  split
  · exact .inr ⟨rfl, rfl⟩
  · exact .inl rfl

theorem formString_fits (st : Style) (tile : Box) (str : List Nat) : (formString st tile str).Fits st := by
  unfold formString
  split
  · exact .inr ⟨rfl, rfl⟩
  · exact formDashes_fits ..

theorem formTileUpset_fits (st : Style) (two : Bool) (tile : Box) (req : TileRequest) (glyphs : Option (List Nat)) :
    (formTileUpset st two tile req glyphs).Fits st := by
  match req, glyphs with
  | .price q, some str => exact formString_fits ..
  | .price q, none => exact formString_fits ..
  | .dashes reason, _ => exact formDashes_fits ..

theorem Formed.Fits.read_outside {f : Formed} {st : Style} (h : f.Fits st) {m : AssetMap} {clip : Clip}
    (hc : clip.width ≤ 4096) (colour : Rgb) (alpha : Byte) {u v : Nat} (hu : u < 4096)
    (hout : ¬ (f.box.x ≤ u ∧ u < f.box.x + f.box.w ∧ f.box.y ≤ v ∧ v < f.box.y + f.box.h)) (b : FrameBuffer) :
    (drawGlyphs m st clip colour alpha f.glyphs f.box.x f.box.y b).read u v = b.read u v := by
  rcases h with h | ⟨hw, hh⟩
  · rw [h]
    rfl
  · rw [hw, hh] at hout
    exact FrameBuffer.read_drawGlyphs_outside hc colour alpha hu f.glyphs hout b

/-! ### A tile drawn (R127, R128) -/

/-- What the string former hands back for the tile of a layer. -/
def State.tileFormed (s : State) (l : Layer) (style : Fin 16) (request : TileRequest) (glyphs : Option (List Nat)) : Formed :=
  formTileUpset s.former.styles[style].current s.table.rules.twoDigits { x := l.x, y := l.y, w := l.w, h := l.h } request glyphs

/-- The string of a tile drawn into the back buffer of a panel. -/
def State.tileDrawn (s : State) (p : Fin 4) (l : Layer) (style : Fin 16) (dimmed : Bool) (dim : Byte) (f : Formed) : FrameBuffer :=
  drawGlyphs s.assets s.former.styles[style].current (s.clip p) (dimIf dimmed dim s.former.styles[style].current.colour)
    l.alpha f.glyphs f.box.x f.box.y s.engine.buffers[s.engine.backIndex p]

/-- R19, R76: the flags of a tile: PRICE_CLAMPED, then PRICE_OVERFLOW. -/
def State.tileFlagged (s : State) (clamped overflow : Bool) : State :=
  let t := if clamped then s.raiseBoth .priceClamped .priceClamped else s
  if overflow then t.raiseContent .priceOverflow else t

section
variable (s : State) (clamped overflow : Bool)

theorem State.posFlag_tileFlagged (f : PosFlag) :
    (s.tileFlagged clamped overflow).posFlag f = (s.posFlag f || (decide (f = .priceClamped) && clamped)) := by
  cases clamped <;> cases overflow <;>
    simp [State.tileFlagged, State.posFlag_raiseBoth, State.posFlag_raiseContent]

theorem State.contentFlag_tileFlagged (f : ContentFlag) : (s.tileFlagged clamped overflow).contentFlag f =
    (s.contentFlag f || (decide (f = .priceClamped) && clamped) || (decide (f = .priceOverflow) && overflow)) := by
  cases clamped <;> cases overflow <;>
    simp [State.tileFlagged, State.contentFlag_raiseBoth, State.contentFlag_raiseContent]

theorem State.tileFlagged_reports : Reports s (s.tileFlagged clamped overflow) := by
  cases clamped <;> cases overflow <;> exact ⟨rfl⟩

theorem State.tileFlagged_engine : (s.tileFlagged clamped overflow).engine = s.engine := by
  rw [(s.tileFlagged_reports clamped overflow).eq]

end

/-- The shown record of a tile (R128). -/
def State.tileRecord (s : State) (p : Fin 4) (k : Nat) (code : Nat) (d : PriceDecision) (f : Formed) : ShownRecord :=
  { panel := p, layer := k, code := code, daypart := s.daypart.live, price := d.price, clamped := d.clamped,
    glyphs := f.glyphs, reason := f.reason, box := f.box, mark := none }

/-- The frame engine once a tile has been drawn. -/
def State.tileEngine (s : State) (p : Fin 4) (k : Nat) (l : Layer) (code : Nat) (style : Fin 16) (dimmed : Bool) (dim : Byte)
    (d : PriceDecision) (f : Formed) : FrameEngine :=
  { s.engine with buffers := s.engine.buffers.set (s.engine.backIndex p) (s.tileDrawn p l style dimmed dim f),
                  shown := s.engine.shown ++ [s.tileRecord p k code d f] }

theorem State.drawTile_eq (s : State) (p : Fin 4) (k : Nat) (l : Layer) (code : Nat) (style : Fin 16) (dimmed : Bool)
    (dim : Byte) (d : PriceDecision) (glyphs : Option (List Nat)) :
    let f := s.tileFormed l style d.request glyphs
    s.drawTile p k l code style dimmed dim d glyphs =
      { s.tileFlagged d.clamped f.overflow with engine := s.tileEngine p k l code style dimmed dim d f } := by
  intro f
  have hdraw : s.drawTile p k l code style dimmed dim d glyphs =
      (fun v : State => { v with engine := { v.engine with shown := v.engine.shown ++ [s.tileRecord p k code d f] } })
        ((s.tileFlagged d.clamped f.overflow).onBack p (drawGlyphs s.assets s.former.styles[style].current (s.clip p)
          (dimIf dimmed dim s.former.styles[style].current.colour) l.alpha f.glyphs f.box.x f.box.y)) := rfl
  rw [hdraw]
  simp only [State.onBack, State.tileFlagged_engine]
  rfl

/-! ### The visibility test of the layer (R111, R112) -/

theorem SoldOutRule.passes_eq {r : SoldOutRule} {a : Availability} (hhide : r = .hide → a = .available)
    (honly : r = .only → a = .soldOut) : r.passes a = some (decide (r = .dim) && decide (a = .soldOut)) := by
  cases r with
  | always => rfl
  | hide => rw [hhide rfl]; rfl
  | dim => cases a <;> rfl
  | only => rw [honly rfl]; rfl

section
variable {s : State} {l : Layer} {code : Nat} {i : ItemIndex} {it : Item}

theorem State.visibility_read (hm : l.mask.getLsbD s.daypart.live.val = true) (hcode : l.code = some code)
    (hi : s.table.indexOf code = some i) (hit : s.table.item i = some it) {dimmed : Bool}
    (hpass : l.soldOut.passes it.avail = some dimmed) :
    s.visibility l = (s.readBody i, bodyVisibility l s.daypart.live dimmed ((s.readBody i).table.item i)) := by
  simp only [State.visibility, hm, hcode, hi, hit, hpass]
  rfl

theorem bodyVisibility_failed {d : Daypart} {dimmed : Bool} (hp : l.isPrice = true) (it : Item) :
    bodyVisibility l d dimmed (some it.failed) = .recordFault dimmed := if_pos hp

theorem bodyVisibility_good {d : Daypart} {dimmed : Bool} (hg : it.health = .good) (hp : it.body.price[d].isSome = true) :
    bodyVisibility l d dimmed (some it) = .drawn dimmed := by
  simp only [bodyVisibility, hg, hp, if_true]

theorem shownPrice_isSome {promos : Vector Promotion 32} {r : Rules} {b : ItemBody} {d : Daypart} {q : Nat} {c : Bool}
    (h : shownPrice promos r b d = (some q, c)) : b.price[d].isSome = true := by
  cases hp : b.price[d] with
  | none => simp [shownPrice, hp] at h
  | some v => rfl

end

/-! ### The row (R127, R128) -/

section
variable {s : State} {p : Fin 4} {k : Nat} {sc : Scene} {l : Layer}

theorem State.layerAt_eq (hsc : s.scenes.panels[p].active = some sc) (hl : sc.layers[k]? = some l) :
    s.layerAt p k = some (l, sc.dim) := by
  simp only [State.layerAt, hsc, hl, Option.map_some]

theorem execComposeLayer_eq (hj : s.engine.job = .compose (.layer p k)) (hsc : s.scenes.panels[p].active = some sc)
    (hl : sc.layers[k]? = some l) (d : ComposeUpset) :
    exec (.composeLayer ⟨[], d⟩) s =
      .next ((s.composeLayer p k l sc.dim d).setJob (.compose (s.layerFrom p (k + 1)))) := by
  have hat : s.composeAt p k d = s.composeLayer p k l sc.dim d := by
    simp only [State.composeAt, State.layerAt_eq hsc hl]
  simp only [exec, execComposeLayer, hj, ← hat]
  rfl

theorem State.composeLayer_drawn {t : State} {dimmed : Bool} (hv : s.visibility l = (t, .drawn dimmed)) (dim : Byte)
    (d : ComposeUpset) : s.composeLayer p k l dim d = t.drawLayer p k l dimmed dim d := by
  simp only [State.composeLayer, hv]

theorem State.composeLayer_fault {t : State} {dimmed : Bool} (hv : s.visibility l = (t, .recordFault dimmed)) (dim : Byte)
    (d : ComposeUpset) : s.composeLayer p k l dim d = t.drawFault p k l dimmed dim := by
  simp only [State.composeLayer, hv]

theorem State.drawFault_price {style : Fin 16} {code : Nat} (hp : l.content = .price style) (hcode : l.code = some code)
    (dimmed : Bool) (dim : Byte) :
    s.drawFault p k l dimmed dim = s.drawTile p k l code style dimmed dim faultDecision none := by
  simp only [State.drawFault, hp, hcode]

theorem State.drawLayer_price {style : Fin 16} {code q : Nat} {c dimmed : Bool} {i : ItemIndex} {it : Item}
    (hp : l.content = .price style) (hcode : l.code = some code) (hi : s.table.indexOf code = some i)
    (hit : s.table.item i = some it)
    (hq : shownPrice s.table.promos s.table.rules it.body s.daypart.live = (some q, c)) (dim : Byte) (d : ComposeUpset) :
    s.drawLayer p k l dimmed dim d = s.drawTile p k l code style dimmed dim
      (s.priceDecision code (d.price.getD (q, c)).1 (d.price.getD (q, c)).2) d.glyphs := by
  simp only [State.drawLayer, State.drawPrice, hp, hcode, hi, hit, hq]

/-- The engine of a tile drawn after a body read is that of the tile drawn before it. -/
theorem State.tileEngine_reads {u : State} (h : ReadsBodies s u) (code : Nat) (style : Fin 16) (dimmed : Bool) (dim : Byte)
    (d : PriceDecision) (f : Formed) :
    u.tileEngine p k l code style dimmed dim d f = s.tileEngine p k l code style dimmed dim d f := by
  rw [h.eq]
  rfl

theorem State.tileFormed_read (s : State) (i : ItemIndex) (l : Layer) (style : Fin 16) (request : TileRequest)
    (glyphs : Option (List Nat)) : (s.readBody i).tileFormed l style request glyphs = s.tileFormed l style request glyphs := by
  have hformer : (s.readBody i).former = s.former := by rw [(s.readBody_reads i).eq]
  unfold State.tileFormed
  rw [hformer, (s.readBody_settings i).2]

end

/-- R127: what is asked of the string former for a price, in the order of its rows. -/
theorem State.priceDecision_eq (s : State) (code q : Nat) (clamped : Bool) :
    s.priceDecision code q clamped = ⟨some q, clamped, if s.checker.latch then .dashes .checkPathFail
      else if s.suspension code ≠ none then .dashes .suspended else .price q⟩ := by
  cases h : s.suspension code <;> simp [State.priceDecision, h]

/-- Settles O36: the read and the visibility test, then the tile. -/
theorem priceLayerMakesShownRecord : Obligations.PriceLayerMakesShownRecord := by
  unfold Obligations.PriceLayerMakesShownRecord
  intro s p k sc l style code i it d hj hsc hl hm hcontent hcode hi hit hhide honly price clamped request hcase
  have hprice : l.isPrice = true := by
    unfold Layer.isPrice
    rw [hcontent]
  have hvis := State.visibility_read hm hcode hi hit (SoldOutRule.passes_eq hhide honly)
  have hreads := s.readBody_reads i
  have hdrawn : s.composeLayer p k l sc.dim d = (s.readBody i).drawTile p k l code style
      (decide (l.soldOut = .dim) && decide (it.avail = .soldOut)) sc.dim ⟨price, clamped, request⟩
      (if request = .dashes .recordFault then none else d.glyphs) := by
    rcases hcase with ⟨hbad, rfl, rfl, rfl⟩ | ⟨q, q', c, hg, hp, hq, hnone, hsome, rfl, hreq⟩
    · rw [State.item_readBody_failed hit hbad, bodyVisibility_failed hprice] at hvis
      rw [State.composeLayer_fault hvis, State.drawFault_price hcontent hcode, if_pos rfl]
      rfl
    · have hread := State.readBody_sound hit (.inr hp)
      rw [hread, hit, bodyVisibility_good hg (shownPrice_isSome hq)] at hvis
      have hv : (d.price.getD (q', c)).1 = q ∧ (d.price.getD (q', c)).2 = clamped := by
        cases hd : d.price with
        | none => exact ⟨(hnone hd).1.symm, (hnone hd).2.symm⟩
        | some e => exact ⟨(hsome e hd).1.symm, (hsome e hd).2.symm⟩
      have hnofault : request ≠ .dashes .recordFault := by
        rw [hreq]
        split
        · simp
        · split <;> simp
      rw [State.composeLayer_drawn hvis, State.drawLayer_price hcontent hcode hi hit hq, hread, hv.1, hv.2,
        State.priceDecision_eq, if_neg hnofault, hreq]
  have hformed : (s.readBody i).tileFormed l style request (if request = .dashes .recordFault then none else d.glyphs) =
      s.tileFormed l style request d.glyphs := by
    rw [State.tileFormed_read]
    split
    · rename_i h
      rw [h]
      rfl
    · rfl
  have htile := State.drawTile_eq (s.readBody i) p k l code style
      (decide (l.soldOut = .dim) && decide (it.avail = .soldOut)) sc.dim ⟨price, clamped, request⟩
      (if request = .dashes .recordFault then none else d.glyphs)
  rw [← hdrawn] at htile
  dsimp only at htile
  rw [hformed, State.tileEngine_reads hreads] at htile
  refine ⟨_, execComposeLayer_eq hj hsc hl d, ?_⟩
  rw [htile]
  have hb : ∀ b : Fin 8, b ≠ s.engine.backIndex p → (s.engine.backIndex p).val ≠ b.val := fun b hb h => hb (Fin.ext h.symm)
  refine ⟨rfl, Vector.getElem_set_self _, fun b hne => Vector.getElem_set_ne (s.engine.backIndex p).isLt b.isLt (hb b hne), fun x y hx hout => ?_,
    (s.readBody i).posFlag_tileFlagged clamped _, (s.readBody i).contentFlag_tileFlagged clamped _, ?_⟩
  · refine (congrArg (fun b : FrameBuffer => b.read x y) (Vector.getElem_set_self _)).trans ?_
    exact (formTileUpset_fits ..).read_outside (Resolution.clip_width_le _) _ _ hx hout _
  · have hreports := (s.readBody i).tileFlagged_reports clamped (s.tileFormed l style request d.glyphs).overflow
    have hchecker : ((s.readBody i).tileFlagged clamped (s.tileFormed l style request d.glyphs).overflow).checker =
        (s.readBody i).checker := by
      cases clamped <;> cases (s.tileFormed l style request d.glyphs).overflow <;> rfl
    have heq := hreports.eq
    generalize (s.readBody i).tileFlagged clamped (s.tileFormed l style request d.glyphs).overflow = v at *
    rw [hchecker] at heq
    rw [heq]
    rfl

end Sys2Proof.Machine
end

section
/-! SUPPORT. CommitCheckDecides: the walk over the bodies, the needed faults, the running count and the decision. -/

namespace Sys2Proof.Machine

/-! ### The order of the walk (R30) -/

theorem PriceTable.byCode_perm (t : PriceTable) : t.byCode.Perm t.items := List.perm_insertionSort _ _

theorem PriceTable.byCode_sorted (t : PriceTable) : t.byCode.Pairwise (fun a b => a.2.code ≤ b.2.code) := by
  have total : Std.Total (fun a b : ItemIndex × Item => a.2.code ≤ b.2.code) := ⟨fun a b => Nat.le_total ..⟩
  have trans : IsTrans (ItemIndex × Item) (fun a b => a.2.code ≤ b.2.code) := ⟨fun a b c => Nat.le_trans⟩
  exact List.pairwise_insertionSort _ _

theorem ItemsSound.byCode_strict {t : PriceTable} (h : ItemsSound t.items) :
    t.byCode.Pairwise (fun a b => a.2.code < b.2.code) := by
  have hne : t.byCode.Pairwise (fun a b => a.2.code ≠ b.2.code) :=
    List.pairwise_map.1 ((t.byCode_perm.map (fun e : ItemIndex × Item => e.2.code)).nodup_iff.2 h.2.1)
  exact (t.byCode_sorted.and hne).imp fun hab => lt_of_le_of_ne hab.1 hab.2

/-! ### The needed faults (R30) -/

/-- R30: the items whose CORRUPT record no staged entry rewrites or removes. -/
def PriceTable.needed (t : PriceTable) (l : List StagedEntry) : List (ItemIndex × Item) :=
  t.items.filter (fun e => decide (e.2.health = .corrupt) && !l.any (fun x => decide (x.key = .item e.2.code)))

theorem stagedItem_isNone (l : List StagedEntry) (code : Nat) :
    (stagedItem l code).isNone = !l.any (fun x => decide (x.key = .item code)) := by
  rw [Bool.eq_iff_iff]
  simp [stagedItem]

theorem neededFaults_eq (t : PriceTable) (l : List StagedEntry) : neededFaults t l =
    (t.byCode.filter (fun e => decide (e.2.health = .corrupt) && !l.any (fun x => decide (x.key = .item e.2.code)))).map
      (fun e => e.2.code) := by
  simp only [neededFaults, keptItems, stagedItem_isNone, List.filter_map, List.filter_filter, List.map_map]
  rfl

theorem neededFaults_perm (t : PriceTable) (l : List StagedEntry) :
    (neededFaults t l).Perm ((t.needed l).map (fun e => e.2.code)) := by
  rw [neededFaults_eq]
  exact (t.byCode_perm.filter _).map _

theorem neededFaults_sorted (t : PriceTable) (l : List StagedEntry) : (neededFaults t l).Pairwise (· ≤ ·) := by
  rw [neededFaults_eq]
  exact List.pairwise_map.2 (t.byCode_sorted.filter _)

theorem neededFaults_nil {t : PriceTable} {l : List StagedEntry} (h : t.needed l = []) : neededFaults t l = [] := by
  have := (neededFaults_perm t l).length_eq
  rw [h] at this
  exact List.eq_nil_of_length_eq_zero this

/-- The first needed fault is the lowest code, and the list counts them. -/
theorem neededFaults_cons {t : PriceTable} {l : List StagedEntry} (h : t.needed l ≠ []) :
    ∃ low rest, neededFaults t l = low :: rest ∧ rest.length + 1 = (t.needed l).length ∧
      (∃ e ∈ t.needed l, e.2.code = low) ∧ ∀ e ∈ t.needed l, low ≤ e.2.code := by
  have hperm := neededFaults_perm t l
  have hlen : (neededFaults t l).length = (t.needed l).length := by rw [hperm.length_eq, List.length_map]
  cases hf : neededFaults t l with
  | nil =>
    rw [hf] at hlen
    exact absurd (List.eq_nil_of_length_eq_zero hlen.symm) h
  | cons low rest =>
    have hmem : ∀ c, c ∈ low :: rest ↔ ∃ e ∈ t.needed l, e.2.code = c := fun c => by
      rw [← hf, hperm.mem_iff, List.mem_map]
    have hsorted := neededFaults_sorted t l
    rw [hf, List.pairwise_cons] at hsorted
    rw [hf] at hlen
    refine ⟨low, rest, rfl, hlen, (hmem low).1 List.mem_cons_self, fun e he => ?_⟩
    rcases List.mem_cons.1 ((hmem e.2.code).2 ⟨e, he, rfl⟩) with heq | hin
    · exact heq.ge
    · exact hsorted.1 _ hin

/-! ### The running count (R30, R32) -/

theorem overflowAt_none {t : PriceTable} {l : List StagedEntry} {n : Nat} (k : Nat)
    (h : ∀ j ≤ l.length, (l.take j).foldl (runningCount t) n ≤ 512) : overflowAt t k n l = none := by
  induction l generalizing k n with
  | nil => rfl
  | cons e rest ih =>
    have hfirst : runningCount t n e ≤ 512 := h 1 (by simp)
    rw [overflowAt, if_neg (by omega)]
    exact ih _ fun j hj => h (j + 1) (by simpa using hj)

theorem overflowAt_some {t : PriceTable} {l : List StagedEntry} {n j : Nat} (k : Nat) (hj : j < l.length)
    (hover : 512 < (l.take (j + 1)).foldl (runningCount t) n)
    (hbelow : ∀ i ≤ j, (l.take i).foldl (runningCount t) n ≤ 512) : overflowAt t k n l = some (k + j) := by
  induction l generalizing k n j with
  | nil => simp at hj
  | cons e rest ih =>
    rw [overflowAt]
    cases j with
    | zero => exact if_pos hover
    | succ j =>
      have hfirst : runningCount t n e ≤ 512 := hbelow 1 (by omega)
      rw [if_neg (by omega), ih (k + 1) (by simpa using hj) hover fun i hi => hbelow (i + 1) (by omega)]
      congr 1
      omega

/-! ### The decision (R32, R33) -/

/-- The decision made in a state over its own table and staging list, with the record that ends or takes the entries. -/
def State.Decides (s u : State) (c : CommitRecord) (l : List StagedEntry) : Prop :=
  let count := fun k => (l.take k).foldl (runningCount u.table) u.table.items.length
  let n := (projectedItems u.table l).length
  (u.table.needed l ≠ [] → ∃ low, (∃ e ∈ u.table.needed l, e.2.code = low) ∧ (∀ e ∈ u.table.needed l, low ≤ e.2.code) ∧
    exec (.commitCheckCompletion []) s =
      (u.withCommit none).answers 0x07 (0x0B :: (beBytes 2 low ++ beBytes 2 (u.table.needed l).length))) ∧
  (∀ k, u.table.needed l = [] → k < l.length → 512 < count (k + 1) → (∀ j ≤ k, count j ≤ 512) →
    exec (.commitCheckCompletion []) s = (u.withCommit none).answers 0x07 [0x0A, byteOf k]) ∧
  (u.table.needed l = [] → (∀ j ≤ l.length, count j ≤ 512) → commitDigest u.table l ≠ c.digest →
    exec (.commitCheckCompletion []) s =
      (u.withCommit none).answers 0x07 (0x09 :: (beBytes 4 (commitDigest u.table l).toNat ++ beBytes 2 n))) ∧
  (u.table.needed l = [] → (∀ j ≤ l.length, count j ≤ 512) → commitDigest u.table l = c.digest →
    exec (.commitCheckCompletion []) s =
      ((u.withStaging []).withCommit (some { c with
          entries := l, state := if c.hold then .held false else .pending })).answers 0x07
        ([0x00, if c.hold then 0x02 else 0x03, byteOf l.length] ++ beBytes 2 n))

theorem State.commitAnswer_held {s : State} (ha : s.link.answer = none) (hr : ∀ b, s.link.receiver ≠ .assembling b)
    (payload : List Byte) : s.commitAnswer payload = s.holdAnswer 0x07 payload := by
  unfold State.commitAnswer
  rw [ha]
  cases h : s.link.receiver with
  | assembling b => exact absurd h (hr b)
  | waitIdle => rfl
  | ready => rfl

/-- The check completes with a result, where its answer is held. -/
theorem State.finishCheck_eq {u : State} (ha : u.link.answer = none) (hr : ∀ b, u.link.receiver ≠ .assembling b)
    (c : CommitRecord) {r : CheckResult} (hres : checkResult u.table u.stager.staging c.digest = r) :
    u.finishCheck c = ({ u with stager := u.stager.afterCheck c r } : State).holdAnswer 0x07
      (checkAnswer c u.stager.staging.length r) := by
  subst hres
  exact State.commitAnswer_held (s := { u with stager := u.stager.afterCheck c _ }) ha hr _

theorem State.finishCheck_decides {s u : State} {c : CommitRecord}
    (hexec : exec (.commitCheckCompletion []) s = .next (u.finishCheck c)) (ha : u.link.answer = none)
    (hr : ∀ b, u.link.receiver ≠ .assembling b) : s.Decides u c u.stager.staging := by
  refine ⟨fun hne => ?_, fun k hnil hk hover hbelow => ?_, fun hnil hcount hdigest => ?_, fun hnil hcount hdigest => ?_⟩
  · obtain ⟨low, rest, hf, hlen, hlow, hleast⟩ := neededFaults_cons hne
    have hres : checkResult u.table u.stager.staging c.digest = .recordFault low (rest.length + 1) := by
      simp only [checkResult, hf]
    refine ⟨low, hlow, hleast, ?_⟩
    rw [hexec, State.finishCheck_eq ha hr c hres, hlen]
    rfl
  · have hover := overflowAt_some 0 hk hover hbelow
    rw [Nat.zero_add] at hover
    have hres : checkResult u.table u.stager.staging c.digest = .tableFull k := by
      simp only [checkResult, neededFaults_nil hnil, hover]
    rw [hexec, State.finishCheck_eq ha hr c hres]
    rfl
  · have hres : checkResult u.table u.stager.staging c.digest =
        .mismatch (commitDigest u.table u.stager.staging) (projectedItems u.table u.stager.staging).length := by
      simp only [checkResult, neededFaults_nil hnil, overflowAt_none 0 hcount, if_neg hdigest]
    rw [hexec, State.finishCheck_eq ha hr c hres]
    rfl
  · have hres : checkResult u.table u.stager.staging c.digest =
        .pass (projectedItems u.table u.stager.staging).length := by
      simp only [checkResult, neededFaults_nil hnil, overflowAt_none 0 hcount, if_pos hdigest]
    rw [hexec, State.finishCheck_eq ha hr c hres]
    rfl

end Sys2Proof.Machine
end

section
/-! SUPPORT. CommitCheckDecides: what the walk over the bodies does to the table and the suspended set. -/

namespace Sys2Proof.Machine

/-! ### A list of bodies read (R30) -/

/-- R11: an item once its body has been read: CORRUPT where the read finds a parity failure. -/
def Item.read (it : Item) : Item := if it.health = .good ∧ it.parityFails = true then it.failed else it

theorem Item.read_read (it : Item) : it.read.read = it.read := by
  have hfailed : it.failed.read = it.failed := if_neg fun h => absurd h.1 (by simp [Item.failed])
  by_cases h : it.health = .good ∧ it.parityFails = true
  · have hread : it.read = it.failed := if_pos h
    rw [hread, hfailed]
  · have hread : it.read = it := if_neg h
    rw [hread, hread]

theorem State.item_readBody (s : State) (i j : ItemIndex) :
    (s.readBody i).table.item j = if j = i then (s.table.item j).map Item.read else s.table.item j := by
  cases hi : s.table.item i with
  | none =>
    rw [State.readBody_none hi]
    split
    · rename_i h
      rw [h, hi]
      rfl
    · rfl
  | some it =>
    by_cases h : it.health = .good ∧ it.parityFails = true
    · rw [State.readBody_fails hi h.1 h.2, State.parityFailure_table, PriceTable.item_putItem]
      split
      · rename_i hj
        rw [hj, hi, Option.map_some, Item.read, if_pos h]
      · rfl
    · have hsound : it.health = .corrupt ∨ it.parityFails = false := by
        cases hh : it.health with
        | corrupt => exact .inl rfl
        | good => exact .inr (by simpa [hh] using h)
      rw [State.readBody_sound hi hsound]
      split
      · rename_i hj
        rw [hj, hi, Option.map_some, Item.read, if_neg h]
      · rfl

theorem State.item_readBodies (l : List ItemIndex) (s : State) (j : ItemIndex) :
    (l.foldl State.readBody s).table.item j = if j ∈ l then (s.table.item j).map Item.read else s.table.item j := by
  have hidem : ∀ o : Option Item, (o.map Item.read).map Item.read = o.map Item.read := fun o => by
    cases o with
    | none => rfl
    | some it => exact congrArg some it.read_read
  induction l generalizing s with
  | nil => simp
  | cons i l ih =>
    rw [List.foldl_cons, ih, State.item_readBody]
    by_cases hj : j = i
    · simp only [hj, if_true, List.mem_cons_self]
      split
      · exact hidem _
      · rfl
    · simp [hj]

theorem Worsens.rank_le {s t : State} (h : Worsens s t) (code : Nat) :
    suspensionRank (s.suspension code) ≤ suspensionRank (t.suspension code) := by
  rcases h.step with ⟨hc, -, -⟩ | ⟨hlt, -, -⟩
  · rw [State.suspension_congr (congrArg Checker.suspended hc)]
  · exact hlt.le code

theorem State.readBodies_worsens (l : List ItemIndex) (s : State) : Worsens s (l.foldl State.readBody s) :=
  Reported.foldl State.readBody_worsens l s

/-- Two ranks or more: PARITY or UNREPAIRABLE. -/
theorem suspensionRank_two_le {r : Option SuspendReason} : 2 ≤ suspensionRank r ↔ r = some .parity ∨ r = some .unrepairable := by
  match r with
  | none => decide
  | some .mismatch => decide
  | some .parity => decide
  | some .unrepairable => decide

theorem State.readBody_suspends {s : State} {i : ItemIndex} {it : Item} (hi : s.table.item i = some it)
    (hg : it.health = .good) (hp : it.parityFails = true) : 2 ≤ suspensionRank ((s.readBody i).suspension it.code) := by
  rw [State.readBody_fails hi hg hp, State.suspension_parityFailure, if_pos rfl]
  split <;> decide

theorem State.readBodies_suspends {l : List ItemIndex} {s : State} {i : ItemIndex} (hl : i ∈ l) {it : Item}
    (hi : s.table.item i = some it) (hg : it.health = .good) (hp : it.parityFails = true) :
    2 ≤ suspensionRank ((l.foldl State.readBody s).suspension it.code) := by
  induction l generalizing s with
  | nil => simp at hl
  | cons j l ih =>
    rw [List.foldl_cons]
    by_cases hij : i = j
    · subst hij
      exact (State.readBody_suspends hi hg hp).trans ((State.readBodies_worsens l _).rank_le _)
    · refine ih ((List.mem_cons.1 hl).resolve_left hij) ?_
      rw [State.item_readBody, if_neg hij, hi]

theorem State.readBodies_table (l : List ItemIndex) (s : State) :
    let u := l.foldl State.readBody s
    u.table.promos = s.table.promos ∧ u.table.rules = s.table.rules ∧ u.table.pendingAvail = s.table.pendingAvail := by
  refine List.foldlRecOn l State.readBody (motive := fun u => u.table.promos = s.table.promos ∧
    u.table.rules = s.table.rules ∧ u.table.pendingAvail = s.table.pendingAvail) ⟨rfl, rfl, rfl⟩ fun t ht i _ => ?_
  obtain ⟨hp, hr, ha⟩ := ht
  obtain ⟨hpromos, hrules⟩ := t.readBody_settings i
  exact ⟨hpromos.trans hp, hrules.trans hr, (t.pendingAvail_readBody i).trans ha⟩

/-- A walk over sound bodies changes nothing. -/
theorem State.walkBodies_sound {s : State} (h : ∀ e ∈ s.table.items, e.2.health = .good → e.2.parityFails = false) :
    s.walkBodies = s := by
  refine List.foldlRecOn _ State.readBody (motive := fun t => t = s) rfl fun t ht i _ => ?_
  rw [ht]
  cases hi : s.table.item i with
  | none => exact State.readBody_none hi
  | some it =>
    refine State.readBody_sound hi ?_
    cases hh : it.health with
    | corrupt => exact .inl rfl
    | good => exact .inr (h _ (PriceTable.mem_of_item hi) hh)

/-! ### The row -/

theorem execCommitCheckCompletion_eq {s : State} {c : CommitRecord} (hc : s.stager.commit = some c)
    (hs : c.state = .checking) : exec (.commitCheckCompletion []) s = .next (s.walkBodies.finishCheck c) := by
  simp only [exec, execCommitCheckCompletion, hc, hs, if_true]
  rfl

/-- The walk in its order, and the decision over the table that it leaves. -/
theorem State.walkBodies_decides {s : State} {c : CommitRecord} (hc : s.stager.commit = some c) (hs : c.state = .checking)
    (ha : s.link.answer = none) (hr : ∀ b, s.link.receiver ≠ .assembling b) :
    s.Decides s.walkBodies c s.stager.staging := by
  have hreads : ReadsBodies s s.walkBodies := s.readBodies_reads _
  have hanswer : s.walkBodies.link.answer = none := by
    rw [hreads.eq]
    exact ha
  have hreceiver : ∀ b, s.walkBodies.link.receiver ≠ .assembling b := by
    rw [hreads.eq]
    exact hr
  have := State.finishCheck_decides (execCommitCheckCompletion_eq hc hs) hanswer hreceiver
  rwa [hreads.stager] at this

/-- The walk passes the table in strictly ascending order of code. -/
theorem ItemsSound.walk_order {t : PriceTable} (h : ItemsSound t.items) :
    (t.byCode.map (·.1)).Pairwise (fun i j => ∀ a b, t.item i = some a → t.item j = some b → a.code < b.code) := by
  have hitem : ∀ e ∈ t.byCode, t.item e.1 = some e.2 := fun e he =>
    PriceTable.item_of_mem h.1 (t.byCode_perm.mem_iff.1 he)
  refine List.pairwise_map.2 (h.byCode_strict.imp_of_mem fun {e f} he hf hlt a b hi hj => ?_)
  obtain rfl := Option.some.inj ((hitem e he).symm.trans hi)
  obtain rfl := Option.some.inj ((hitem f hf).symm.trans hj)
  exact hlt

/-- Settles O15: a walk that changes nothing, and one that finds failing bodies. -/
theorem commitCheckDecides : Obligations.CommitCheckDecides := by
  unfold Obligations.CommitCheckDecides
  intro s c hc hs ha hr
  have hdecides := State.walkBodies_decides hc hs ha hr
  refine ⟨fun hsound => ?_, fun hitems => ?_⟩
  · rw [State.walkBodies_sound hsound] at hdecides
    exact hdecides
  · have hmem : ∀ i, i ∈ s.table.byCode.map (·.1) ↔ ∃ it, s.table.item i = some it := by
      intro i
      rw [(s.table.byCode_perm.map (·.1)).mem_iff, List.mem_map]
      constructor
      · rintro ⟨e, he, rfl⟩
        exact ⟨e.2, PriceTable.item_of_mem hitems.1 he⟩
      · rintro ⟨it, hi⟩
        exact ⟨_, PriceTable.mem_of_item hi, rfl⟩
    obtain ⟨hpromos, hrules, havail⟩ := State.readBodies_table (s.table.byCode.map (·.1)) s
    refine ⟨s.table.byCode.map (·.1), s.walkBodies, s.table.byCode_perm.map _, hitems.walk_order, rfl, fun i => ?_,
      fun i it hi hg hp => ?_, hpromos, hrules, havail, (s.readBodies_reads _).stager, hdecides⟩
    · refine (State.item_readBodies _ s i).trans ?_
      split
      · rfl
      · rename_i hno
        cases hi : s.table.item i with
        | none => rfl
        | some it => exact absurd ((hmem i).2 ⟨it, hi⟩) hno
    · exact suspensionRank_two_le.1 (State.readBodies_suspends ((hmem i).2 ⟨it, hi⟩) hi hg hp)

end Sys2Proof.Machine
end

section
/-! SUPPORT. FrameStartBeginsJob: references released, styles and scenes installed at a render begin. -/

namespace Sys2Proof.Machine

/-! ### References released (R94) -/

theorem AssetEntry.afterReleases_zero (e : AssetEntry) : e.afterReleases 0 = e := by
  cases e <;> simp [AssetEntry.afterReleases]

theorem AssetEntry.afterReleases_add (e : AssetEntry) (j k : Nat) :
    (e.afterReleases j).afterReleases k = e.afterReleases (j + k) := by
  cases e with
  | empty => rfl
  | loading g pages => rfl
  | ready g pages n => simp [AssetEntry.afterReleases, Nat.sub_sub]
  | retiring g pages n =>
    simp only [AssetEntry.afterReleases]
    by_cases hj : j = 0 ∨ j < n
    · rw [if_pos hj]
      by_cases hk : k = 0 ∨ k < n - j
      · rw [if_pos (show j + k = 0 ∨ j + k < n by omega), Nat.sub_add_eq]
        exact if_pos hk
      · rw [if_neg (show ¬ (j + k = 0 ∨ j + k < n) by omega)]
        exact if_neg hk
    · rw [if_neg hj, if_neg (show ¬ (j + k = 0 ∨ j + k < n) by omega)]

theorem AssetMap.entry_release_self (m : AssetMap) (h : Handle) : (m.release h).entry h = (m.entry h).afterReleases 1 := by
  unfold AssetMap.release
  cases he : m.entry h with
  | empty => exact he
  | loading g pages => exact he
  | ready g pages n => simp [AssetMap.entry_setEntry, AssetEntry.afterReleases]
  | retiring g pages n =>
    by_cases hn : n ≤ 1
    · have : ¬ (1 < n) := by omega
      simp [hn, AssetMap.entry_setEntry, AssetEntry.afterReleases, this]
    · have : 1 < n := by omega
      simp [hn, AssetMap.entry_setEntry, AssetEntry.afterReleases, this]

/-- What a list of releases leaves of an entry. -/
theorem AssetMap.entry_releases (l : List Handle) (m : AssetMap) (h : Handle) :
    (l.foldl AssetMap.release m).entry h = (m.entry h).afterReleases (l.count h) := by
  induction l generalizing m with
  | nil => exact (AssetEntry.afterReleases_zero _).symm
  | cons g l ih =>
    rw [List.foldl_cons, ih]
    by_cases hg : h = g
    · subst hg
      rw [AssetMap.entry_release_self, AssetEntry.afterReleases_add, List.count_cons_self, Nat.add_comm]
    · rw [AssetMap.entry_release_ne m hg, List.count_cons_of_ne (Ne.symm hg)]

theorem AssetMap.release_eq (m : AssetMap) (h : Handle) : m.release h = { m with entries := (m.release h).entries } := by
  unfold AssetMap.release
  cases m.entry h with
  | empty => rfl
  | loading g pages => rfl
  | ready g pages n => rfl
  | retiring g pages n =>
    dsimp only
    split <;> rfl

theorem AssetMap.releases_eq (l : List Handle) (m : AssetMap) :
    l.foldl AssetMap.release m = { m with entries := (l.foldl AssetMap.release m).entries } :=
  List.foldlRecOn l AssetMap.release (motive := fun t => t = { m with entries := t.entries }) rfl fun t ht h _ => by
    rw [t.release_eq h]
    generalize (t.release h).entries = e
    rw [ht]

/-! ### Styles installed (R70) -/

/-- R70: a style once its pending copy is installed. -/
def StyleSlot.settled (v : StyleSlot) : StyleSlot := { current := v.pending.getD v.current, pending := none }

/-- R69: the reference that an installation of a style releases. -/
def StyleSlot.replaced (v : StyleSlot) : List Handle := if v.pending.isSome then v.current.font.toList else []

section
variable (s : State) (i j : Fin 16)

theorem State.installStyle_none (h : s.former.styles[i].pending = none) : s.installStyle i = s := by
  simp only [State.installStyle, h]

theorem State.installStyle_some {st : Style} (h : s.former.styles[i].pending = some st) :
    s.installStyle i =
      { s with former := { s.former with styles := s.former.styles.set i { current := st, pending := none } },
               assets := s.assets.releaseFont s.former.styles[i].current.font } := by
  simp only [State.installStyle, h]

theorem StyleSlot.settled_none {v : StyleSlot} (h : v.pending = none) : v.settled = v := by
  cases v
  cases h
  rfl

theorem State.styles_installStyle : (s.installStyle i).former.styles[j] =
    if j = i then (s.former.styles[j]).settled else s.former.styles[j] := by
  cases hp : s.former.styles[i].pending with
  | none =>
    rw [State.installStyle_none s i hp]
    split
    · rename_i h
      rw [h, StyleSlot.settled_none hp]
    · rfl
  | some st =>
    rw [State.installStyle_some s i hp]
    split
    · rename_i h
      subst h
      refine (Vector.getElem_set_self j.isLt).trans ?_
      rw [StyleSlot.settled, hp, Option.getD_some]
    · rename_i h
      exact Vector.getElem_set_ne i.isLt j.isLt fun hv => h (Fin.ext hv.symm)

theorem State.assets_installStyle :
    (s.installStyle i).assets = (s.former.styles[i]).replaced.foldl AssetMap.release s.assets := by
  unfold StyleSlot.replaced
  cases hp : s.former.styles[i].pending with
  | none =>
    rw [State.installStyle_none s i hp]
    rfl
  | some st =>
    rw [State.installStyle_some s i hp]
    cases s.former.styles[i].current.font <;> rfl

end

theorem StyleSlot.settled_settled (v : StyleSlot) : v.settled.settled = v.settled := rfl

theorem State.styles_installStylesOf (l : List (Fin 16)) (s : State) (j : Fin 16) :
    (l.foldl State.installStyle s).former.styles[j] =
      if j ∈ l then (s.former.styles[j]).settled else s.former.styles[j] := by
  induction l generalizing s with
  | nil => simp
  | cons i l ih =>
    rw [List.foldl_cons, ih, State.styles_installStyle]
    by_cases hj : j = i <;> simp [hj, StyleSlot.settled_settled]

theorem State.assets_installStylesOf {l : List (Fin 16)} (hl : l.Nodup) (s : State) :
    (l.foldl State.installStyle s).assets =
      (l.flatMap (fun i => (s.former.styles[i]).replaced)).foldl AssetMap.release s.assets := by
  induction l generalizing s with
  | nil => rfl
  | cons i l ih =>
    obtain ⟨hi, hl⟩ := List.nodup_cons.1 hl
    have hrest : l.flatMap (fun j => ((s.installStyle i).former.styles[j]).replaced) =
        l.flatMap (fun j => (s.former.styles[j]).replaced) := by
      refine List.flatMap_congr fun j hj => ?_
      rw [State.styles_installStyle, if_neg fun h : j = i => hi (h ▸ hj)]
    rw [List.foldl_cons, ih hl, hrest, State.assets_installStyle, List.flatMap_cons, List.foldl_append]

/-! ### Scenes exchanged (R108) -/

/-- R108: the scenes of a panel once a pending scene is installed. -/
def PanelScenes.settled (v : PanelScenes) : PanelScenes :=
  { v with pending := none, active := if v.pending.isSome then v.pending else v.active }

/-- R107: the references that an exchange of a panel's scene releases. -/
def PanelScenes.replaced (v : PanelScenes) : List Handle := if v.pending.isSome then sceneNames v.active else []

theorem AssetMap.releaseScene_eq (m : AssetMap) (sc : Option Scene) :
    m.releaseScene sc = (sceneNames sc).foldl AssetMap.release m := by
  cases sc <;> rfl

section
variable (s : State) (p q : Fin 4)

theorem State.exchangeScene_none (h : s.scenes.panels[p].pending = none) : s.exchangeScene p = s := by
  simp only [State.exchangeScene, h]

theorem State.exchangeScene_some {sc : Scene} (h : s.scenes.panels[p].pending = some sc) :
    s.exchangeScene p = ({ s with assets := s.assets.releaseScene s.scenes.panels[p].active }).setScenes p
      { s.scenes.panels[p] with pending := none, active := some sc } := by
  simp only [State.exchangeScene, h]

theorem PanelScenes.settled_none {v : PanelScenes} (h : v.pending = none) : v.settled = v := by
  cases v
  cases h
  rfl

theorem State.scenes_exchangeScene : (s.exchangeScene p).scenes.panels[q] =
    if q = p then (s.scenes.panels[q]).settled else s.scenes.panels[q] := by
  cases hp : s.scenes.panels[p].pending with
  | none =>
    rw [State.exchangeScene_none s p hp]
    split
    · rename_i h
      rw [h, PanelScenes.settled_none hp]
    · rfl
  | some sc =>
    rw [State.exchangeScene_some s p hp]
    split
    · rename_i h
      subst h
      refine (Vector.getElem_set_self q.isLt).trans ?_
      rw [PanelScenes.settled, hp]
      rfl
    · rename_i h
      exact Vector.getElem_set_ne p.isLt q.isLt fun hv => h (Fin.ext hv.symm)

theorem State.assets_exchangeScene :
    (s.exchangeScene p).assets = (s.scenes.panels[p]).replaced.foldl AssetMap.release s.assets := by
  unfold PanelScenes.replaced
  cases hp : s.scenes.panels[p].pending with
  | none =>
    rw [State.exchangeScene_none s p hp]
    rfl
  | some sc =>
    rw [State.exchangeScene_some s p hp]
    exact AssetMap.releaseScene_eq ..

end

theorem PanelScenes.settled_settled (v : PanelScenes) : v.settled.settled = v.settled := rfl

theorem State.scenes_exchangeScenesOf (l : List (Fin 4)) (s : State) (q : Fin 4) :
    (l.foldl State.exchangeScene s).scenes.panels[q] =
      if q ∈ l then (s.scenes.panels[q]).settled else s.scenes.panels[q] := by
  induction l generalizing s with
  | nil => simp
  | cons p l ih =>
    rw [List.foldl_cons, ih, State.scenes_exchangeScene]
    by_cases hq : q = p <;> simp [hq, PanelScenes.settled_settled]

theorem State.assets_exchangeScenesOf {l : List (Fin 4)} (hl : l.Nodup) (s : State) :
    (l.foldl State.exchangeScene s).assets =
      (l.flatMap (fun p => (s.scenes.panels[p]).replaced)).foldl AssetMap.release s.assets := by
  induction l generalizing s with
  | nil => rfl
  | cons p l ih =>
    obtain ⟨hp, hl⟩ := List.nodup_cons.1 hl
    have hrest : l.flatMap (fun q => ((s.exchangeScene p).scenes.panels[q]).replaced) =
        l.flatMap (fun q => (s.scenes.panels[q]).replaced) := by
      refine List.flatMap_congr fun q hq => ?_
      rw [State.scenes_exchangeScene, if_neg fun h : q = p => hp (h ▸ hq)]
    rw [List.foldl_cons, ih hl, hrest, State.assets_exchangeScene, List.flatMap_cons, List.foldl_append]

/-! ### Both together -/

/-- The references released by the styles and scenes of a render begin. -/
def State.replacedNames (s : State) : List Handle :=
  (List.finRange 4).flatMap (fun p => (s.scenes.panels[p]).replaced) ++
    (List.finRange 16).flatMap (fun i => (s.former.styles[i]).replaced)

theorem State.styles_installed (s : State) (i : Fin 16) :
    s.installStyles.exchangeScenes.former.styles[i] = (s.former.styles[i]).settled := by
  have hformer : s.installStyles.exchangeScenes.former = s.installStyles.former := by rw [State.exchangeScenes_eq]
  rw [hformer, State.installStyles, State.styles_installStylesOf, if_pos (List.mem_finRange i)]

theorem State.scenes_installed (s : State) (p : Fin 4) :
    s.installStyles.exchangeScenes.scenes.panels[p] = (s.scenes.panels[p]).settled := by
  have hscenes : s.installStyles.scenes = s.scenes := by rw [State.installStyles_eq]
  rw [State.exchangeScenes, State.scenes_exchangeScenesOf, if_pos (List.mem_finRange p), hscenes]

theorem State.assets_installed (s : State) :
    (∀ h, s.installStyles.exchangeScenes.assets.entry h = (s.assets.entry h).afterReleases (s.replacedNames.count h)) ∧
      s.installStyles.exchangeScenes.assets =
        { s.assets with entries := s.installStyles.exchangeScenes.assets.entries } := by
  have hscenes : s.installStyles.scenes = s.scenes := by rw [State.installStyles_eq]
  have hassets : s.installStyles.exchangeScenes.assets = ((List.finRange 16).flatMap (fun i => (s.former.styles[i]).replaced)
      ++ (List.finRange 4).flatMap (fun p => (s.scenes.panels[p]).replaced)).foldl AssetMap.release s.assets := by
    rw [State.exchangeScenes, State.assets_exchangeScenesOf (List.nodup_finRange 4), hscenes, State.installStyles,
      State.assets_installStylesOf (List.nodup_finRange 16), List.foldl_append]
  rw [hassets]
  refine ⟨fun h => ?_, AssetMap.releases_eq _ _⟩
  rw [AssetMap.entry_releases, State.replacedNames, List.count_append, List.count_append, Nat.add_comm]

end Sys2Proof.Machine
end

section
/-! SUPPORT. FrameStartBeginsJob: panel settings installed at a render begin, with what they do to duties, outputs and a
conversion in flight. -/

namespace Sys2Proof.Machine

/-! ### One panel (R121, R146) -/

/-- The settings that a render begin leaves installed. -/
def PanelRecord.next (r : PanelRecord) : PanelSettings := r.pendingSettings.getD r.installed

/-- R146: the installation disables the panel. -/
def PanelRecord.goesOff (r : PanelRecord) : Bool := r.installed.enable && !r.next.enable

/-- A panel record once its pending settings are installed. -/
def PanelRecord.settled (r : PanelRecord) : PanelRecord :=
  { r with installed := r.next, pendingSettings := none, target := if r.goesOff then 0 else r.target,
           applied := if r.goesOff then 0 else r.applied }

/-- R121: the output of a panel once its pending settings are installed. -/
def PanelRecord.output (r : PanelRecord) (o : PanelOutput) : PanelOutput :=
  if r.installed.blanks r.next then { o with showing := false } else o

/-- R146: a conversion once the settings of a panel are installed. -/
def PanelRecord.marks (r : PanelRecord) (p : Fin 4) (c : Conversion) : Conversion :=
  { c with discard := c.discard || (decide (channelPanel c.channel = p) && r.goesOff) }

section
variable {r : PanelRecord}

theorem PanelRecord.next_none (h : r.pendingSettings = none) : r.next = r.installed := by
  rw [PanelRecord.next, h, Option.getD_none]

theorem PanelRecord.goesOff_none (h : r.pendingSettings = none) : r.goesOff = false := by
  rw [PanelRecord.goesOff, PanelRecord.next_none h, Bool.and_not_self]

theorem PanelRecord.settled_none (h : r.pendingSettings = none) : r.settled = r := by
  rw [PanelRecord.settled, PanelRecord.goesOff_none h, PanelRecord.next_none h]
  cases r
  cases h
  rfl

theorem PanelRecord.output_none (h : r.pendingSettings = none) (o : PanelOutput) : r.output o = o := by
  rw [PanelRecord.output, PanelRecord.next_none h, if_neg]
  simp [PanelSettings.blanks]

theorem PanelRecord.marks_none (h : r.pendingSettings = none) (p : Fin 4) (c : Conversion) : r.marks p c = c := by
  rw [PanelRecord.marks, PanelRecord.goesOff_none h, Bool.and_false, Bool.or_false]

theorem PanelRecord.next_some {n : PanelSettings} (h : r.pendingSettings = some n) : r.next = n := by
  rw [PanelRecord.next, h, Option.getD_some]

theorem PanelRecord.install_eq {n : PanelSettings} (h : r.pendingSettings = some n) : r.install n = r.settled := by
  unfold PanelRecord.install PanelRecord.settled PanelRecord.goesOff
  rw [PanelRecord.next_some h]
  split <;> rfl

end

theorem PanelUnit.discardOf_conversion (u : PanelUnit) (p : Fin 4) :
    u.discardOf p = { u with conversion := u.conversion.map (fun c =>
      { c with discard := c.discard || decide (channelPanel c.channel = p) }) } := by
  unfold PanelUnit.discardOf
  cases u with
  | mk panels scan conversion =>
    cases conversion with
    | none => rfl
    | some c => by_cases h : channelPanel c.channel = p <;> simp [h]

/-- The installation at one panel, in one equation whether or not settings are pending. -/
theorem State.installSettings_explicit (s : State) (p : Fin 4) :
    s.installSettings p = { s with
      panel := { s.panel with
        panels := s.panel.panels.set p (s.panel.panels[p]).settled,
        conversion := s.panel.conversion.map ((s.panel.panels[p]).marks p) },
      engine := { s.engine with
        outputs := s.engine.outputs.set p ((s.panel.panels[p]).output s.engine.outputs[p]) } } := by
  cases h : s.panel.panels[p].pendingSettings with
  | none =>
    have hmarks : s.panel.conversion.map ((s.panel.panels[p]).marks p) = s.panel.conversion := by
      rw [funext (PanelRecord.marks_none h p)]
      exact Option.map_id'
    have hpanels : s.panel.panels.set p s.panel.panels[p] = s.panel.panels := Vector.set_getElem_self p.isLt
    have houtputs : s.engine.outputs.set p s.engine.outputs[p] = s.engine.outputs := Vector.set_getElem_self p.isLt
    rw [PanelRecord.settled_none h, PanelRecord.output_none h, hmarks, hpanels, houtputs]
    simp only [State.installSettings, h]
  | some n =>
    have hoff : (s.panel.panels[p].installed.enable && !n.enable) = (s.panel.panels[p]).goesOff := by
      rw [PanelRecord.goesOff, PanelRecord.next_some h]
    have hset : s.installSettings p = { s with
        panel := if s.panel.panels[p].installed.enable && !n.enable then
          (s.panel.setPanel p (s.panel.panels[p].install n)).discardOf p
          else s.panel.setPanel p (s.panel.panels[p].install n),
        engine := if s.panel.panels[p].installed.blanks n then s.engine.blank p else s.engine } := by
      simp only [State.installSettings, h]
    rw [hset, hoff, PanelRecord.install_eq h, ← PanelRecord.next_some h]
    congr 1
    · unfold PanelRecord.output
      split
      · rfl
      · exact congrArg (fun o => { s.engine with outputs := o }) (Vector.set_getElem_self p.isLt).symm
    · unfold PanelRecord.marks
      cases (s.panel.panels[p]).goesOff with
      | true =>
        simp only [if_true, Bool.and_true]
        exact PanelUnit.discardOf_conversion _ p
      | false =>
        simp only [Bool.false_eq_true, if_false, Bool.and_false, Bool.or_false]
        exact congrArg (fun c => { s.panel.setPanel p (s.panel.panels[p]).settled with conversion := c })
          Option.map_id'.symm

/-! ### Every panel -/

section
variable (s : State)

theorem State.panels_installSettings (p q : Fin 4) : (s.installSettings p).panel.panels[q] =
    if q = p then (s.panel.panels[q]).settled else s.panel.panels[q] := by
  rw [State.installSettings_explicit]
  split
  · rename_i h
    subst h
    exact Vector.getElem_set_self q.isLt
  · rename_i h
    exact Vector.getElem_set_ne p.isLt q.isLt fun hv => h (Fin.ext hv.symm)

theorem State.outputs_installSettings (p q : Fin 4) : (s.installSettings p).engine.outputs[q] =
    if q = p then (s.panel.panels[q]).output s.engine.outputs[q] else s.engine.outputs[q] := by
  rw [State.installSettings_explicit]
  split
  · rename_i h
    subst h
    exact Vector.getElem_set_self q.isLt
  · rename_i h
    exact Vector.getElem_set_ne p.isLt q.isLt fun hv => h (Fin.ext hv.symm)

end

/-- R146: a conversion is marked for discard where the installation disables its channel's panel. -/
def PanelUnit.marks (u : PanelUnit) (l : List (Fin 4)) (c : Conversion) : Conversion :=
  { c with discard := c.discard || (decide (channelPanel c.channel ∈ l) && (u.panels[channelPanel c.channel]).goesOff) }

/-- The installation at several panels. -/
theorem State.installSettingsOf_leaves {l : List (Fin 4)} (hl : l.Nodup) (s : State) :
    let t := l.foldl State.installSettings s
    (∀ q : Fin 4, t.panel.panels[q] = if q ∈ l then (s.panel.panels[q]).settled else s.panel.panels[q]) ∧
      (∀ q : Fin 4, t.engine.outputs[q] =
        if q ∈ l then (s.panel.panels[q]).output s.engine.outputs[q] else s.engine.outputs[q]) ∧
      t.panel.conversion = s.panel.conversion.map (s.panel.marks l) ∧ t.panel.scanPosition = s.panel.scanPosition ∧
      t.engine = { s.engine with outputs := t.engine.outputs } := by
  induction l generalizing s with
  | nil =>
    have hmarks : s.panel.marks [] = id := funext fun c => by
      cases c
      simp [PanelUnit.marks]
    exact ⟨fun q => by simp, fun q => by simp, by simp [hmarks], rfl, rfl⟩
  | cons p l ih =>
    obtain ⟨hp, hl⟩ := List.nodup_cons.1 hl
    obtain ⟨hpanels, houtputs, hconv, hscan, hengine⟩ := ih hl (s.installSettings p)
    have hstep := s.installSettings_explicit p
    refine ⟨fun q => ?_, fun q => ?_, ?_, ?_, ?_⟩
    · rw [List.foldl_cons, hpanels, State.panels_installSettings]
      by_cases hq : q = p
      · simp [hq, hp]
      · simp [hq]
    · rw [List.foldl_cons, houtputs, State.panels_installSettings, State.outputs_installSettings]
      by_cases hq : q = p
      · simp [hq, hp]
      · simp [hq]
    · rw [List.foldl_cons, hconv]
      have hfirst : (s.installSettings p).panel.conversion = s.panel.conversion.map ((s.panel.panels[p]).marks p) := by
        rw [hstep]
      rw [hfirst, Option.map_map]
      congr 1
      funext c
      have hpanel := State.panels_installSettings s p (channelPanel c.channel)
      simp only [Function.comp_apply, PanelUnit.marks, PanelRecord.marks]
      by_cases hc : channelPanel c.channel = p
      · simp [hc, hp]
      · rw [hpanel, if_neg hc]
        simp only [hc, decide_false, Bool.false_and, Bool.or_false, List.mem_cons, false_or]
        rfl
    · rw [List.foldl_cons, hscan, hstep]
    · rw [List.foldl_cons]
      refine hengine.trans ?_
      rw [hstep]

/-- The panel unit once every pending settings record is installed. -/
def PanelUnit.settled (u : PanelUnit) : PanelUnit where
  panels := Vector.ofFn (fun p : Fin 4 => (u.panels[p]).settled)
  scanPosition := u.scanPosition
  conversion := u.conversion.map (fun c =>
    { c with discard := c.discard || (u.panels[channelPanel c.channel]).goesOff })

theorem PanelUnit.panels_settled (u : PanelUnit) (p : Fin 4) : u.settled.panels[p] = (u.panels[p]).settled :=
  Vector.getElem_ofFn p.isLt

/-- R121, R146: every panel's pending settings installed. -/
theorem State.installAllSettings_leaves (s : State) :
    s.installAllSettings.panel = s.panel.settled ∧
      (∀ q : Fin 4, s.installAllSettings.engine.outputs[q] = (s.panel.panels[q]).output s.engine.outputs[q]) ∧
      s.installAllSettings.engine = { s.engine with outputs := s.installAllSettings.engine.outputs } := by
  obtain ⟨hpanels, houtputs, hconv, hscan, hengine⟩ := s.installSettingsOf_leaves (List.nodup_finRange 4)
  have hmarks : s.panel.marks (List.finRange 4) =
      fun c => { c with discard := c.discard || (s.panel.panels[channelPanel c.channel]).goesOff } := by
    funext c
    simp only [PanelUnit.marks, List.mem_finRange, decide_true, Bool.true_and]
  refine ⟨?_, fun q => (houtputs q).trans (if_pos (List.mem_finRange q)), hengine⟩
  have hvec : s.installAllSettings.panel.panels = s.panel.settled.panels := by
    refine Vector.ext fun i hi => ?_
    exact ((hpanels ⟨i, hi⟩).trans (if_pos (List.mem_finRange _))).trans (s.panel.panels_settled ⟨i, hi⟩).symm
  rw [hmarks] at hconv
  change s.installAllSettings.panel.conversion = _ at hconv
  change s.installAllSettings.panel.scanPosition = _ at hscan
  generalize s.installAllSettings.panel = u at *
  cases u
  cases hvec
  cases hconv
  cases hscan
  rfl

end Sys2Proof.Machine
end

section
/-! SUPPORT. FrameStartBeginsJob: the commit, the availabilities and the daypart of a render begin. -/

namespace Sys2Proof.Machine

/-! ### An applied commit leaves the engine and the panels (R37) -/

/-- The state with another frame engine and panel unit. -/
def State.framed (s : State) (e : FrameEngine) (u : PanelUnit) : State := { s with engine := e, panel := u }

section
variable (s : State) (e : FrameEngine) (u : PanelUnit)

theorem State.unsuspend_framed (code : Nat) : (s.framed e u).unsuspend code = (s.unsuspend code).framed e u := by
  have hsusp : (s.framed e u).suspension code = s.suspension code := rfl
  unfold State.unsuspend
  rw [hsusp]
  cases s.suspension code <;> rfl

theorem State.setItemAt_framed (i : ItemIndex) (code : Nat) (body : ItemBody) (a : Availability) :
    (s.framed e u).setItemAt i code body a = (s.setItemAt i code body a).framed e u := by
  have hput : ∀ it, (s.framed e u).putItem i it = (s.putItem i it).framed e u := fun _ => rfl
  unfold State.setItemAt
  dsimp only
  rw [hput, State.unsuspend_framed]
  rfl

/-- R39: the table without an item and without the pending availability of its code. -/
def State.withoutItem (s : State) (i : ItemIndex) (code : Nat) : State :=
  { s with table := { s.table with items := Sparse.drop s.table.items i,
                                   pendingAvail := Sparse.drop s.table.pendingAvail code } }

/-- R58: the slot of an item marked DIRTY, its repair withdrawn. -/
def State.withMarkedItem (s : State) (i : ItemIndex) : State := { s with nva := s.nva.markItem i }

theorem State.applyItemRemove_at {code : Nat} {i : ItemIndex} (h : s.table.indexOf code = some i) :
    s.applyItemRemove code = ((s.withoutItem i code).unsuspend code).withMarkedItem i := by
  simp only [State.applyItemRemove, h]
  rfl

theorem State.applyItemRemove_absent {code : Nat} (h : s.table.indexOf code = none) : s.applyItemRemove code = s := by
  simp only [State.applyItemRemove, h]

theorem State.applyEntry_framed (x : StagedEntry) : (s.framed e u).applyEntry x = (s.applyEntry x).framed e u := by
  have htable : (s.framed e u).table = s.table := rfl
  cases x with
  | itemSet code body =>
    simp only [State.applyEntry, State.applyItemSet, htable]
    cases s.table.indexOf code with
    | some i => exact s.setItemAt_framed ..
    | none =>
      cases s.table.lowestFree with
      | some i => exact s.setItemAt_framed ..
      | none => rfl
  | itemRemove code =>
    simp only [State.applyEntry]
    cases hi : s.table.indexOf code with
    | none => rw [State.applyItemRemove_absent _ hi, State.applyItemRemove_absent _ (htable ▸ hi)]
    | some i =>
      have hdrop : (s.framed e u).withoutItem i code = (s.withoutItem i code).framed e u := rfl
      rw [State.applyItemRemove_at _ hi, State.applyItemRemove_at _ (htable ▸ hi), hdrop, State.unsuspend_framed]
      rfl
  | promoSet i p => rfl
  | rulesSet r => rfl

theorem State.applyEntries_framed (l : List StagedEntry) :
    l.foldl State.applyEntry (s.framed e u) = (l.foldl State.applyEntry s).framed e u := by
  induction l generalizing s with
  | nil => rfl
  | cons x l ih => rw [List.foldl_cons, State.applyEntry_framed, ih, List.foldl_cons]

theorem State.applyCommit_framed : (s.framed e u).applyCommit = s.applyCommit.framed e u := by
  by_cases h : ∃ c, s.stager.commit = some c ∧ c.state = .pending
  · obtain ⟨c, hc, hp⟩ := h
    rw [State.applyCommit_pending hc hp, State.applyCommit_pending (s := s.framed e u) hc hp, State.applyEntries_framed]
    rfl
  · have hno : ∀ c, s.stager.commit = some c → c.state ≠ .pending := fun c hc hp => h ⟨c, hc, hp⟩
    rw [State.applyCommit_other hno, State.applyCommit_other (s := s.framed e u) hno]

end

/-- `t` differs from `s` as an applied commit may: in the table, the stager, the array's bookkeeping, the checker and what
a raised flag changes. -/
structure Commits (s t : State) : Prop where
  eq : t = { s with table := t.table, stager := t.stager, nva := t.nva, checker := t.checker,
                    link := { s.link with summary := t.link.summary },
                    port := { s.port with summary := t.port.summary, armed := t.port.armed, messages := t.port.messages } }

theorem Commits.refl (s : State) : Commits s s := ⟨rfl⟩

theorem Commits.trans {s t u : State} (a : Commits s t) (b : Commits t u) : Commits s u := by
  constructor
  have h := b.eq
  rw [a.eq] at h
  exact h

theorem Reports.commits {s t : State} (h : Reports s t) : Commits s t := by
  constructor
  rw [h.eq]

theorem State.setItemAt_commits (s : State) (i : ItemIndex) (code : Nat) (body : ItemBody) (a : Availability) :
    Commits s (s.setItemAt i code body a) := by
  have hput : Commits s (s.putItem i ⟨code, body, false, .good, a⟩) := ⟨rfl⟩
  exact (hput.trans (State.unsuspend_reports _ code).commits).trans ⟨rfl⟩

theorem State.applyEntry_commits (s : State) (e : StagedEntry) : Commits s (s.applyEntry e) := by
  cases e with
  | itemSet code body =>
    simp only [State.applyEntry, State.applyItemSet]
    split
    · exact s.setItemAt_commits ..
    · split
      · exact s.setItemAt_commits ..
      · exact .refl s
  | itemRemove code =>
    simp only [State.applyEntry]
    cases hi : s.table.indexOf code with
    | none =>
      rw [State.applyItemRemove_absent _ hi]
      exact .refl s
    | some i =>
      rw [State.applyItemRemove_at _ hi]
      have hdrop : Commits s (s.withoutItem i code) := ⟨rfl⟩
      exact (hdrop.trans (State.unsuspend_reports _ code).commits).trans ⟨rfl⟩
  | promoSet i p => exact ⟨rfl⟩
  | rulesSet r => exact ⟨rfl⟩

theorem State.applyCommit_commits (s : State) : Commits s s.applyCommit := by
  by_cases h : ∃ c, s.stager.commit = some c ∧ c.state = .pending
  · obtain ⟨c, hc, hp⟩ := h
    rw [State.applyCommit_pending hc hp]
    have hfold : Commits s (c.entries.foldl State.applyEntry s) :=
      List.foldlRecOn c.entries State.applyEntry (motive := Commits s) (.refl s) fun t ht e _ => ht.trans (t.applyEntry_commits e)
    exact hfold.trans ⟨rfl⟩
  · rw [State.applyCommit_other fun c hc hp => h ⟨c, hc, hp⟩]
    exact .refl s

/-! ### Pending availabilities (R8) -/

section
variable {t : PriceTable}

theorem ItemsSound.item_applyAvail (h : ItemsSound t.items) (e : Nat × Availability) (i : ItemIndex) :
    (t.applyAvail e).item i = (t.item i).map (fun it => if it.code = e.1 then { it with avail := e.2 } else it) := by
  unfold PriceTable.applyAvail
  cases hk : t.indexOf e.1 with
  | none =>
    have hno := PriceTable.indexOf_eq_none_iff.1 hk
    cases hi : t.item i with
    | none => rfl
    | some it => rw [Option.map_some, if_neg (hno _ (PriceTable.mem_of_item hi))]
  | some k =>
    obtain ⟨it, hit, hc⟩ := h.indexOf_iff.1 hk
    simp only [hit]
    rw [PriceTable.item_putItem]
    split
    · rename_i hik
      rw [hik, hit, Option.map_some, if_pos hc]
    · rename_i hik
      cases hi : t.item i with
      | none => rfl
      | some old =>
        have hne : old.code ≠ e.1 := fun heq =>
          hik (congrArg Prod.fst (h.key_unique (PriceTable.mem_of_item hi) (PriceTable.mem_of_item hit) (heq.trans hc.symm)))
        rw [Option.map_some, if_neg hne]

/-- Every pending entry gives its state to its item. -/
theorem ItemsSound.item_applyAvails (h : ItemsSound t.items) {l : List (Nat × Availability)} (hl : Sparse.rising l = true)
    (i : ItemIndex) : (l.foldl PriceTable.applyAvail t).item i =
      (t.item i).map (fun it => { it with avail := (Sparse.find l it.code).getD it.avail }) := by
  induction l generalizing t with
  | nil => exact Option.map_id'.symm
  | cons e l ih =>
    obtain ⟨hfirst, hrest⟩ := List.pairwise_cons.1 ((Sparse.rising_iff _).1 hl)
    have habsent : Sparse.find l e.1 = none := Sparse.find_eq_none_iff.2 fun x hx => (hfirst x hx).ne'
    rw [List.foldl_cons, ih (h.applyAvail e).1 ((Sparse.rising_iff _).2 hrest), h.item_applyAvail, Option.map_map]
    congr 1
    funext it
    simp only [Function.comp_apply, Sparse.find]
    split
    · rename_i hc
      simp only [hc, habsent, Option.getD_none, Option.getD_some]
    · rfl

end

/-! ### The live daypart (R46, R48) -/

theorem startsRising_pairwise {low : Option Nat} {es : List ScheduleEntry} (h : startsRising low es = true) :
    es.Pairwise (fun a b => a.start < b.start) ∧ ∀ l, low = some l → ∀ e ∈ es, l < e.start := by
  induction es generalizing low with
  | nil => exact ⟨.nil, fun _ _ e he => absurd he List.not_mem_nil⟩
  | cons e rest ih =>
    simp only [startsRising, Bool.and_eq_true] at h
    obtain ⟨⟨-, hlow⟩, hrest⟩ := h
    obtain ⟨hpair, habove⟩ := ih hrest
    refine ⟨List.pairwise_cons.2 ⟨habove e.start rfl, hpair⟩, fun l hl x hx => ?_⟩
    subst hl
    have hle : l < e.start := by simpa using hlow
    rcases List.mem_cons.1 hx with rfl | hx
    · exact hle
    · exact hle.trans (habove e.start rfl x hx)

/-- The last of a rising list is the greatest. -/
theorem start_le_of_getLast? {es : List ScheduleEntry} (h : es.Pairwise (fun a b => a.start < b.start)) {e : ScheduleEntry}
    (he : es.getLast? = some e) : e ∈ es ∧ ∀ x ∈ es, x.start ≤ e.start := by
  obtain ⟨ys, rfl⟩ := List.getLast?_eq_some_iff.1 he
  refine ⟨by simp, fun x hx => ?_⟩
  rcases List.mem_append.1 hx with hx | hx
  · exact ((List.pairwise_append.1 h).2.2 x hx e (by simp)).le
  · rw [List.mem_singleton.1 hx]

/-- R46: the entry of a valid schedule that a minute falls in. -/
theorem DaypartUnit.choose_scheduled {u : DaypartUnit} {r : Rules} {m : TimeOfDay} (hf : u.force = none)
    (ht : u.time = some m) (hv : scheduleValid u.schedule = true) :
    ∃ e ∈ u.schedule, u.choose r = e.daypart ∧
      ((e.start ≤ m.minute ∧ ∀ x ∈ u.schedule, x.start ≤ m.minute → x.start ≤ e.start) ∨
        ((∀ x ∈ u.schedule, m.minute < x.start) ∧ ∀ x ∈ u.schedule, x.start ≤ e.start)) := by
  simp only [scheduleValid, Bool.and_eq_true, decide_eq_true_eq] at hv
  obtain ⟨⟨hlen, -⟩, hrise⟩ := hv
  obtain ⟨hpair, -⟩ := startsRising_pairwise hrise
  cases he : entryAt u.schedule m.minute with
  | some e =>
    obtain ⟨hmem, hgreatest⟩ := start_le_of_getLast? (hpair.filter _) he
    obtain ⟨hin, hstart⟩ := List.mem_filter.1 hmem
    refine ⟨e, hin, by simp only [DaypartUnit.choose, hf, ht, he], .inl ⟨of_decide_eq_true hstart, fun x hx hxm => ?_⟩⟩
    exact hgreatest x (List.mem_filter.2 ⟨hx, decide_eq_true hxm⟩)
  | none =>
    have hnone : u.schedule.filter (fun e => decide (e.start ≤ m.minute)) = [] := List.getLast?_eq_none_iff.1 he
    have hafter : ∀ x ∈ u.schedule, m.minute < x.start := fun x hx => by
      simpa using List.filter_eq_nil_iff.1 hnone x hx
    cases hlast : u.schedule.getLast? with
    | none =>
      rw [List.getLast?_eq_none_iff.1 hlast] at hlen
      exact absurd hlen (by decide)
    | some e =>
      obtain ⟨hin, hgreatest⟩ := start_le_of_getLast? hpair hlast
      exact ⟨e, hin, by simp only [DaypartUnit.choose, hf, ht, he, hlast, Option.map_some, Option.getD_some],
        .inr ⟨hafter, hgreatest⟩⟩

section
variable (s : State)

theorem State.posFlag_fixDaypart (f : PosFlag) : s.fixDaypart.posFlag f = (s.posFlag f ||
    (decide (f = .daypartChanged) && !decide (s.daypart.choose s.table.rules = s.daypart.live))) := by
  unfold State.fixDaypart
  dsimp only
  split
  · rename_i h
    simp only [h, decide_true, Bool.not_true, Bool.and_false, Bool.or_false]
  · rename_i h
    simp only [h, decide_false, Bool.not_false, Bool.and_true]
    exact State.posFlag_raiseBoth _ _ _ f

theorem State.contentFlag_fixDaypart (f : ContentFlag) : s.fixDaypart.contentFlag f = (s.contentFlag f ||
    (decide (f = .daypartChanged) && !decide (s.daypart.choose s.table.rules = s.daypart.live))) := by
  unfold State.fixDaypart
  dsimp only
  split
  · rename_i h
    simp only [h, decide_true, Bool.not_true, Bool.and_false, Bool.or_false]
  · rename_i h
    simp only [h, decide_false, Bool.not_false, Bool.and_true]
    exact State.contentFlag_raiseBoth _ _ _ f

/-- The frame equation with what a raised flag may change. -/
theorem State.fixDaypart_ports : s.fixDaypart.link = { s.link with summary := s.fixDaypart.link.summary } ∧
    s.fixDaypart.port = { s.port with summary := s.fixDaypart.port.summary, armed := s.fixDaypart.port.armed,
                                      messages := s.fixDaypart.port.messages } := by
  unfold State.fixDaypart
  dsimp only
  split <;> exact ⟨rfl, rfl⟩

end

end Sys2Proof.Machine
end

section
/-! SUPPORT. FrameStartBeginsJob: the render begin part by part, the panel unit's frame start, and the statement. -/

namespace Sys2Proof.Machine

/-! ### The panel unit's own frame start -/

theorem PanelRecord.frameStart_eq (r : PanelRecord) : r.frameStart =
    { r with curve := r.pendingCurve.getD r.curve, pendingCurve := none, target := r.frameStart.target,
             applied := r.frameStart.applied } := by
  unfold PanelRecord.frameStart
  dsimp only
  split <;> rfl

theorem PanelRecord.frameStart_disabled {r : PanelRecord} (h : r.installed.enable = false) :
    r.frameStart = { r with curve := r.pendingCurve.getD r.curve, pendingCurve := none } := by
  simp only [PanelRecord.frameStart, h, Bool.false_eq_true, if_false]

theorem PanelUnit.beginConversion_panels (u : PanelUnit) : u.beginConversion.panels = u.panels := by
  unfold PanelUnit.beginConversion
  split
  · rfl
  · split <;> rfl

theorem PanelUnit.panels_frameStart (u : PanelUnit) (p : Fin 4) : u.frameStart.panels[p] = (u.panels[p]).frameStart := by
  unfold PanelUnit.frameStart
  rw [PanelUnit.beginConversion_panels]
  match p with
  | 0 => rfl
  | 1 => rfl
  | 2 => rfl
  | 3 => rfl

/-- A frame start and an installation of settings, in either order, at one panel. -/
def PanelRecord.started (r : PanelRecord) (panelFirst : Bool) : PanelRecord :=
  if panelFirst then r.frameStart.settled else r.settled.frameStart

section
variable (r : PanelRecord) (panelFirst : Bool)

theorem PanelRecord.next_frameStart : r.frameStart.next = r.next := by
  unfold PanelRecord.next
  rw [PanelRecord.frameStart_eq]

theorem PanelRecord.goesOff_frameStart : r.frameStart.goesOff = r.goesOff := by
  rw [PanelRecord.goesOff, PanelRecord.next_frameStart, PanelRecord.frameStart_eq]
  rfl

theorem PanelRecord.started_eq : r.started panelFirst =
    { r with installed := r.next, pendingSettings := none, curve := r.pendingCurve.getD r.curve, pendingCurve := none,
             target := (r.started panelFirst).target, applied := (r.started panelFirst).applied } := by
  cases panelFirst with
  | true =>
    show r.frameStart.settled = { r with
      installed := r.next, pendingSettings := none, curve := r.pendingCurve.getD r.curve, pendingCurve := none,
      target := r.frameStart.settled.target, applied := r.frameStart.settled.applied }
    unfold PanelRecord.settled
    rw [PanelRecord.next_frameStart, PanelRecord.frameStart_eq]
  | false =>
    show r.settled.frameStart = { r with
      installed := r.next, pendingSettings := none, curve := r.pendingCurve.getD r.curve, pendingCurve := none,
      target := r.settled.frameStart.target, applied := r.settled.frameStart.applied }
    rw [PanelRecord.frameStart_eq]
    rfl

theorem PanelRecord.started_off (h : r.goesOff = true) :
    (r.started panelFirst).target = 0 ∧ (r.started panelFirst).applied = 0 := by
  cases panelFirst with
  | true =>
    show r.frameStart.settled.target = 0 ∧ r.frameStart.settled.applied = 0
    have hoff : r.frameStart.goesOff = true := (r.goesOff_frameStart).trans h
    exact ⟨if_pos hoff, if_pos hoff⟩
  | false =>
    have hdisabled : r.settled.installed.enable = false := by
      simp only [PanelRecord.goesOff, Bool.and_eq_true, Bool.not_eq_true'] at h
      exact h.2
    show r.settled.frameStart.target = 0 ∧ r.settled.frameStart.applied = 0
    rw [PanelRecord.frameStart_disabled hdisabled]
    exact ⟨if_pos h, if_pos h⟩

end

/-! ### The exchange (R118) -/

theorem State.outputs_exchange (s : State) (p : Fin 4) :
    s.exchange.engine.outputs[p] = (s.engine.outputs[p]).exchange (s.enabled p) := by
  match p with
  | 0 => rfl
  | 1 => rfl
  | 2 => rfl
  | 3 => rfl

/-- What a frame start with no job running comes to: the exchange, the render begin, and the panel unit's part before or
after them. -/
theorem execFrameStart_idle {s : State} (hl : s.nva.loading = false) (hj : s.engine.job = .idle) (panelFirst : Bool) :
    ∃ e : FrameEngine,
      e = { s.engine with rate := s.engine.nextRate, outputs := e.outputs } ∧
      (∀ p : Fin 4, e.outputs[p] = (s.engine.outputs[p]).exchange s.panel.panels[p].installed.enable) ∧
      exec (.frameStart panelFirst) s = .next (if panelFirst then (s.framed e s.panel.frameStart).renderBegin
        else (s.framed e s.panel).renderBegin.panelStart) := by
  cases panelFirst with
  | true =>
    refine ⟨s.startPeriod.panelStart.exchange.engine, rfl, fun p => ?_, ?_⟩
    · rw [State.outputs_exchange]
      have : s.startPeriod.panelStart.enabled p = s.panel.panels[p].installed.enable := by
        show (s.panel.frameStart.panels[p]).installed.enable = _
        rw [PanelUnit.panels_frameStart, PanelRecord.frameStart_eq]
      rw [this]
      rfl
    · have hstart : s.startPeriod.panelStart.engineStart = s.startPeriod.panelStart.exchange.renderBegin := by
        unfold State.engineStart
        rw [State.panelStart_nva, State.startPeriod_nva, hl, State.panelStart_engine, State.startPeriod_engine, hj]
        rfl
      have hframe : s.startPeriod.panelStart.exchange =
          s.framed s.startPeriod.panelStart.exchange.engine s.panel.frameStart := rfl
      have hexec : exec (.frameStart true) s = .next s.startPeriod.panelStart.engineStart := rfl
      rw [hexec, hstart, if_pos rfl, ← hframe]
  | false =>
    refine ⟨s.startPeriod.exchange.engine, rfl, fun p => ?_, ?_⟩
    · exact State.outputs_exchange ..
    · have hstart : s.startPeriod.engineStart = s.startPeriod.exchange.renderBegin := by
        unfold State.engineStart
        rw [State.startPeriod_nva, hl, State.startPeriod_engine, hj]
        rfl
      have hframe : s.startPeriod.exchange = s.framed s.startPeriod.exchange.engine s.panel := rfl
      have hexec : exec (.frameStart false) s = .next s.startPeriod.engineStart.panelStart := rfl
      rw [hexec, hstart, if_neg (by decide), ← hframe]

/-! ### The render begin (R121) -/

/-- The state of a render begin once the commit, the availabilities and the daypart are done. -/
def State.dataBegun (s : State) : State := s.applyCommit.applyPendingAvail.fixDaypart

/-- The state of a render begin before its job starts. -/
def State.begun (s : State) : State := s.dataBegun.installStyles.exchangeScenes.installAllSettings

section
variable (s : State)

theorem State.renderBegin_begun : s.renderBegin = s.begun.startJob := rfl

theorem State.begun_eq : s.begun = { s.dataBegun with
    former := s.dataBegun.installStyles.exchangeScenes.former,
    assets := s.dataBegun.installStyles.exchangeScenes.assets,
    scenes := s.dataBegun.installStyles.exchangeScenes.scenes,
    panel := s.dataBegun.panel.settled, engine := { s.dataBegun.engine with outputs := s.begun.engine.outputs } } := by
  unfold State.begun
  obtain ⟨hpanel, -, hengine⟩ := s.dataBegun.installStyles.exchangeScenes.installAllSettings_leaves
  have hall := s.dataBegun.installStyles.exchangeScenes.installAllSettings_eq
  have hscenes := s.dataBegun.installStyles.exchangeScenes_eq
  have hstyles := s.dataBegun.installStyles_eq
  have hy : s.dataBegun.installStyles.exchangeScenes = { s.dataBegun with
      former := s.dataBegun.installStyles.exchangeScenes.former,
      assets := s.dataBegun.installStyles.exchangeScenes.assets,
      scenes := s.dataBegun.installStyles.exchangeScenes.scenes } := by
    generalize s.dataBegun.installStyles.exchangeScenes = y at *
    generalize s.dataBegun.installStyles = x at *
    rw [hscenes, hstyles]
  generalize s.dataBegun.installStyles.exchangeScenes.installAllSettings = z at *
  generalize s.dataBegun.installStyles.exchangeScenes = y at *
  rw [hall, hpanel, hengine, hy]

theorem State.dataBegun_eq : s.dataBegun = { s.applyCommit with
    table := s.applyCommit.applyPendingAvail.table,
    daypart := { s.applyCommit.daypart with live := s.applyCommit.daypart.choose s.applyCommit.table.rules },
    link := { s.applyCommit.link with summary := s.dataBegun.link.summary },
    port := { s.applyCommit.port with summary := s.dataBegun.port.summary, armed := s.dataBegun.port.armed,
                                      messages := s.dataBegun.port.messages } } := by
  have hrules : s.applyCommit.applyPendingAvail.table.rules = s.applyCommit.table.rules := by
    unfold State.applyPendingAvail
    rw [PriceTable.applyAvails_eq]
  have heq := s.applyCommit.applyPendingAvail.fixDaypart_eq
  obtain ⟨hlink, hport⟩ := s.applyCommit.applyPendingAvail.fixDaypart_ports
  change s.dataBegun = _ at heq
  change s.dataBegun.link = _ at hlink
  change s.dataBegun.port = _ at hport
  rw [hrules, show s.applyCommit.applyPendingAvail.fixDaypart = s.dataBegun from rfl, hlink, hport] at heq
  exact heq

end

end Sys2Proof.Machine
end

section
/-! SUPPORT. FrameStartBeginsJob: what a render begin leaves of each block, the outputs, and the statement. -/

namespace Sys2Proof.Machine

/-! ### Block by block -/

/-- What a render begin over a state with a given frame engine and panel unit leaves. -/
structure State.Begins (s : State) (e : FrameEngine) (u : PanelUnit) (t : State) : Prop where
  table : t.table = s.applyCommit.applyPendingAvail.table
  stager : t.stager = s.applyCommit.stager
  nva : t.nva = s.applyCommit.nva
  checker : t.checker = s.applyCommit.checker
  daypart : t.daypart = { s.daypart with live := s.daypart.choose s.applyCommit.table.rules }
  pos : ∀ fl, t.posFlag fl = (s.applyCommit.posFlag fl ||
    (decide (fl = .daypartChanged) && !decide (s.daypart.choose s.applyCommit.table.rules = s.daypart.live)))
  content : ∀ fl, t.contentFlag fl = (s.applyCommit.contentFlag fl ||
    (decide (fl = .daypartChanged) && !decide (s.daypart.choose s.applyCommit.table.rules = s.daypart.live)))
  styles : ∀ i : Fin 16, t.former.styles[i] = (s.former.styles[i]).settled
  scenes : ∀ p : Fin 4, t.scenes.panels[p] = (s.scenes.panels[p]).settled
  entries : ∀ h, t.assets.entry h = (s.assets.entry h).afterReleases (s.replacedNames.count h)
  assets : t.assets = { s.assets with entries := t.assets.entries }
  panel : t.panel = u.settled
  outputs : ∀ p : Fin 4, t.engine.outputs[p] = (u.panels[p]).output e.outputs[p]
  engine : t.engine = { e with shown := [], outputs := t.engine.outputs, job := .compose (t.panelFrom 0) }
  link : t.link = { s.link with summary := t.link.summary }
  port : t.port = { s.port with summary := t.port.summary, armed := t.port.armed, messages := t.port.messages }
  draws : t.draws = s.draws
  pending : t.pending = s.pending

theorem State.applyPendingAvail_rules (s : State) : s.applyPendingAvail.table.rules = s.table.rules := by
  unfold State.applyPendingAvail
  rw [PriceTable.applyAvails_eq]

theorem State.applyPendingAvail_promos (s : State) : s.applyPendingAvail.table.promos = s.table.promos := by
  unfold State.applyPendingAvail
  rw [PriceTable.applyAvails_eq]

theorem State.outputs_installAllSettings (s : State) (q : Fin 4) :
    s.installAllSettings.engine.outputs[q] = (s.panel.panels[q]).output s.engine.outputs[q] := by
  obtain ⟨-, houtputs, -⟩ := s.installAllSettings_leaves
  exact houtputs q

/-- Styles and scenes installed leave the panels and the engine. -/
theorem State.installed_frame (s : State) : s.installStyles.exchangeScenes.panel = s.panel ∧
    s.installStyles.exchangeScenes.engine = s.engine := by
  have hscenes := s.installStyles.exchangeScenes_eq
  have hstyles := s.installStyles_eq
  generalize s.installStyles.exchangeScenes = y at *
  generalize s.installStyles = x at *
  rw [hscenes, hstyles]
  exact ⟨rfl, rfl⟩

section
variable (s : State) (e : FrameEngine) (u : PanelUnit)

/-- The part of a render begin before styles, scenes and settings, over a framed state. -/
theorem State.dataBegun_framed : (s.framed e u).dataBegun = (s.applyCommit.applyPendingAvail.framed e u).fixDaypart := by
  unfold State.dataBegun
  rw [State.applyCommit_framed]
  rfl

theorem State.dataBegun_flags :
    (∀ fl, (s.framed e u).dataBegun.posFlag fl = (s.applyCommit.posFlag fl ||
      (decide (fl = .daypartChanged) && !decide (s.daypart.choose s.applyCommit.table.rules = s.daypart.live)))) ∧
    (∀ fl, (s.framed e u).dataBegun.contentFlag fl = (s.applyCommit.contentFlag fl ||
      (decide (fl = .daypartChanged) && !decide (s.daypart.choose s.applyCommit.table.rules = s.daypart.live)))) := by
  have hday : s.applyCommit.daypart = s.daypart := by rw [s.applyCommit_commits.eq]
  have hd : (s.applyCommit.applyPendingAvail.framed e u).daypart = s.daypart := hday
  have hr : (s.applyCommit.applyPendingAvail.framed e u).table.rules = s.applyCommit.table.rules :=
    s.applyCommit.applyPendingAvail_rules
  rw [State.dataBegun_framed]
  refine ⟨fun fl => ?_, fun fl => ?_⟩
  · rw [State.posFlag_fixDaypart, hd, hr]
    rfl
  · rw [State.contentFlag_fixDaypart, hd, hr]
    rfl

/-- What the same part leaves of the blocks it changes. -/
theorem State.dataBegun_blocks : (s.framed e u).dataBegun = { s with
    table := s.applyCommit.applyPendingAvail.table, stager := s.applyCommit.stager, nva := s.applyCommit.nva,
    checker := s.applyCommit.checker, daypart := { s.daypart with live := s.daypart.choose s.applyCommit.table.rules },
    engine := e, panel := u,
    link := { s.link with summary := (s.framed e u).dataBegun.link.summary },
    port := { s.port with summary := (s.framed e u).dataBegun.port.summary, armed := (s.framed e u).dataBegun.port.armed,
                          messages := (s.framed e u).dataBegun.port.messages } } := by
  have heq := (s.framed e u).dataBegun_eq
  rw [State.applyCommit_framed] at heq
  have htable : (s.applyCommit.framed e u).applyPendingAvail.table = s.applyCommit.applyPendingAvail.table := rfl
  rw [htable] at heq
  have hcommits := s.applyCommit_commits.eq
  generalize s.applyCommit.applyPendingAvail.table = t at *
  generalize (s.framed e u).dataBegun = x at *
  generalize s.applyCommit = a at *
  rw [heq, hcommits]
  rfl

theorem State.renderBegin_begins : s.Begins e u (s.framed e u).renderBegin := by
  have hbegun := (s.framed e u).begun_eq
  have hblocks := s.dataBegun_blocks e u
  obtain ⟨hpos, hcontent⟩ := s.dataBegun_flags e u
  have hformer : (s.framed e u).dataBegun.former = s.former := by rw [hblocks]
  have hscenes : (s.framed e u).dataBegun.scenes = s.scenes := by rw [hblocks]
  have hassets : (s.framed e u).dataBegun.assets = s.assets := by rw [hblocks]
  have hpanel : (s.framed e u).dataBegun.panel = u := by rw [hblocks]
  have hengine : (s.framed e u).dataBegun.engine = e := by rw [hblocks]
  have hnames : (s.framed e u).dataBegun.replacedNames = s.replacedNames := by
    unfold State.replacedNames
    rw [hformer, hscenes]
  have hstyles := (s.framed e u).dataBegun.styles_installed
  have hactive := (s.framed e u).dataBegun.scenes_installed
  obtain ⟨hentries, hentriesOnly⟩ := (s.framed e u).dataBegun.assets_installed
  have houtputs : ∀ p : Fin 4, (s.framed e u).begun.engine.outputs[p] = (u.panels[p]).output e.outputs[p] := by
    intro p
    obtain ⟨hp, he⟩ := (s.framed e u).dataBegun.installed_frame
    unfold State.begun
    rw [State.outputs_installAllSettings, hp, he, hpanel, hengine]
  rw [hformer] at hstyles
  rw [hscenes] at hactive
  rw [hassets, hnames] at hentries
  rw [hassets] at hentriesOnly
  rw [hpanel, hengine] at hbegun
  rw [State.renderBegin_begun]
  generalize (s.framed e u).dataBegun.installStyles.exchangeScenes = y at *
  generalize (s.framed e u).dataBegun = x at *
  generalize (s.framed e u).begun = b at *
  have hlink : b.link = x.link := by rw [hbegun]
  have hport : b.port = x.port := by rw [hbegun]
  exact {
    table := by rw [State.startJob_table, hbegun, hblocks]
    stager := by rw [State.startJob_stager, hbegun, hblocks]
    nva := by rw [State.startJob_nva, hbegun, hblocks]
    checker := by rw [State.startJob_checker, hbegun, hblocks]
    daypart := by rw [State.startJob_daypart, hbegun, hblocks]
    pos := fun fl => (State.posFlag_congr (congrArg PosLink.summary hlink) fl).trans (hpos fl)
    content := fun fl => (State.contentFlag_congr (congrArg ContentPort.summary hport) fl).trans (hcontent fl)
    styles := fun i => by rw [State.startJob_former, hbegun, ← hstyles i]
    scenes := fun p => by rw [State.startJob_scenes, hbegun, ← hactive p]
    entries := fun h => by rw [State.startJob_assets, hbegun, ← hentries h]
    assets := by
      rw [State.startJob_assets, hbegun]
      exact hentriesOnly
    panel := by rw [State.startJob_panel, hbegun]
    outputs := houtputs
    engine := by
      have hb : b.engine = { e with outputs := b.engine.outputs } := by rw [hbegun]
      have hfrom : b.startJob.panelFrom 0 = b.panelFrom 0 := rfl
      rw [hfrom, State.startJob_engine]
      dsimp only
      generalize b.panelFrom 0 = j
      rw [hb]
    link := by rw [State.startJob_link, hbegun, hblocks]
    port := by rw [State.startJob_port, hbegun, hblocks]
    draws := by rw [State.startJob_draws, hbegun, hblocks]
    pending := by rw [State.startJob_pending, hbegun, hblocks] }

end

end Sys2Proof.Machine
end

section
/-! SUPPORT. FrameStartBeginsJob: the outputs, the first fill, and the statement assembled from the blocks. -/

namespace Sys2Proof.Machine

/-! ### Outputs (R118, R121) -/

/-- The output of a panel after the exchange and the installation. -/
theorem PanelRecord.output_exchange (r : PanelRecord) (o : PanelOutput) :
    r.output (o.exchange r.installed.enable) =
      if r.installed.enable then { frontOdd := !o.frontOdd,
                                   showing := r.next.enable && decide (r.next.resolution = r.installed.resolution) }
      else o := by
  unfold PanelRecord.output PanelOutput.exchange PanelSettings.blanks
  have hsymm : decide (r.installed.resolution = r.next.resolution) = decide (r.next.resolution = r.installed.resolution) :=
    decide_eq_decide.2 eq_comm
  rw [hsymm]
  cases r.installed.enable with
  | false => rfl
  | true =>
    cases r.next.enable with
    | false => rfl
    | true => cases decide (r.next.resolution = r.installed.resolution) <;> rfl

/-- The output of a panel depends on its installed and its next settings alone. -/
theorem PanelRecord.output_congr {r r' : PanelRecord} (hi : r'.installed = r.installed) (hn : r'.next = r.next)
    (o : PanelOutput) : r'.output o = r.output o := by
  unfold PanelRecord.output
  rw [hi, hn]

/-- The buffer exchanged to the front is the back buffer of before. -/
theorem FrameEngine.frontIndex_exchanged {e f : FrameEngine} {p : Fin 4}
    (h : f.outputs[p].frontOdd = !e.outputs[p].frontOdd) : f.frontIndex p = e.backIndex p := by
  apply Fin.ext
  show 2 * p.val + (if f.outputs[p].frontOdd then 1 else 0) = 2 * p.val + (if e.outputs[p].frontOdd then 0 else 1)
  rw [h]
  cases e.outputs[p].frontOdd <;> rfl

section
variable {s t : State} {p : Fin 4} {x y : Nat}

/-- A panel shows black while its output is BLANK. -/
theorem State.outputPixel_blank (hx : x < (t.clip p).width) (hy : y < (t.clip p).height)
    (h : t.engine.outputs[p].showing = false) : t.outputPixel p x y = some Rgb.black := by
  unfold State.outputPixel
  rw [if_pos ⟨hx, hy⟩, h]
  rfl

/-- A panel whose buffers have been exchanged shows what was composed into its back buffer. -/
theorem State.outputPixel_exchanged (hx : x < (t.clip p).width) (hy : y < (t.clip p).height)
    (h : t.engine.outputs[p].showing = true) (hodd : t.engine.outputs[p].frontOdd = !s.engine.outputs[p].frontOdd)
    (hb : t.engine.buffers = s.engine.buffers) :
    t.outputPixel p x y = some (s.engine.buffers[s.engine.backIndex p].read x y) := by
  unfold State.outputPixel
  rw [if_pos ⟨hx, hy⟩, h]
  simp only [FrameEngine.frontIndex_exchanged hodd, hb, if_true]

end

/-! ### The first fill (R122) -/

theorem State.panelFrom_zero {t : State} {p : Fin 4} (hp : t.enabled p = true)
    (hbelow : ∀ j : Fin 4, j.val < p.val → t.enabled j = false) : t.panelFrom 0 = .fill p := by
  have hfind : (List.finRange 4).find? (fun q => decide (0 ≤ q.val) && t.enabled q) = some p := by
    refine List.find?_eq_some_iff_getElem.2 ⟨by simp [hp], p.val, by simp, by simp, fun j hj => ?_⟩
    simpa using hbelow ⟨j, hj.trans p.isLt⟩ hj
  simp only [State.panelFrom, hfind]

theorem State.panelFrom_none {t : State} (h : ∀ p : Fin 4, t.enabled p = false) : t.panelFrom 0 = .finished := by
  have hfind : (List.finRange 4).find? (fun q => decide (0 ≤ q.val) && t.enabled q) = none := by
    refine List.find?_eq_none.2 fun q _ => ?_
    simp [h q]
  simp only [State.panelFrom, hfind]

/-! ### The panel unit over both orders -/

/-- A frame start and an installation of settings, in either order. -/
def PanelUnit.started (u : PanelUnit) (panelFirst : Bool) : PanelUnit :=
  if panelFirst then u.frameStart.settled else u.settled.frameStart

theorem PanelUnit.panels_started (u : PanelUnit) (panelFirst : Bool) (p : Fin 4) :
    (u.started panelFirst).panels[p] = (u.panels[p]).started panelFirst := by
  cases panelFirst with
  | true =>
    show u.frameStart.settled.panels[p] = (u.panels[p]).frameStart.settled
    rw [PanelUnit.panels_settled, PanelUnit.panels_frameStart]
  | false =>
    show u.settled.frameStart.panels[p] = (u.panels[p]).settled.frameStart
    rw [PanelUnit.panels_frameStart, PanelUnit.panels_settled]

/-- With no settings pending the installation changes nothing. -/
theorem PanelUnit.settled_none {u : PanelUnit} (h : ∀ p : Fin 4, u.panels[p].pendingSettings = none) : u.settled = u := by
  have hpanels : Vector.ofFn (fun p : Fin 4 => (u.panels[p]).settled) = u.panels :=
    Vector.ext fun i hi => (Vector.getElem_ofFn hi).trans (PanelRecord.settled_none (h ⟨i, hi⟩))
  have hconv : u.conversion.map (fun c =>
      { c with discard := c.discard || (u.panels[channelPanel c.channel]).goesOff }) = u.conversion := by
    have hid : (fun c : Conversion => { c with discard := c.discard || (u.panels[channelPanel c.channel]).goesOff }) = id :=
      funext fun c => by
        rw [PanelRecord.goesOff_none (h _), Bool.or_false]
        rfl
    rw [hid, Option.map_id_fun, id]
  unfold PanelUnit.settled
  rw [hpanels, hconv]

/-- The installed settings of a panel after its part of a frame start. -/
theorem PanelRecord.started_installed (r : PanelRecord) (panelFirst : Bool) : (r.started panelFirst).installed = r.next := by
  rw [PanelRecord.started_eq]

/-! ### The statement -/

/-- The state that a frame start with no job running ends in. -/
theorem frameStart_begins {s : State} (hl : s.nva.loading = false) (hj : s.engine.job = .idle) (panelFirst : Bool) :
    ∃ e r, exec (.frameStart panelFirst) s = .next { r with panel := s.panel.started panelFirst } ∧
      e = { s.engine with rate := s.engine.nextRate, outputs := e.outputs } ∧
      s.Begins e (if panelFirst then s.panel.frameStart else s.panel) r ∧
      (∀ p : Fin 4, r.engine.outputs[p] = if s.panel.panels[p].installed.enable then
        { frontOdd := !s.engine.outputs[p].frontOdd,
          showing := (s.panel.panels[p]).next.enable &&
            decide ((s.panel.panels[p]).next.resolution = s.panel.panels[p].installed.resolution) }
        else s.engine.outputs[p]) := by
  obtain ⟨e, he, houtputs, hexec⟩ := execFrameStart_idle hl hj panelFirst
  have hbegins := s.renderBegin_begins e (if panelFirst then s.panel.frameStart else s.panel)
  refine ⟨e, _, ?_, he, hbegins, fun p => ?_⟩
  · cases panelFirst with
    | true =>
      refine hexec.trans (congrArg Host.Outcome.next ?_)
      have hpanel := hbegins.panel
      simp only [if_true] at hpanel ⊢
      generalize (s.framed e s.panel.frameStart).renderBegin = r at *
      show r = { r with panel := s.panel.frameStart.settled }
      rw [← hpanel]
    | false =>
      refine hexec.trans (congrArg Host.Outcome.next ?_)
      have hpanel := hbegins.panel
      simp only [Bool.false_eq_true, if_false] at hpanel ⊢
      generalize (s.framed e s.panel).renderBegin = r at *
      show { r with panel := r.panel.frameStart } = { r with panel := s.panel.settled.frameStart }
      rw [hpanel]
  · have hinstalled : ((if panelFirst then s.panel.frameStart else s.panel).panels[p]).installed =
        (s.panel.panels[p]).installed := by
      cases panelFirst with
      | true =>
        show (s.panel.frameStart.panels[p]).installed = _
        rw [PanelUnit.panels_frameStart, PanelRecord.frameStart_eq]
      | false => rfl
    have hnext : ((if panelFirst then s.panel.frameStart else s.panel).panels[p]).next = (s.panel.panels[p]).next := by
      cases panelFirst with
      | true =>
        show (s.panel.frameStart.panels[p]).next = _
        rw [PanelUnit.panels_frameStart, PanelRecord.next_frameStart]
      | false => rfl
    rw [hbegins.outputs, houtputs, PanelRecord.output_congr hinstalled hnext, PanelRecord.output_exchange]

/-- Settles O32: the frame start as a render begin over the exchanged outputs, then each clause from its block. -/
theorem frameStartBeginsJob : Obligations.FrameStartBeginsJob := by
  unfold Obligations.FrameStartBeginsJob
  intro s panelFirst hl hj
  obtain ⟨e, r, hexec, he, hb, hout⟩ := frameStart_begins hl hj panelFirst
  have hpanels := s.panel.panels_started panelFirst
  have hinstalled : ∀ p : Fin 4, ((s.panel.started panelFirst).panels[p]).installed = (s.panel.panels[p]).next :=
    fun p => by rw [hpanels, PanelRecord.started_installed]
  have hbuffers : r.engine.buffers = s.engine.buffers := by rw [hb.engine, he]
  have henabled : ∀ p : Fin 4, r.enabled p = ((s.panel.started panelFirst).panels[p]).installed.enable := by
    intro p
    show (r.panel.panels[p]).installed.enable = _
    rw [hb.panel, PanelUnit.panels_settled, hinstalled]
    cases panelFirst with
    | true =>
      show ((s.panel.frameStart.panels[p]).next).enable = _
      rw [PanelUnit.panels_frameStart, PanelRecord.next_frameStart]
    | false => rfl
  have hjob : r.engine.job = .compose (r.panelFrom 0) := by rw [hb.engine]
  refine ⟨_, hexec, ⟨hb.stager, hb.nva, hb.checker, ?_, ?_, ?_⟩, fun hitems hrising i => ?_, hb.daypart, fun f hf => ?_,
    fun hf ht => ?_, fun m hf ht hv => DaypartUnit.choose_scheduled hf ht hv, fun hne => ⟨?_, ?_⟩, hb.pos, hb.content,
    fun c hc hp => ⟨?_, ?_⟩, hb.styles, hb.scenes, fun p => ⟨?_, fun hon hoff => ?_, hout p⟩, fun hnone => ?_, ?_,
    fun p x y hx hy => ⟨fun hon hkeep hres => ?_, fun hon hblank => ?_, fun hoff hdark => ?_⟩, hbuffers, hb.entries, ?_,
    fun p hp hbelow => ?_, fun hnone => ?_, hb.assets, hb.link, hb.port, hb.draws, hb.pending⟩
  · exact (congrArg PriceTable.promos hb.table).trans (State.applyPendingAvail_promos _)
  · exact (congrArg PriceTable.rules hb.table).trans (State.applyPendingAvail_rules _)
  · exact congrArg PriceTable.pendingAvail hb.table
  · exact (congrArg (fun t : PriceTable => t.item i) hb.table).trans (hitems.item_applyAvails hrising i)
  · simp only [DaypartUnit.choose, hf]
  · simp only [DaypartUnit.choose, hf, ht]
  · refine (hb.pos _).trans ?_
    simp [hne]
  · refine (hb.content _).trans ?_
    simp [hne]
  · refine (hb.pos _).trans ?_
    rw [State.applyCommit_pending hc hp, State.posFlag_commitEnded]
    simp
  · refine (hb.content _).trans ?_
    rw [State.applyCommit_pending hc hp, State.contentFlag_commitEnded]
    simp
  · show (s.panel.started panelFirst).panels[p] = _
    rw [hpanels]
    exact PanelRecord.started_eq _ panelFirst
  · have hgoes : (s.panel.panels[p]).goesOff = true := by
      rw [PanelRecord.goesOff, hon, Bool.true_and, Bool.not_eq_true']
      exact hoff
    obtain ⟨htarget, happlied⟩ := PanelRecord.started_off _ panelFirst hgoes
    rw [← hpanels] at htarget happlied
    exact ⟨htarget, happlied⟩
  · show s.panel.started panelFirst = s.panel.frameStart
    cases panelFirst with
    | true =>
      refine PanelUnit.settled_none fun p => ?_
      rw [PanelUnit.panels_frameStart, PanelRecord.frameStart_eq]
      exact hnone p
    | false => exact congrArg PanelUnit.frameStart (PanelUnit.settled_none hnone)
  · rfl
  · have hshow := hout p
    rw [if_pos hon] at hshow
    refine State.outputPixel_exchanged hx hy ?_ ?_ hbuffers
    · refine (congrArg PanelOutput.showing hshow).trans ?_
      simp only [Bool.and_eq_true, decide_eq_true_eq]
      exact ⟨hkeep, hres⟩
    · exact congrArg PanelOutput.frontOdd hshow
  · have hshow := hout p
    rw [if_pos hon] at hshow
    refine State.outputPixel_blank hx hy ((congrArg PanelOutput.showing hshow).trans ?_)
    rcases hblank with hoff | hres
    · exact (congrArg (· && _) hoff).trans (Bool.false_and _)
    · exact (congrArg (_ && ·) (decide_eq_false hres)).trans (Bool.and_false _)
  · have hshow := hout p
    rw [if_neg (by rw [hoff]; decide)] at hshow
    exact State.outputPixel_blank hx hy ((congrArg PanelOutput.showing hshow).trans hdark)
  · have heng := hb.engine
    show r.engine = { s.engine with
      rate := s.engine.nextRate, shown := [], outputs := r.engine.outputs, job := r.engine.job }
    rw [hjob]
    rw [he] at heng
    exact heng
  · show r.engine.job = _
    rw [hjob, State.panelFrom_zero ((henabled p).trans hp) fun j hj => (henabled j).trans (hbelow j hj)]
  · show r.engine.job = _
    rw [hjob, State.panelFrom_none fun p => (henabled p).trans (hnone p)]

end Sys2Proof.Machine
end

section
/-! SUPPORT. LoadFillsTableFromArray: how a slot and the journal are classed, and what the array is found to hold. -/

namespace Sys2Proof.Machine

/-! ### The words of a slot (R52) -/

section
variable {v : NvSlot}

theorem NvSlot.read_erased (h : ∀ w ∈ [v.word0, v.word1, v.word2], w = .erased) : v.read = .erased := by
  have hall : [v.word0, v.word1, v.word2].all (fun w => decide (w = .erased)) = true :=
    List.all_eq_true.2 fun w hw => decide_eq_true (h w hw)
  unfold NvSlot.read
  dsimp only
  rw [if_pos hall]

theorem NvSlot.read_ded (hsome : ∃ w ∈ [v.word0, v.word1, v.word2], w ≠ .erased)
    (hbad : ∃ w ∈ [v.word0, v.word1, v.word2], w = .erased ∨ w = .ded) : v.read = .ded := by
  obtain ⟨w, hw, hne⟩ := hsome
  obtain ⟨x, hx, hb⟩ := hbad
  have hall : ¬ [v.word0, v.word1, v.word2].all (fun w => decide (w = .erased)) = true := fun h =>
    hne (of_decide_eq_true (List.all_eq_true.1 h w hw))
  have hany : [v.word0, v.word1, v.word2].any (fun w => decide (w = .ded) || decide (w = .erased)) = true :=
    List.any_eq_true.2 ⟨x, hx, by rcases hb with rfl | rfl <;> decide⟩
  unfold NvSlot.read
  dsimp only
  rw [if_neg hall, if_pos hany]

/-- R52: three words that read, corrected or not. -/
theorem NvSlot.read_sound (h : ∀ w ∈ [v.word0, v.word1, v.word2], w = .clean ∨ w = .sec) :
    (v.read = .clean ∨ v.read = .sec) ∧ (v.read = .sec ↔ ∃ w ∈ [v.word0, v.word1, v.word2], w = .sec) := by
  have hall : ¬ [v.word0, v.word1, v.word2].all (fun w => decide (w = .erased)) = true := fun he => by
    have := of_decide_eq_true (List.all_eq_true.1 he v.word0 (by simp))
    rcases h v.word0 (by simp) with hc | hc <;> exact absurd (hc.symm.trans this) (by decide)
  have hany : ¬ [v.word0, v.word1, v.word2].any (fun w => decide (w = .ded) || decide (w = .erased)) = true := fun he => by
    obtain ⟨w, hw, hb⟩ := List.any_eq_true.1 he
    rcases h w hw with rfl | rfl <;> exact absurd hb (by decide)
  have hread : v.read = if [v.word0, v.word1, v.word2].any (fun w => decide (w = .sec)) then .sec else .clean := by
    unfold NvSlot.read
    dsimp only
    rw [if_neg hall, if_neg hany]
  have hsec : [v.word0, v.word1, v.word2].any (fun w => decide (w = .sec)) = true ↔
      ∃ w ∈ [v.word0, v.word1, v.word2], w = .sec := by
    simp only [List.any_eq_true, decide_eq_true_eq]
  rw [hread, ← hsec]
  cases [v.word0, v.word1, v.word2].any (fun w => decide (w = .sec)) <;> simp

end

/-! ### The conditions of each kind of record (R1, R4, R6, R43) -/

theorem ItemBody.valid_iff {b : ItemBody} : b.valid = true ↔
    (∃ d : Daypart, b.price[d] ≠ none) ∧ (∀ (d : Daypart) q, b.price[d] = some q → q ≤ 999999) ∧
      ∀ j, b.promo = some j → j < 32 := by
  have hprice : ∀ p : Option Nat, validPrice p = true ↔ ∀ q, p = some q → q ≤ 999999 := by
    intro p
    cases p with
    | none => simp [validPrice]
    | some v => exact ⟨fun h q hq => Option.some.inj hq ▸ of_decide_eq_true h, fun h => decide_eq_true (h v rfl)⟩
  have hpromo : b.promo.all (fun i => decide (i < 32)) = true ↔ ∀ j, b.promo = some j → j < 32 := by
    cases b.promo <;> simp
  have hall : (∀ (d : Daypart) q, b.price[d] = some q → q ≤ 999999) ↔
      (∀ q, b.price[0] = some q → q ≤ 999999) ∧ (∀ q, b.price[1] = some q → q ≤ 999999) ∧
        (∀ q, b.price[2] = some q → q ≤ 999999) ∧ ∀ q, b.price[3] = some q → q ≤ 999999 := by
    rw [Fin.forall_fin_succ, Fin.forall_fin_succ, Fin.forall_fin_two]
    rfl
  have hsome : (∃ d : Daypart, b.price[d] ≠ none) ↔
      b.price[0] ≠ none ∨ b.price[1] ≠ none ∨ b.price[2] ≠ none ∨ b.price[3] ≠ none := by
    rw [Fin.exists_fin_succ, Fin.exists_fin_succ, Fin.exists_fin_two]
    rfl
  rw [hall, hsome, ← hpromo, ItemBody.valid]
  simp only [Bool.and_eq_true, Bool.or_eq_true, hprice, Option.isSome_iff_ne_none, or_assoc, and_assoc]

theorem Rules.valid_iff {r : Rules} : r.valid = true ↔ r.taxRate ≤ 2500 ∧ r.step ∈ [1, 2, 5, 10, 25, 50, 100] := by
  simp only [Rules.valid, Bool.and_eq_true, decide_eq_true_eq, List.contains_iff_mem]
  rfl

theorem startsRising_iff {es : List ScheduleEntry} : startsRising none es = true ↔
    (∀ e ∈ es, e.start < 1440) ∧ es.Pairwise (fun a b => a.start < b.start) := by
  have general : ∀ (es : List ScheduleEntry) (low : Option Nat), startsRising low es = true ↔
      (∀ e ∈ es, e.start < 1440) ∧ es.Pairwise (fun a b => a.start < b.start) ∧
        ∀ l, low = some l → ∀ e ∈ es, l < e.start := by
    intro es
    induction es with
    | nil => simp [startsRising]
    | cons e rest ih =>
      intro low
      have hlow : low.all (fun l => decide (l < e.start)) = true ↔ ∀ l, low = some l → l < e.start := by
        cases low <;> simp
      simp only [startsRising, Bool.and_eq_true, decide_eq_true_eq, hlow, ih, List.forall_mem_cons, List.pairwise_cons]
      constructor
      · rintro ⟨⟨hlt, hl⟩, hall, hpair, habove⟩
        exact ⟨⟨hlt, hall⟩, ⟨habove e.start rfl, hpair⟩, fun l h =>
          ⟨hl l h, fun x hx => (hl l h).trans (habove e.start rfl x hx)⟩⟩
      · rintro ⟨⟨hlt, hall⟩, ⟨habove, hpair⟩, hl⟩
        exact ⟨⟨hlt, fun l h => (hl l h).1⟩, hall, hpair, fun l h => by
          cases h
          exact habove⟩
  rw [general]
  simp

theorem scheduleValid_iff {es : List ScheduleEntry} : scheduleValid es = true ↔
    1 ≤ es.length ∧ es.length ≤ 4 ∧ (∀ e ∈ es, e.start < 1440) ∧ es.Pairwise (fun a b => a.start < b.start) := by
  simp only [scheduleValid, Bool.and_eq_true, decide_eq_true_eq, startsRising_iff, and_assoc]

theorem Promotion.valid_iff {p : Promotion} : p.valid = true ↔ p.mask ≠ 0 ∧ (match p.kind with
    | .percent => 1 ≤ p.value ∧ p.value ≤ 90
    | .amount => 1 ≤ p.value ∧ p.value ≤ 999999
    | .fixed => p.value ≤ 999999) := by
  rw [Promotion.valid, Bool.and_eq_true, Bool.not_eq_true', decide_eq_false_iff_not, and_comm]
  refine and_congr_right fun _ => ?_
  have hle : decide (p.value ≤ maxPrice) = true ↔ p.value ≤ 999999 := decide_eq_true_iff
  cases p.kind <;> simp only [PromoKind.inRange, Bool.and_eq_true, decide_eq_true_eq, hle]

/-- R52: what fits the position of an item, of the rules, of a promotion and of the schedule. -/
theorem validFor_iff {k : SlotId} {r : SlotRecord} : r.validFor (slotKind k) = true ↔
    (∃ i code body, k = itemSlot i ∧ r = .item code body ∧ validCode code = true ∧ body.valid = true) ∨
    (∃ r', k = rulesSlot ∧ r = .rules r' ∧ r'.valid = true) ∨
    (∃ (i : Fin 32) (p : Promotion), k = promoSlot i ∧ r = .promo i.val p ∧ p.valid = true) ∨
    (∃ es, k = scheduleSlot ∧ r = .schedule es ∧ scheduleValid es = true) := by
  constructor
  · intro h
    rcases slot_cases k with ⟨i, rfl⟩ | rfl | ⟨i, rfl⟩ | rfl
    · rw [slotKind_itemSlot] at h
      cases r <;> simp only [SlotRecord.validFor, Bool.and_eq_true, Bool.false_eq_true] at h
      exact .inl ⟨i, _, _, rfl, rfl, h⟩
    · rw [slotKind_rulesSlot] at h
      cases r <;> simp only [SlotRecord.validFor, Bool.false_eq_true] at h
      exact .inr (.inl ⟨_, rfl, rfl, h⟩)
    · rw [slotKind_promoSlot] at h
      cases r <;> simp only [SlotRecord.validFor, Bool.and_eq_true, Bool.false_eq_true, decide_eq_true_eq] at h
      obtain ⟨hi, hp⟩ := h
      exact .inr (.inr (.inl ⟨i, _, rfl, by rw [hi], hp⟩))
    · rw [slotKind_scheduleSlot] at h
      cases r <;> simp only [SlotRecord.validFor, Bool.false_eq_true] at h
      exact .inr (.inr (.inr ⟨_, rfl, rfl, h⟩))
  · rintro (⟨i, code, body, rfl, rfl, hc, hb⟩ | ⟨r', rfl, rfl, hr⟩ | ⟨i, p, rfl, rfl, hp⟩ | ⟨es, rfl, rfl, hes⟩)
    · rw [slotKind_itemSlot]
      simp [SlotRecord.validFor, hc, hb]
    · rw [slotKind_rulesSlot]
      exact hr
    · rw [slotKind_promoSlot]
      simp [SlotRecord.validFor, hp]
    · rw [slotKind_scheduleSlot]
      exact hes

/-! ### Findings (R53, R54) -/

section
variable {k : SlotId} {torn : Option SlotId} {v : NvSlot}

theorem loadFinding_torn (h : torn = some k) : loadFinding k torn v = .torn := if_pos h

theorem loadFinding_erased (ht : torn ≠ some k) (h : v.read = .erased) : loadFinding k torn v = .erased := by
  simp only [loadFinding, if_neg ht, h]

theorem loadFinding_ded (ht : torn ≠ some k) (h : v.read = .ded) : loadFinding k torn v = .ded := by
  simp only [loadFinding, if_neg ht, h]

theorem loadFinding_invalid (ht : torn ≠ some k) (h : v.read = .clean ∨ v.read = .sec)
    (hf : ¬ v.record.validFor (slotKind k) = true) : loadFinding k torn v = .invalid := by
  rcases h with h | h <;> simp only [loadFinding, if_neg ht, h, if_neg hf]

end

theorem Journal.torn_names {j : Journal} (h : j.word = .clean ∨ j.word = .sec) :
    (∀ k : SlotId, j.slot = k.val → j.torn = some k ∧ j.faulty = false) ∧
      (545 < j.slot → j.torn = none ∧ j.faulty = true) := by
  refine ⟨fun k hk => ?_, fun hbig => ?_⟩
  · have hlt : j.slot < 546 := hk ▸ k.isLt
    have hslot : (⟨j.slot, hlt⟩ : SlotId) = k := Fin.ext hk
    rcases h with h | h <;> simp [Journal.torn, Journal.faulty, h, hlt, hslot]
  · have hnot : ¬ j.slot < 546 := by omega
    have hge : 546 ≤ j.slot := hbig
    rcases h with h | h <;> simp [Journal.torn, Journal.faulty, h, hnot, hge]

/-! ### What the array is found to hold -/

theorem Nva.slot_setSlots_absent {l : List (SlotId × NvSlot)} {k : SlotId} (h : ∀ e ∈ l, e.1 ≠ k) (n : Nva) :
    (l.foldl (fun n e => n.setSlot e.1 e.2) n).slot k = n.slot k := by
  refine List.foldlRecOn l _ (motive := fun m : Nva => m.slot k = n.slot k) rfl fun m hm e he => ?_
  rw [Nva.slot_setSlot, if_neg (h e he).symm, hm]

theorem Nva.found_last {before after : List (SlotId × NvSlot)} {k : SlotId} {v : NvSlot} (h : ∀ e ∈ after, e.1 ≠ k)
    (n : Nva) (journal : Option Journal) : (n.found (before ++ (k, v) :: after) journal).slot k = v := by
  show ((before ++ (k, v) :: after).foldl (fun n e => n.setSlot e.1 e.2) n).slot k = v
  rw [List.foldl_append, List.foldl_cons, Nva.slot_setSlots_absent h, Nva.slot_setSlot, if_pos rfl]

end Sys2Proof.Machine
end

section
/-! SUPPORT. LoadFillsTableFromArray: the classing clauses, and the load at a slot as one effect: contents installed, a
fault logged, the slot's state set. -/

namespace Sys2Proof.Machine

/-- R52: contents that fit a slot, field by field. -/
theorem fits_iff {k : SlotId} {v : NvSlot} : ((∃ i code body, k = itemSlot i ∧ v.record = .item code body ∧ 1 ≤ code ∧
        code ≤ 65534 ∧ (∃ d : Daypart, body.price[d] ≠ none) ∧ (∀ (d : Daypart) q, body.price[d] = some q → q ≤ 999999) ∧
        (∀ j, body.promo = some j → j < 32)) ∨
      (∃ r, k = rulesSlot ∧ v.record = .rules r ∧ r.taxRate ≤ 2500 ∧ r.step ∈ [1, 2, 5, 10, 25, 50, 100]) ∨
      (∃ (i : Fin 32) (p : Promotion), k = promoSlot i ∧ v.record = .promo i.val p ∧ p.mask ≠ 0 ∧ (match p.kind with
        | .percent => 1 ≤ p.value ∧ p.value ≤ 90
        | .amount => 1 ≤ p.value ∧ p.value ≤ 999999
        | .fixed => p.value ≤ 999999)) ∨
      (∃ es, k = scheduleSlot ∧ v.record = .schedule es ∧ 1 ≤ es.length ∧ es.length ≤ 4 ∧ (∀ e ∈ es, e.start < 1440) ∧
        es.Pairwise (fun a b => a.start < b.start))) ↔ v.record.validFor (slotKind k) = true := by
  rw [validFor_iff]
  refine or_congr ?_ (or_congr ?_ (or_congr ?_ ?_))
  · simp only [validCode_iff, ItemBody.valid_iff, and_assoc]
  · simp only [Rules.valid_iff]
  · refine exists_congr fun i => exists_congr fun p => and_congr_right fun _ => and_congr_right fun _ => ?_
    exact Promotion.valid_iff.symm
  · simp only [scheduleValid_iff]

/-! ### The load at a slot as one effect -/

/-- What the load does at a slot: the contents it installs, the fault it logs, the state it gives the slot. -/
structure LoadEffect where
  record : Option SlotRecord
  fault : Option FaultKind
  state : SlotState

/-- The code of a sound item record that a slot is found to hold. -/
def LoadFinding.code (f : LoadFinding) : Option Nat :=
  match f with
  | .valid _ (.item code _) => some code
  | _ => none

/-- R53, R55, R56: the effect of a finding; `dup` says that a lower slot's sound record bears the same code. -/
def loadEffect (k : SlotId) (dup : Bool) (f : LoadFinding) : LoadEffect :=
  let lost : SlotState := if k.val < 512 then .dirty else .faulted
  match f with
  | .torn => ⟨none, some .torn, lost⟩
  | .erased => ⟨none, none, .clean⟩
  | .ded => ⟨none, some .ded, lost⟩
  | .invalid => if k = scheduleSlot then ⟨none, none, .stale⟩ else ⟨none, some .ded, lost⟩
  | .valid sec r => if dup then ⟨none, some .duplicate, lost⟩ else ⟨some r, if sec then some .sec else none, .clean⟩

/-- The contents of a slot installed; the schedule slot first gives the default schedule of the rules loaded. -/
def State.loadInstall (s : State) (k : SlotId) (r : Option SlotRecord) : State :=
  match slotKind k with
  | .item i =>
    match r with
    | some (.item code body) =>
      s.putItem i { code := code, body := body, parityFails := false, health := .good, avail := .available }
    | _ => s
  | .rules => r.elim s (installRules s)
  | .promo i => r.elim s (installPromo i s)
  | .schedule =>
    let t := { s with daypart := { s.daypart with schedule := standardSchedule s.table.rules } }
    r.elim t (installSchedule t)

/-- A fault of the load logged. -/
def State.loadLog (s : State) (k : SlotId) (fault : Option FaultKind) : State :=
  fault.elim s (fun kind => s.logFault { slot := k.val, kind := kind, origin := .load })

/-- The state of a slot set, and a DIRTY slot queued. -/
def State.loadMark (s : State) (k : SlotId) (st : SlotState) : State :=
  if st = .clean then s
  else { s with nva := { s.nva.setSlotState k st with queue := s.nva.queue ++ if st = .dirty then [k] else [] } }

/-- An effect of the load at a slot. -/
def State.loadWith (s : State) (k : SlotId) (e : LoadEffect) : State :=
  ((s.loadInstall k e.record).loadLog k e.fault).loadMark k e.state

section
variable (s : State)

theorem itemSlot_lt (i : ItemIndex) : (itemSlot i).val < 512 := i.isLt

theorem itemSlot_ne_scheduleSlot (i : ItemIndex) : itemSlot i ≠ scheduleSlot := fun h => by
  have := congrArg Fin.val h
  have hs : scheduleSlot.val = 545 := rfl
  have hi := itemSlot_lt i
  omega

theorem State.loadInstall_item (i : ItemIndex) (code : Nat) (body : ItemBody) :
    s.loadInstall (itemSlot i) (some (.item code body)) =
      s.putItem i { code := code, body := body, parityFails := false, health := .good, avail := .available } := by
  simp only [State.loadInstall, slotKind_itemSlot]

theorem State.loadInstall_item_none (i : ItemIndex) : s.loadInstall (itemSlot i) none = s := by
  simp only [State.loadInstall, slotKind_itemSlot]

theorem State.loadInstall_rules (r : Option SlotRecord) : s.loadInstall rulesSlot r = r.elim s (installRules s) := by
  simp only [State.loadInstall, slotKind_rulesSlot]

theorem State.loadInstall_promo (i : Fin 32) (r : Option SlotRecord) :
    s.loadInstall (promoSlot i) r = r.elim s (installPromo i s) := by
  simp only [State.loadInstall, slotKind_promoSlot]

theorem State.loadInstall_schedule (r : Option SlotRecord) : s.loadInstall scheduleSlot r =
    r.elim { s with daypart := { s.daypart with schedule := standardSchedule s.table.rules } }
      (installSchedule { s with daypart := { s.daypart with schedule := standardSchedule s.table.rules } }) := by
  simp only [State.loadInstall, slotKind_scheduleSlot]

end

/-- The load at an item slot. -/
theorem loadItemSlot_with (s : State) (i : ItemIndex) {f : LoadFinding} {dup : Bool}
    (hf : ∀ sec r, f = .valid sec r → ∃ code body, r = .item code body ∧ dup = s.table.has code) :
    loadItemSlot s i f = s.loadWith (itemSlot i) (loadEffect (itemSlot i) dup f) := by
  have hlost : (if (itemSlot i).val < 512 then SlotState.dirty else .faulted) = .dirty := if_pos (itemSlot_lt i)
  unfold State.loadWith loadEffect
  dsimp only
  rw [hlost]
  cases f with
  | torn =>
    dsimp only
    rw [State.loadInstall_item_none]
    rfl
  | erased =>
    dsimp only
    rw [State.loadInstall_item_none]
    rfl
  | ded =>
    dsimp only
    rw [State.loadInstall_item_none]
    rfl
  | invalid =>
    rw [if_neg (itemSlot_ne_scheduleSlot i)]
    dsimp only
    rw [State.loadInstall_item_none]
    rfl
  | valid sec r =>
    obtain ⟨code, body, rfl, hdup⟩ := hf sec r rfl
    cases dup with
    | true =>
      simp only [loadItemSlot, ← hdup, if_true]
      rw [State.loadInstall_item_none]
      rfl
    | false =>
      simp only [loadItemSlot, ← hdup, Bool.false_eq_true, if_false]
      rw [State.loadInstall_item]
      cases sec <;> rfl

/-- The load at a slot that is no item's. -/
theorem loadOtherSlot_with {s : State} {k : SlotId} (hk : 512 ≤ k.val) (f : LoadFinding) {logged : Bool}
    (hlogged : logged = !decide (k = scheduleSlot)) {install : State → SlotRecord → State} {start : State}
    (hinstall : ∀ r, s.loadInstall k r = r.elim start (install start)) :
    loadOtherSlot start k f logged install = s.loadWith k (loadEffect k false f) := by
  have hlost : (if k.val < 512 then SlotState.dirty else .faulted) = .faulted := if_neg (by omega)
  have hqueue : ∀ t : State, { t with nva := t.nva.setSlotState k .faulted } = t.loadMark k .faulted := fun t => by
    simp only [State.loadMark, reduceCtorEq, if_false, List.append_nil]
    rfl
  have hstale : ∀ t : State, { t with nva := t.nva.setSlotState k .stale } = t.loadMark k .stale := fun t => by
    simp only [State.loadMark, reduceCtorEq, if_false, List.append_nil]
    rfl
  unfold State.loadWith loadEffect loadOtherSlot
  dsimp only
  rw [hlost]
  cases f with
  | torn =>
    dsimp only
    rw [hinstall, hqueue]
    rfl
  | erased =>
    dsimp only
    rw [hinstall]
    rfl
  | ded =>
    dsimp only
    rw [hinstall, hqueue]
    rfl
  | invalid =>
    by_cases hs : k = scheduleSlot
    · rw [hlogged, decide_eq_true hs, if_pos hs]
      dsimp only
      rw [hinstall]
      exact hstale start
    · rw [hlogged, decide_eq_false hs, if_neg hs]
      dsimp only
      rw [hinstall]
      exact hqueue _
  | valid sec r =>
    simp only [Bool.false_eq_true, if_false]
    rw [hinstall]
    cases sec <;> rfl

/-- R53: the load at a slot is the effect of its finding. -/
theorem loadSlot_with (s : State) (torn : Option SlotId) (k : SlotId) {dup : Bool}
    (hdup : ∀ code, (loadFinding k torn (s.nva.slot k)).code = some code → dup = s.table.has code)
    (hno : (loadFinding k torn (s.nva.slot k)).code = none → dup = false) :
    loadSlot torn s k = s.loadWith k (loadEffect k dup (loadFinding k torn (s.nva.slot k))) := by
  have hfit : ∀ sec r, loadFinding k torn (s.nva.slot k) = .valid sec r → r.validFor (slotKind k) = true :=
    fun sec r h => (loadFinding_valid h).2
  unfold loadSlot
  generalize loadFinding k torn (s.nva.slot k) = f at *
  have hother : (∀ i, k ≠ itemSlot i) → dup = false := by
    intro hk
    cases hc : f.code with
    | none => exact hno hc
    | some code =>
      match f, hc with
      | .valid sec (.item c body), _ =>
        rcases validFor_iff.1 (hfit sec _ rfl) with ⟨i, _, _, hi, -⟩ | ⟨_, -, h, -⟩ | ⟨_, _, -, h, -⟩ | ⟨_, -, h, -⟩
        · exact absurd hi (hk i)
        all_goals cases h
  have itemNe : 512 ≤ k.val → dup = false := fun hge => hother fun i hi => by
    have := itemSlot_lt i
    rw [← hi] at this
    omega
  rcases slot_cases k with ⟨i, rfl⟩ | rfl | ⟨i, rfl⟩ | rfl
  · rw [slotKind_itemSlot] at hfit ⊢
    refine loadItemSlot_with s i fun sec r hr => ?_
    subst hr
    cases r <;> simp only [SlotRecord.validFor] at hfit
    case item code body => exact ⟨code, body, rfl, hdup code rfl⟩
    all_goals exact absurd (hfit _ _ rfl) (by simp)
  · rw [slotKind_rulesSlot, itemNe (by decide)]
    exact loadOtherSlot_with (by decide) f (by decide) s.loadInstall_rules
  · have hge : 512 ≤ (promoSlot i).val := by
      show 512 ≤ 513 + i.val
      omega
    have hne : promoSlot i ≠ scheduleSlot := fun h => by
      have := congrArg Fin.val h
      change 513 + i.val = 545 at this
      omega
    rw [slotKind_promoSlot, itemNe hge]
    exact loadOtherSlot_with hge f (by rw [decide_eq_false hne]; rfl) (s.loadInstall_promo i)
  · rw [slotKind_scheduleSlot, itemNe (by decide)]
    exact loadOtherSlot_with (by decide) f (by decide) s.loadInstall_schedule

end Sys2Proof.Machine
end

section
/-! SUPPORT. LoadFillsTableFromArray: what a run of load effects leaves in each part of the state. -/

namespace Sys2Proof.Machine

/-! ### Slots by what they back -/

section
variable {k : SlotId}

theorem slotKind_inj {a b : SlotId} (h : slotKind a = slotKind b) : a = b := by
  rcases slot_cases a with ⟨i, rfl⟩ | rfl | ⟨i, rfl⟩ | rfl <;> rcases slot_cases b with ⟨j, rfl⟩ | rfl | ⟨j, rfl⟩ | rfl <;>
    simp_all [slotKind_itemSlot, slotKind_rulesSlot, slotKind_promoSlot, slotKind_scheduleSlot]

theorem slotKind_eq_item {i : ItemIndex} : slotKind k = .item i ↔ k = itemSlot i :=
  ⟨fun h => slotKind_inj (h.trans (slotKind_itemSlot i).symm), fun h => h ▸ slotKind_itemSlot i⟩

theorem slotKind_eq_rules : slotKind k = .rules ↔ k = rulesSlot :=
  ⟨fun h => slotKind_inj (h.trans slotKind_rulesSlot.symm), fun h => h ▸ slotKind_rulesSlot⟩

theorem slotKind_eq_promo {i : Fin 32} : slotKind k = .promo i ↔ k = promoSlot i :=
  ⟨fun h => slotKind_inj (h.trans (slotKind_promoSlot i).symm), fun h => h ▸ slotKind_promoSlot i⟩

end

/-! ### The contents installed -/

/-- The item that installed contents give. -/
def loadedItem (r : Option SlotRecord) : Option Item :=
  match r with
  | some (.item code body) => some { code := code, body := body, parityFails := false, health := .good, avail := .available }
  | _ => none

/-- The rules that installed contents give. -/
def loadedRules (r : Option SlotRecord) : Option Rules :=
  match r with
  | some (.rules r) => some r
  | _ => none

/-- The promotion that installed contents give. -/
def loadedPromo (r : Option SlotRecord) : Option Promotion :=
  match r with
  | some (.promo _ p) => some p
  | _ => none

/-- The schedule that installed contents give. -/
def loadedSchedule (r : Option SlotRecord) : Option (List ScheduleEntry) :=
  match r with
  | some (.schedule es) => some es
  | _ => none

section
variable (s : State) (k : SlotId) (r : Option SlotRecord)

theorem State.items_loadInstall (j : ItemIndex) : (s.loadInstall k r).table.item j =
    if slotKind k = .item j then (loadedItem r).or (s.table.item j) else s.table.item j := by
  unfold State.loadInstall
  cases hk : slotKind k with
  | item i =>
    match r with
    | some (.item code body) =>
      refine (PriceTable.item_putItem s.table i j _).trans ?_
      by_cases hij : j = i
      · rw [if_pos hij, if_pos (by rw [hij])]
        rfl
      · rw [if_neg hij, if_neg (fun h => hij (SlotKind.item.inj h).symm)]
    | none => exact (ite_self _).symm
    | some (.rules _) => exact (ite_self _).symm
    | some (.promo _ _) => exact (ite_self _).symm
    | some (.schedule _) => exact (ite_self _).symm
    | some .unknown => exact (ite_self _).symm
  | rules => rcases r with _ | (_ | _ | _ | _ | _) <;> rfl
  | promo i => rcases r with _ | (_ | _ | _ | _ | _) <;> rfl
  | schedule => rcases r with _ | (_ | _ | _ | _ | _) <;> rfl

theorem State.rules_loadInstall : (s.loadInstall k r).table.rules =
    if slotKind k = .rules then (loadedRules r).getD s.table.rules else s.table.rules := by
  unfold State.loadInstall
  cases slotKind k <;> rcases r with _ | (_ | _ | _ | _ | _) <;> rfl

theorem State.promos_loadInstall (j : Fin 32) : (s.loadInstall k r).table.promos[j] =
    if slotKind k = .promo j then (loadedPromo r).getD s.table.promos[j] else s.table.promos[j] := by
  unfold State.loadInstall
  cases hk : slotKind k with
  | item i => rcases r with _ | (_ | _ | _ | _ | _) <;> rfl
  | rules => rcases r with _ | (_ | _ | _ | _ | _) <;> rfl
  | promo i =>
    match r with
    | some (.promo index p) =>
      by_cases hij : i = j
      · subst hij
        rw [if_pos rfl]
        exact Vector.getElem_set_self i.isLt
      · rw [if_neg fun h => hij (SlotKind.promo.inj h)]
        exact Vector.getElem_set_ne i.isLt j.isLt fun hv => hij (Fin.ext hv)
    | none => exact (ite_self _).symm
    | some (.item _ _) => exact (ite_self _).symm
    | some (.rules _) => exact (ite_self _).symm
    | some (.schedule _) => exact (ite_self _).symm
    | some .unknown => exact (ite_self _).symm
  | schedule => rcases r with _ | (_ | _ | _ | _ | _) <;> rfl

theorem State.schedule_loadInstall : (s.loadInstall k r).daypart.schedule =
    if slotKind k = .schedule then (loadedSchedule r).getD (standardSchedule s.table.rules) else s.daypart.schedule := by
  unfold State.loadInstall
  cases slotKind k <;> rcases r with _ | (_ | _ | _ | _ | _) <;> rfl

theorem State.rising_loadInstall (h : Sparse.rising s.table.items = true) :
    Sparse.rising (s.loadInstall k r).table.items = true := by
  unfold State.loadInstall
  cases hk : slotKind k with
  | item i =>
    match r with
    | some (.item code body) => exact Sparse.rising_put h _ _
    | none => exact h
    | some (.rules _) => exact h
    | some (.promo _ _) => exact h
    | some (.schedule _) => exact h
    | some .unknown => exact h
  | rules => rcases r with _ | (_ | _ | _ | _ | _) <;> exact h
  | promo i => rcases r with _ | (_ | _ | _ | _ | _) <;> exact h
  | schedule => rcases r with _ | (_ | _ | _ | _ | _) <;> exact h

/-- What installed contents leave alone. -/
theorem State.loadInstall_eq : s.loadInstall k r = { s with
    table := { (s.loadInstall k r).table with pendingAvail := s.table.pendingAvail },
    daypart := { s.daypart with schedule := (s.loadInstall k r).daypart.schedule } } := by
  unfold State.loadInstall
  cases slotKind k <;> rcases r with _ | (_ | _ | _ | _ | _) <;> rfl

end

/-! ### The array's bookkeeping and the ports -/

/-- R57: the entry of a fault of the load. -/
def loadEntry (k : SlotId) (kind : FaultKind) : FaultEntry := { slot := k.val, kind := kind, origin := .load }

/-- The NVA with a fault of the load logged. -/
def Nva.loadLog (n : Nva) (k : SlotId) (fault : Option FaultKind) : Nva := fault.elim n (fun kind => n.log (loadEntry k kind))

/-- The NVA with the state of a slot set, and a DIRTY slot queued. -/
def Nva.loadMark (n : Nva) (k : SlotId) (st : SlotState) : Nva :=
  if st = .clean then n else { n.setSlotState k st with queue := n.queue ++ if st = .dirty then [k] else [] }

section
variable (s : State) (k : SlotId) (e : LoadEffect)

theorem State.loadWith_table : (s.loadWith k e).table = (s.loadInstall k e.record).table := by
  unfold State.loadWith State.loadMark State.loadLog
  cases e.fault <;> split <;> rfl

theorem State.loadWith_daypart : (s.loadWith k e).daypart = (s.loadInstall k e.record).daypart := by
  unfold State.loadWith State.loadMark State.loadLog
  cases e.fault <;> split <;> rfl

theorem State.loadWith_nva : (s.loadWith k e).nva = (s.nva.loadLog k e.fault).loadMark k e.state := by
  have hnva : (s.loadInstall k e.record).nva = s.nva := by rw [State.loadInstall_eq]
  rw [← hnva]
  unfold State.loadWith State.loadMark State.loadLog Nva.loadMark Nva.loadLog
  cases e.fault <;> split <;> rfl

end

section
variable (n : Nva) (k : SlotId)

theorem Nva.log_eq (f : FaultEntry) : n.log f = { n with faults := (n.log f).faults, more := (n.log f).more } := by
  unfold Nva.log
  split <;> rfl

theorem Nva.loadLog_eq (fault : Option FaultKind) :
    n.loadLog k fault = { n with faults := (n.loadLog k fault).faults, more := (n.loadLog k fault).more } := by
  cases fault with
  | none => rfl
  | some kind => exact n.log_eq _

theorem Nva.slotState_loadMark (st : SlotState) (j : SlotId) :
    (n.loadMark k st).slotState j = if k = j then (if st = .clean then n.slotState j else st) else n.slotState j := by
  unfold Nva.loadMark
  by_cases hst : st = .clean
  · simp [hst]
  · rw [if_neg hst, if_neg hst]
    refine (Nva.slotState_setSlotState n k j st).trans ?_
    simp only [eq_comm]

theorem Nva.queue_loadMark (st : SlotState) :
    (n.loadMark k st).queue = n.queue ++ if st = .dirty then [k] else [] := by
  unfold Nva.loadMark
  by_cases hst : st = .clean
  · simp [hst]
  · rw [if_neg hst]

end

/-! ### A run of effects -/

/-- The effects of the load at a list of slots, one after the other. -/
def State.loadAll (s : State) (e : SlotId → LoadEffect) (l : List SlotId) : State :=
  l.foldl (fun t k => t.loadWith k (e k)) s

/-- A part of the state that the effect at one slot alone changes. -/
theorem State.loadAll_part {α : Type} (part : State → α) (k₀ : SlotId) (change : LoadEffect → α → α)
    (hstep : ∀ (s : State) k e, part (s.loadWith k e) = if k = k₀ then change e (part s) else part s)
    (e : SlotId → LoadEffect) {l : List SlotId} (hl : l.Nodup) (s : State) :
    part (s.loadAll e l) = if k₀ ∈ l then change (e k₀) (part s) else part s := by
  induction l generalizing s with
  | nil => rfl
  | cons k l ih =>
    obtain ⟨hk, hl⟩ := List.nodup_cons.1 hl
    refine (ih hl (s.loadWith k (e k))).trans ?_
    rw [hstep]
    by_cases h : k = k₀
    · subst h
      simp [hk]
    · simp [h, Ne.symm h]

section
variable (e : SlotId → LoadEffect) {l : List SlotId} (s : State)

theorem State.item_loadAll (hl : l.Nodup) (j : ItemIndex) : (s.loadAll e l).table.item j =
    if itemSlot j ∈ l then (loadedItem (e (itemSlot j)).record).or (s.table.item j) else s.table.item j :=
  State.loadAll_part (fun t => t.table.item j) (itemSlot j) (fun e x => (loadedItem e.record).or x)
    (fun s k e => by simp only [State.loadWith_table, State.items_loadInstall, slotKind_eq_item]) e hl s

theorem State.rules_loadAll (hl : l.Nodup) : (s.loadAll e l).table.rules =
    if rulesSlot ∈ l then (loadedRules (e rulesSlot).record).getD s.table.rules else s.table.rules :=
  State.loadAll_part (fun t => t.table.rules) rulesSlot (fun e x => (loadedRules e.record).getD x)
    (fun s k e => by simp only [State.loadWith_table, State.rules_loadInstall, slotKind_eq_rules]) e hl s

theorem State.promos_loadAll (hl : l.Nodup) (j : Fin 32) : (s.loadAll e l).table.promos[j] =
    if promoSlot j ∈ l then (loadedPromo (e (promoSlot j)).record).getD s.table.promos[j] else s.table.promos[j] :=
  State.loadAll_part (fun t => t.table.promos[j]) (promoSlot j) (fun e x => (loadedPromo e.record).getD x)
    (fun s k e => by
      rw [State.loadWith_table, State.promos_loadInstall]
      simp only [slotKind_eq_promo]) e hl s

theorem State.slotState_loadAll (hl : l.Nodup) (j : SlotId) : (s.loadAll e l).nva.slotState j =
    if j ∈ l then (if (e j).state = .clean then s.nva.slotState j else (e j).state) else s.nva.slotState j :=
  State.loadAll_part (fun t => t.nva.slotState j) j (fun e x => if e.state = .clean then x else e.state)
    (fun s k e => by
      rw [State.loadWith_nva, Nva.slotState_loadMark, Nva.loadLog_eq]
      rfl) e hl s

theorem State.queue_loadAll : (s.loadAll e l).nva.queue = s.nva.queue ++ l.filter (fun k => decide ((e k).state = .dirty)) := by
  induction l generalizing s with
  | nil => exact (List.append_nil _).symm
  | cons k l ih =>
    refine (ih (s.loadWith k (e k))).trans ?_
    have hlog : (s.nva.loadLog k (e k).fault).queue = s.nva.queue := by rw [Nva.loadLog_eq]
    rw [State.loadWith_nva, Nva.queue_loadMark, hlog, List.append_assoc, List.filter_cons]
    by_cases h : (e k).state = .dirty <;> simp [h]

theorem State.rising_loadAll (h : Sparse.rising s.table.items = true) : Sparse.rising (s.loadAll e l).table.items = true :=
  List.foldlRecOn l _ (motive := fun t : State => Sparse.rising t.table.items = true) h fun t ht k _ => by
    rw [State.loadWith_table]
    exact t.rising_loadInstall k _ ht

end

end Sys2Proof.Machine
end

section
/-! SUPPORT. LoadFillsTableFromArray: the fault list and the flags under a run of load effects, what the run leaves alone, and
that the load is the run of its findings' effects. -/

namespace Sys2Proof.Machine

/-! ### The fault list (R57) -/

/-- `t` follows `s` with the faults of a list logged from an empty fault list. -/
structure Logs (s t : State) (l : List FaultEntry) : Prop where
  faults : t.nva.faults = l.take 16
  more : t.nva.more = decide (16 < l.length)
  quiet : l = [] → t.link.summary = s.link.summary ∧ t.port.summary = s.port.summary
  raised : l ≠ [] → t.posFlag .nvaFault = true ∧ t.contentFlag .nvaFault = true

section
variable {s t : State} {l : List FaultEntry}

/-- A step that leaves the fault list and the ports. -/
theorem Logs.congr (h : Logs s t l) {u : State} (hf : u.nva.faults = t.nva.faults) (hm : u.nva.more = t.nva.more)
    (hl : u.link = t.link) (hp : u.port = t.port) : Logs s u l where
  faults := hf.trans h.faults
  more := hm.trans h.more
  quiet e := by
    rw [hl, hp]
    exact h.quiet e
  raised e := by
    rw [State.posFlag_congr (congrArg PosLink.summary hl), State.contentFlag_congr (congrArg ContentPort.summary hp)]
    exact h.raised e

theorem Logs.log (h : Logs s t l) (f : FaultEntry) : Logs s (t.logFault f) (l ++ [f]) where
  faults := by
    show (t.nva.log f).faults = _
    unfold Nva.log
    rw [h.faults, List.length_take]
    by_cases hlt : l.length < 16
    · rw [if_pos (by omega), List.take_of_length_le hlt.le, List.take_of_length_le (by simp; omega)]
    · rw [if_neg (by omega), List.take_append_of_le_length (by omega)]
  more := by
    show (t.nva.log f).more = _
    unfold Nva.log
    rw [h.faults, List.length_take, List.length_append, List.length_singleton]
    by_cases hlt : l.length < 16
    · rw [if_pos (by omega)]
      refine h.more.trans (decide_eq_decide.2 ?_)
      omega
    · rw [if_neg (by omega)]
      exact (decide_eq_true (by omega)).symm
  quiet e := absurd e (by simp)
  raised _ := by
    refine ⟨?_, ?_⟩
    · exact (State.posFlag_raiseBoth _ _ _ _).trans (by simp)
    · exact (State.contentFlag_raiseBoth _ _ _ _).trans (by simp)

/-- The fault that an effect logs. -/
def LoadEffect.entry (e : LoadEffect) (k : SlotId) : Option FaultEntry := e.fault.map (loadEntry k)

theorem Logs.loadWith (h : Logs s t l) (k : SlotId) (e : LoadEffect) :
    Logs s (t.loadWith k e) (l ++ (e.entry k).toList) := by
  have hinstall : Logs s (t.loadInstall k e.record) l := by
    refine h.congr ?_ ?_ ?_ ?_ <;> rw [State.loadInstall_eq]
  have hlog : Logs s ((t.loadInstall k e.record).loadLog k e.fault) (l ++ (e.entry k).toList) := by
    unfold LoadEffect.entry State.loadLog
    cases e.fault with
    | none => exact (List.append_nil l).symm ▸ hinstall
    | some kind => exact hinstall.log (loadEntry k kind)
  unfold State.loadWith State.loadMark
  split
  · exact hlog
  · exact hlog.congr rfl rfl rfl rfl

theorem Logs.loadAll (h : Logs s t l) (e : SlotId → LoadEffect) (ks : List SlotId) :
    Logs s (t.loadAll e ks) (l ++ ks.filterMap (fun k => (e k).entry k)) := by
  induction ks generalizing t l with
  | nil => exact (List.append_nil l).symm ▸ h
  | cons k ks ih =>
    have := ih (h.loadWith k (e k))
    rw [List.append_assoc] at this
    have hcons : (k :: ks).filterMap (fun k => (e k).entry k) =
        ((e k).entry k).toList ++ ks.filterMap (fun k => (e k).entry k) := by
      cases hk : (e k).entry k <;> simp [hk]
    rw [hcons]
    exact this

end

/-! ### What the run leaves alone -/

/-- `t` follows `s` by load effects, which change the table, the schedule, the slot states, the queue, the fault list and
what a raised flag changes. -/
structure Loads (s t : State) : Prop where
  eq : t = { s with
    table := { t.table with pendingAvail := s.table.pendingAvail },
    daypart := { s.daypart with schedule := t.daypart.schedule },
    nva := { s.nva with slotStates := t.nva.slotStates, queue := t.nva.queue, faults := t.nva.faults, more := t.nva.more },
    link := t.link, port := t.port }

theorem Loads.refl (s : State) : Loads s s := ⟨rfl⟩

theorem Loads.trans {s t u : State} (a : Loads s t) (b : Loads t u) : Loads s u := by
  constructor
  have h := b.eq
  rw [a.eq] at h
  exact h

theorem State.logFault_loads (t : State) (f : FaultEntry) : Loads t (t.logFault f) := by
  constructor
  show t.logFault f = { t with
    nva := { t.nva with
      slotStates := (t.nva.log f).slotStates, queue := (t.nva.log f).queue, faults := (t.nva.log f).faults,
      more := (t.nva.log f).more },
    link := (t.logFault f).link, port := (t.logFault f).port }
  rw [t.nva.log_eq f]
  exact congrArg (fun n => { t with nva := n, link := (t.logFault f).link, port := (t.logFault f).port }) (t.nva.log_eq f)

theorem State.loadWith_loads (s : State) (k : SlotId) (e : LoadEffect) : Loads s (s.loadWith k e) := by
  have hinstall : Loads s (s.loadInstall k e.record) := by
    constructor
    have h := s.loadInstall_eq k e.record
    generalize s.loadInstall k e.record = t at *
    rw [h]
  have hlog : ∀ t : State, Loads t (t.loadLog k e.fault) := fun t => by
    unfold State.loadLog
    cases e.fault with
    | none => exact .refl t
    | some kind => exact t.logFault_loads _
  have hmark : ∀ t : State, Loads t (t.loadMark k e.state) := fun t => by
    unfold State.loadMark
    split <;> exact ⟨rfl⟩
  exact (hinstall.trans (hlog _)).trans (hmark _)

theorem State.loadAll_loads (s : State) (e : SlotId → LoadEffect) (l : List SlotId) : Loads s (s.loadAll e l) :=
  List.foldlRecOn l _ (motive := Loads s) (.refl s) fun t ht k _ => ht.trans (t.loadWith_loads k _)

/-! ### The load as a run of effects (R53, R55) -/

/-- What the load finds at each slot, or would find. -/
abbrev Findings := SlotId → LoadFinding

/-- A slot below another bears a sound record of a code. -/
def Findings.lowerBears (f : Findings) (k : SlotId) (code : Nat) : Bool :=
  (List.finRange 512).any (fun j => decide (j.val < k.val) && decide ((f (itemSlot j)).code = some code))

/-- R55: a slot's sound record is a duplicate. -/
def Findings.dup (f : Findings) (k : SlotId) : Bool := (f k).code.any (f.lowerBears k)

/-- The effect of the load at each slot. -/
def Findings.effect (f : Findings) (k : SlotId) : LoadEffect := loadEffect k (f.dup k) (f k)

/-- Findings as an array gives them: the record of a slot found valid fits the slot. -/
def Findings.Fit (f : Findings) : Prop := ∀ k sec r, f k = .valid sec r → r.validFor (slotKind k) = true

section
variable {f : Findings}

theorem Findings.lowerBears_iff {k : SlotId} {code : Nat} : f.lowerBears k code = true ↔
    ∃ j : ItemIndex, j.val < k.val ∧ (f (itemSlot j)).code = some code := by
  simp only [Findings.lowerBears, List.any_eq_true, List.mem_finRange, true_and, Bool.and_eq_true, decide_eq_true_eq]

theorem LoadFinding.code_eq_some {g : LoadFinding} {code : Nat} :
    g.code = some code ↔ ∃ sec body, g = .valid sec (.item code body) := by
  constructor
  · intro h
    match g, h with
    | .valid sec (.item c body), h =>
      cases h
      exact ⟨sec, body, rfl⟩
  · rintro ⟨sec, body, rfl⟩
    rfl

/-- The lowest slot that bears a code. -/
theorem Findings.exists_lowest {j : ItemIndex} {code : Nat} (h : (f (itemSlot j)).code = some code) :
    ∃ i : ItemIndex, i.val ≤ j.val ∧ (f (itemSlot i)).code = some code ∧ f.lowerBears (itemSlot i) code = false := by
  induction hn : j.val using Nat.strong_induction_on generalizing j with
  | _ n ih =>
    cases hb : f.lowerBears (itemSlot j) code with
    | false => exact ⟨j, hn.le, h, hb⟩
    | true =>
      obtain ⟨i, hi, hc⟩ := Findings.lowerBears_iff.1 hb
      obtain ⟨i', hle, hc', hb'⟩ := ih i.val (hn ▸ hi) hc rfl
      exact ⟨i', hle.trans (hn ▸ hi.le), hc', hb'⟩

/-- The record of a slot found sound. -/
def LoadFinding.record (f : LoadFinding) : Option SlotRecord :=
  match f with
  | .valid _ r => some r
  | _ => none

theorem loadEffect_record (k : SlotId) (dup : Bool) (g : LoadFinding) :
    (loadEffect k dup g).record = if dup then none else g.record := by
  unfold loadEffect
  cases g with
  | invalid => by_cases h : k = scheduleSlot <;> cases dup <;> simp [h, LoadFinding.record]
  | valid sec r => cases dup <;> rfl
  | torn => cases dup <;> rfl
  | erased => cases dup <;> rfl
  | ded => cases dup <;> rfl

/-- The item that the effect at an item slot installs. -/
theorem Findings.loadedItem_effect (i : ItemIndex) {code : Nat} :
    (∃ it, loadedItem (f.effect (itemSlot i)).record = some it ∧ it.code = code) ↔
      (f (itemSlot i)).code = some code ∧ f.lowerBears (itemSlot i) code = false := by
  have hrecord : (f.effect (itemSlot i)).record = if f.dup (itemSlot i) then none else (f (itemSlot i)).record :=
    loadEffect_record ..
  rw [hrecord]
  unfold Findings.dup
  cases hc : (f (itemSlot i)).code with
  | none =>
    have hnone : loadedItem (f (itemSlot i)).record = none := by
      generalize f (itemSlot i) = g at hc
      cases g with
      | valid sec r =>
        cases r with
        | item => cases hc
        | _ => rfl
      | _ => rfl
    simp [hnone]
  | some c =>
    obtain ⟨sec, body, hf⟩ := LoadFinding.code_eq_some.1 hc
    rw [hf]
    cases hb : f.lowerBears (itemSlot i) c with
    | true =>
      have hno : ¬ (c = code ∧ f.lowerBears (itemSlot i) code = false) := fun ⟨h, hn⟩ => by
        rw [← h, hb] at hn
        cases hn
      simpa [hb, loadedItem] using hno
    | false =>
      simp only [Option.any_some, hb, Bool.false_eq_true, if_false, LoadFinding.record, loadedItem, Option.some.injEq,
        exists_eq_left']
      exact ⟨fun h => ⟨h, h ▸ hb⟩, fun h => h.1⟩

end

end Sys2Proof.Machine
end

section
/-! SUPPORT. LoadFillsTableFromArray: the load is the run of its findings' effects, and what it leaves. -/

namespace Sys2Proof.Machine

/-! ### The slots in order -/

/-- The slots passed before a slot are the lower ones. -/
theorem mem_finRange_before {n : Nat} {l post : List (Fin n)} {k : Fin n} (h : List.finRange n = l ++ k :: post)
    {j : Fin n} : j ∈ l ↔ j < k := by
  have hpair : (l ++ k :: post).Pairwise (· < ·) := h ▸ List.pairwise_lt_finRange n
  obtain ⟨-, hrest, hbefore⟩ := List.pairwise_append.1 hpair
  have hafter := (List.pairwise_cons.1 hrest).1
  constructor
  · exact fun hj => hbefore j hj k (by simp)
  · intro hlt
    have hmem : j ∈ l ++ k :: post := h ▸ List.mem_finRange j
    rcases List.mem_append.1 hmem with hj | hj
    · exact hj
    · rcases List.mem_cons.1 hj with rfl | hj
      · exact absurd hlt (lt_irrefl _)
      · exact absurd (hafter j hj) hlt.asymm

/-- The schedule's slot is passed last. -/
theorem finRange_scheduleSlot_last : ∃ l : List SlotId, List.finRange 546 = l ++ [scheduleSlot] :=
  ⟨_, List.finRange_succ_last⟩

/-! ### The run of effects -/

section
variable {s : State} {f : Findings} {torn : Option SlotId}

/-- R55: the codes in the table when the load reaches a slot are those that lower slots bear. -/
theorem Findings.has_loadAll (hs : s.table.items = []) {l post : List SlotId} {k : SlotId}
    (hl : List.finRange 546 = l ++ k :: post) (code : Nat) :
    (s.loadAll f.effect l).table.has code = f.lowerBears k code := by
  have hnodup : l.Nodup := by
    have := List.nodup_finRange 546
    rw [hl] at this
    exact (List.nodup_append.1 this).1
  have hrising : Sparse.rising (s.loadAll f.effect l).table.items = true := State.rising_loadAll _ s (by rw [hs]; rfl)
  have hitem : ∀ j it, (s.loadAll f.effect l).table.item j = some it ↔
      j.val < k.val ∧ loadedItem (f.effect (itemSlot j)).record = some it := by
    intro j it
    have hnone : s.table.item j = none := by
      unfold PriceTable.item
      rw [hs]
      rfl
    have hmem : itemSlot j ∈ l ↔ j.val < k.val := mem_finRange_before hl
    rw [State.item_loadAll _ s hnodup, hnone, Option.or_none, ← hmem]
    by_cases h : itemSlot j ∈ l
    · rw [if_pos h]
      exact ⟨fun hit => ⟨h, hit⟩, fun hit => hit.2⟩
    · rw [if_neg h]
      exact ⟨fun hit => absurd hit (by simp), fun hit => absurd hit.1 h⟩
  rw [Bool.eq_iff_iff, PriceTable.has_iff, Findings.lowerBears_iff]
  constructor
  · rintro ⟨e, he, hcode⟩
    obtain ⟨hlt, hload⟩ := (hitem e.1 e.2).1 (PriceTable.item_of_mem hrising he)
    exact ⟨e.1, hlt, ((Findings.loadedItem_effect e.1).1 ⟨e.2, hload, hcode⟩).1⟩
  · rintro ⟨j, hlt, hcode⟩
    obtain ⟨i, hle, hc, hno⟩ := Findings.exists_lowest hcode
    obtain ⟨it, hload, hit⟩ := (Findings.loadedItem_effect i).2 ⟨hc, hno⟩
    exact ⟨(i, it), Sparse.mem_of_find ((hitem i it).2 ⟨lt_of_le_of_lt hle hlt, hload⟩), hit⟩

/-- R53: the load passes the slots in order and gives each the effect of its finding. -/
theorem foldl_loadSlot (hs : s.table.items = []) (hf : ∀ k, f k = loadFinding k torn (s.nva.slot k)) {l post : List SlotId}
    (hl : List.finRange 546 = l ++ post) : l.foldl (loadSlot torn) s = s.loadAll f.effect l := by
  induction l using List.reverseRecOn generalizing post with
  | nil => rfl
  | append_singleton l k ih =>
    rw [List.append_assoc] at hl
    unfold State.loadAll
    rw [List.foldl_append, List.foldl_append, ih hl]
    change loadSlot torn (s.loadAll f.effect l) k = (s.loadAll f.effect l).loadWith k (f.effect k)
    have hhas := Findings.has_loadAll (f := f) hs hl
    have hslot : (s.loadAll f.effect l).nva.slot k = s.nva.slot k := by
      rw [(s.loadAll_loads f.effect l).eq]
      rfl
    generalize s.loadAll f.effect l = t at *
    have hfind : loadFinding k torn (t.nva.slot k) = f k := by rw [hslot, hf]
    rw [loadSlot_with t torn k (dup := f.dup k), hfind]
    · rfl
    · intro code hcode
      rw [hfind] at hcode
      rw [hhas code, Findings.dup, hcode, Option.any_some]
    · intro hcode
      rw [hfind] at hcode
      rw [Findings.dup, hcode, Option.any_none]

/-- The schedule that the load leaves. -/
theorem State.schedule_loadAll (e : SlotId → LoadEffect) (s : State) : (s.loadAll e (List.finRange 546)).daypart.schedule =
    (loadedSchedule (e scheduleSlot).record).getD
      (standardSchedule (s.loadAll e (List.finRange 546)).table.rules) := by
  obtain ⟨l, hl⟩ := finRange_scheduleSlot_last
  have hlast : s.loadAll e (List.finRange 546) = (s.loadAll e l).loadWith scheduleSlot (e scheduleSlot) := by
    rw [hl]
    exact List.foldl_concat ..
  rw [hlast]
  generalize s.loadAll e l = t
  rw [State.loadWith_daypart, State.schedule_loadInstall, if_pos slotKind_scheduleSlot, State.loadWith_table,
    State.rules_loadInstall, if_neg (by rw [slotKind_scheduleSlot]; simp)]

end

/-! ### What the load leaves -/

/-- R57: the faults of a load, the journal's first. -/
def Findings.faults (f : Findings) (faulty : Bool) : List FaultEntry :=
  (if faulty then [⟨546, .ded, .load⟩] else []) ++ (List.finRange 546).filterMap (fun k => (f.effect k).entry k)

/-- `t` follows `s` by a load with findings `f`. -/
structure Loaded (s t : State) (f : Findings) (faulty : Bool) : Prop where
  item : ∀ i, t.table.item i = loadedItem (f.effect (itemSlot i)).record
  rules : t.table.rules = (loadedRules (f.effect rulesSlot).record).getD Rules.standard
  promos : ∀ i : Fin 32, t.table.promos[i] = (loadedPromo (f.effect (promoSlot i)).record).getD Promotion.standard
  schedule : t.daypart.schedule =
    (loadedSchedule (f.effect scheduleSlot).record).getD (standardSchedule t.table.rules)
  slotState : ∀ k, t.nva.slotState k = (f.effect k).state
  queue : t.nva.queue = (List.finRange 546).filter (fun k => decide ((f.effect k).state = .dirty))
  logs : Logs s t (f.faults faulty)

theorem Loaded.endLoad {s t : State} {f : Findings} {faulty : Bool} (h : Loaded s t f faulty) :
    Loaded s t.endLoad f faulty :=
  ⟨h.item, h.rules, h.promos, h.schedule, h.slotState, h.queue, h.logs.congr rfl rfl rfl rfl⟩

section
variable (s : State) (slots : List (SlotId × NvSlot)) (journal : Option Journal)

/-- What LOAD_COMPLETION finds at the slots. -/
def State.findings : Findings := fun k =>
  loadFinding k (s.nva.found slots journal).journal.torn ((s.nva.found slots journal).slot k)

/-- The state in which the load begins to pass the slots follows from its start by the journal's fault alone. -/
theorem State.loadJournal_loads (t : State) : Loads t t.loadJournal := by
  unfold State.loadJournal
  split
  · exact t.logFault_loads _
  · exact .refl t

theorem State.loadStart_logs : Logs s (s.loadStart slots journal).loadJournal
    (if (s.nva.found slots journal).journal.faulty then [⟨546, .ded, .load⟩] else []) := by
  have hstart : Logs s (s.loadStart slots journal) [] := ⟨rfl, rfl, fun _ => ⟨rfl, rfl⟩, fun h => absurd rfl h⟩
  unfold State.loadJournal
  change Logs s (if (s.nva.found slots journal).journal.faulty then _ else _) _
  cases (s.nva.found slots journal).journal.faulty with
  | true => exact hstart.log _
  | false => exact hstart

theorem State.loadFold_eq : (s.loadStart slots journal).loadFold =
    (s.loadStart slots journal).loadJournal.loadAll (s.findings slots journal).effect (List.finRange 546) := by
  have hloads := (s.loadStart slots journal).loadJournal_loads
  have hitems : (s.loadStart slots journal).loadJournal.table.items = [] := by
    unfold State.loadJournal
    split <;> rfl
  have hslot : ∀ k, (s.loadStart slots journal).loadJournal.nva.slot k = (s.nva.found slots journal).slot k := fun k => by
    rw [hloads.eq]
    rfl
  exact foldl_loadSlot hitems (fun k => by rw [hslot]; rfl) (List.append_nil _).symm

/-- R53 to R57: what LOAD_COMPLETION leaves, by what it finds. -/
theorem State.loaded : Loaded s (s.loadStart slots journal).loadFold.endLoad (s.findings slots journal)
    (s.nva.found slots journal).journal.faulty := by
  have hlogs := s.loadStart_logs slots journal
  have hstart : (s.loadStart slots journal).loadJournal.table =
      { items := [], promos := Vector.replicate 32 Promotion.standard, rules := Rules.standard, pendingAvail := [] } ∧
      (s.loadStart slots journal).loadJournal.nva.slotStates = [] ∧
      (s.loadStart slots journal).loadJournal.nva.queue = [] := by
    unfold State.loadJournal
    split
    · have h := (s.loadStart slots journal).nva.log_eq { slot := 546, kind := .ded, origin := .load }
      refine ⟨rfl, ?_, ?_⟩
      · exact congrArg Nva.slotStates h
      · exact congrArg Nva.queue h
    · exact ⟨rfl, rfl, rfl⟩
  rw [State.loadFold_eq]
  generalize (s.loadStart slots journal).loadJournal = u at *
  obtain ⟨htable, hstates, hqueue⟩ := hstart
  generalize s.findings slots journal = f
  have hnodup := List.nodup_finRange 546
  have hmem : ∀ k : SlotId, k ∈ List.finRange 546 := List.mem_finRange
  exact .endLoad {
    item := fun i => by
      refine (State.item_loadAll f.effect u hnodup i).trans ?_
      rw [if_pos (hmem _), htable]
      exact Option.or_none
    rules := by
      refine (State.rules_loadAll f.effect u hnodup).trans ?_
      rw [if_pos (hmem _), htable]
    promos := fun i => by
      refine (State.promos_loadAll f.effect u hnodup i).trans ?_
      rw [if_pos (hmem _), htable]
      exact congrArg _ (Vector.getElem_replicate i.isLt)
    schedule := State.schedule_loadAll f.effect u
    slotState := fun k => by
      refine (State.slotState_loadAll f.effect u hnodup k).trans ?_
      have hclean : u.nva.slotState k = .clean := by
        unfold Nva.slotState
        rw [hstates]
        rfl
      rw [if_pos (hmem k), hclean]
      by_cases h : (f.effect k).state = .clean
      · rw [if_pos h, h]
      · rw [if_neg h]
    queue := by
      refine (State.queue_loadAll f.effect u).trans ?_
      rw [hqueue, List.nil_append]
    logs := hlogs.loadAll f.effect (List.finRange 546) }

end

end Sys2Proof.Machine
end

section
/-! SUPPORT. LoadFillsTableFromArray: each clause from the effect of a finding. -/

namespace Sys2Proof.Machine

/-! ### The effect of a finding -/

section
variable {f : Findings} {k : SlotId}

/-- The effect of a slot whose sound record is no duplicate. -/
theorem Findings.effect_sound {sec : Bool} {r : SlotRecord} (h : f k = .valid sec r) (hd : f.dup k = false) :
    f.effect k = ⟨some r, if sec then some .sec else none, .clean⟩ := by
  simp only [Findings.effect, loadEffect, h, hd, Bool.false_eq_true, if_false]

/-- R55: the effect of a duplicate. -/
theorem Findings.effect_dup {sec : Bool} {r : SlotRecord} (h : f k = .valid sec r) (hd : f.dup k = true) :
    f.effect k = ⟨none, some .duplicate, if k.val < 512 then .dirty else .faulted⟩ := by
  simp only [Findings.effect, loadEffect, h, hd, if_true]

/-- The effect of a slot that holds no sound record. -/
theorem Findings.effect_unsound (h : ∀ sec r, f k ≠ .valid sec r) : (f.effect k).record = none ∧
    (f.effect k).state = if f k = .erased then .clean else if f k = .invalid ∧ k = scheduleSlot then .stale
      else if k.val < 512 then .dirty else .faulted := by
  unfold Findings.effect loadEffect
  cases hf : f k with
  | torn => simp
  | erased => simp
  | ded => simp
  | invalid => by_cases hk : k = scheduleSlot <;> simp [hk]
  | valid sec r => exact absurd hf (h sec r)

/-- R58: only the slots of items are made DIRTY by the load. -/
theorem Findings.lt_of_effect_dirty (h : (f.effect k).state = .dirty) : k.val < 512 := by
  by_contra hge
  unfold Findings.effect loadEffect at h
  revert h
  dsimp only
  rw [if_neg hge]
  cases f k with
  | torn => simp
  | erased => simp
  | ded => simp
  | invalid => by_cases hk : k = scheduleSlot <;> simp [hk]
  | valid sec r => cases f.dup k <;> simp

/-- R57: a finding that logs no fault. -/
theorem Findings.effect_quiet : (f.effect k).fault = none ↔
    (f k ≠ .torn ∧ f k ≠ .ded ∧ ∀ r, f k ≠ .valid true r) ∧ (k ≠ scheduleSlot → f k ≠ .invalid) ∧ f.dup k = false := by
  have hdup : (∀ sec r, f k ≠ .valid sec r) → f.dup k = false := fun h => by
    unfold Findings.dup
    cases hc : (f k).code with
    | none => rfl
    | some code =>
      obtain ⟨sec, body, hf⟩ := LoadFinding.code_eq_some.1 hc
      exact absurd hf (h _ _)
  cases hf : f k with
  | torn => simp [Findings.effect, loadEffect, hf]
  | erased => simp [Findings.effect, loadEffect, hf, hdup]
  | ded => simp [Findings.effect, loadEffect, hf]
  | invalid =>
    have hd : f.dup k = false := hdup (by simp [hf])
    by_cases hk : k = scheduleSlot
    · subst hk
      simp [Findings.effect, loadEffect, hf, hd]
    · simp [Findings.effect, loadEffect, hf, hk]
  | valid sec r => cases hd : f.dup k <;> cases sec <;> simp [Findings.effect, loadEffect, hf, hd]

theorem Findings.dup_item {i : ItemIndex} {sec : Bool} {code : Nat} {body : ItemBody}
    (h : f (itemSlot i) = .valid sec (.item code body)) : f.dup (itemSlot i) = f.lowerBears (itemSlot i) code := by
  unfold Findings.dup
  rw [h]
  exact Option.any_some ..

theorem Findings.dup_other (h : ∀ sec code body, f k ≠ .valid sec (.item code body)) : f.dup k = false := by
  unfold Findings.dup
  cases hc : (f k).code with
  | none => rfl
  | some code =>
    obtain ⟨sec, body, hf⟩ := LoadFinding.code_eq_some.1 hc
    exact absurd hf (h _ _ _)

end

/-! ### What a sound record is, by its slot -/

section
variable {f : Findings} (hfit : f.Fit) {sec : Bool} {r : SlotRecord}
include hfit

theorem Findings.Fit.item {k : SlotId} {code : Nat} {body : ItemBody} (h : f k = .valid sec (.item code body)) :
    ∃ i, k = itemSlot i := by
  rcases validFor_iff.1 (hfit k sec _ h) with ⟨i, -, -, hi, -⟩ | ⟨_, -, hr, -⟩ | ⟨_, _, -, hr, -⟩ | ⟨_, -, hr, -⟩
  · exact ⟨i, hi⟩
  all_goals cases hr

end

/-! ### The clauses -/

section
variable {s t : State} {f : Findings} {faulty : Bool} (h : Loaded s t f faulty)
include h

/-- R53: the first slot that bears a code gives its item. -/
theorem Loaded.item_first {i : ItemIndex} {sec : Bool} {code : Nat} {body : ItemBody}
    (hi : f (itemSlot i) = .valid sec (.item code body))
    (hlow : ∀ j : ItemIndex, j.val < i.val → ∀ b, ¬ ∃ sec, f (itemSlot j) = .valid sec (.item code b)) :
    t.table.item i = some { code := code, body := body, parityFails := false, health := .good, avail := .available } ∧
      t.nva.slotState (itemSlot i) = .clean := by
  have hd : f.dup (itemSlot i) = false := by
    rw [Findings.dup_item hi, Bool.eq_false_iff, Ne, Findings.lowerBears_iff]
    rintro ⟨j, hlt, hj⟩
    obtain ⟨sec, b, hb⟩ := LoadFinding.code_eq_some.1 hj
    exact hlow j hlt b ⟨sec, hb⟩
  rw [h.item, h.slotState, Findings.effect_sound hi hd]
  exact ⟨rfl, rfl⟩

/-- R55: a later slot that bears the code gives none. -/
theorem Loaded.item_dup {i j : ItemIndex} {sec sec' : Bool} {code : Nat} {body b : ItemBody}
    (hi : f (itemSlot i) = .valid sec (.item code body)) (hlt : j.val < i.val)
    (hj : f (itemSlot j) = .valid sec' (.item code b)) :
    t.table.item i = none ∧ t.nva.slotState (itemSlot i) = .dirty := by
  have hd : f.dup (itemSlot i) = true := by
    rw [Findings.dup_item hi, Findings.lowerBears_iff]
    exact ⟨j, hlt, LoadFinding.code_eq_some.2 ⟨sec', b, hj⟩⟩
  rw [h.item, h.slotState, Findings.effect_dup hi hd]
  exact ⟨rfl, if_pos (itemSlot_lt i)⟩

/-- R53: a slot without a sound record gives no item. -/
theorem Loaded.item_none {i : ItemIndex} (hi : ∀ sec r, f (itemSlot i) ≠ .valid sec r) : t.table.item i = none ∧
    t.nva.slotState (itemSlot i) = if f (itemSlot i) = .erased then .clean else .dirty := by
  obtain ⟨hrecord, hstate⟩ := Findings.effect_unsound hi
  have hne : ¬ (f (itemSlot i) = .invalid ∧ itemSlot i = scheduleSlot) := fun hs => itemSlot_ne_scheduleSlot i hs.2
  rw [h.item, h.slotState, hrecord, hstate, if_pos (itemSlot_lt i), if_neg hne]
  exact ⟨rfl, rfl⟩

theorem Loaded.rules_sound {sec : Bool} {r : Rules} (hr : f rulesSlot = .valid sec (.rules r)) :
    t.table.rules = r ∧ t.nva.slotState rulesSlot = .clean := by
  rw [h.rules, h.slotState, Findings.effect_sound hr (Findings.dup_other (by simp [hr]))]
  exact ⟨rfl, rfl⟩

theorem Loaded.rules_none (hr : ∀ sec r, f rulesSlot ≠ .valid sec r) : t.table.rules = Rules.standard ∧
    t.nva.slotState rulesSlot = if f rulesSlot = .erased then .clean else .faulted := by
  obtain ⟨hrecord, hstate⟩ := Findings.effect_unsound hr
  have hge : ¬ rulesSlot.val < 512 := by decide
  have hne : ¬ (f rulesSlot = .invalid ∧ rulesSlot = scheduleSlot) := fun hs => absurd hs.2 (by decide)
  rw [h.rules, h.slotState, hrecord, hstate, if_neg hge, if_neg hne]
  exact ⟨rfl, rfl⟩

theorem Loaded.promo_sound {i : Fin 32} {sec : Bool} {j : Nat} {p : Promotion}
    (hp : f (promoSlot i) = .valid sec (.promo j p)) :
    t.table.promos[i] = p ∧ t.nva.slotState (promoSlot i) = .clean := by
  rw [h.promos, h.slotState, Findings.effect_sound hp (Findings.dup_other (by simp [hp]))]
  exact ⟨rfl, rfl⟩

theorem Loaded.promo_none {i : Fin 32} (hp : ∀ sec r, f (promoSlot i) ≠ .valid sec r) :
    t.table.promos[i] = Promotion.standard ∧
      t.nva.slotState (promoSlot i) = if f (promoSlot i) = .erased then .clean else .faulted := by
  obtain ⟨hrecord, hstate⟩ := Findings.effect_unsound hp
  have hval : (promoSlot i).val = 513 + i.val := rfl
  have hge : ¬ (promoSlot i).val < 512 := by omega
  have hne : ¬ (f (promoSlot i) = .invalid ∧ promoSlot i = scheduleSlot) := fun hs => by
    have hs' : 513 + i.val = 545 := congrArg Fin.val hs.2
    omega
  rw [h.promos, h.slotState, hrecord, hstate, if_neg hge, if_neg hne]
  exact ⟨rfl, rfl⟩

theorem Loaded.schedule_sound {sec : Bool} {es : List ScheduleEntry} (hs : f scheduleSlot = .valid sec (.schedule es)) :
    t.daypart.schedule = es ∧ t.nva.slotState scheduleSlot = .clean := by
  rw [h.schedule, h.slotState, Findings.effect_sound hs (Findings.dup_other (by simp [hs]))]
  exact ⟨rfl, rfl⟩

theorem Loaded.schedule_none (hs : ∀ sec r, f scheduleSlot ≠ .valid sec r) :
    t.daypart.schedule = standardSchedule t.table.rules ∧ t.nva.slotState scheduleSlot =
      if f scheduleSlot = .erased then .clean else if f scheduleSlot = .invalid then .stale else .faulted := by
  obtain ⟨hrecord, hstate⟩ := Findings.effect_unsound hs
  have hge : ¬ scheduleSlot.val < 512 := by decide
  simp only [and_true, if_neg hge] at hstate
  rw [h.schedule, h.slotState, hrecord, hstate]
  exact ⟨rfl, rfl⟩

/-- R58: the queue holds the DIRTY slots of items. -/
theorem Loaded.mem_queue (k : SlotId) :
    k ∈ t.nva.queue ↔ ∃ i : ItemIndex, k = itemSlot i ∧ t.nva.slotState k = .dirty := by
  rw [h.queue, h.slotState, List.mem_filter, decide_eq_true_eq]
  constructor
  · rintro ⟨-, hd⟩
    exact ⟨⟨k.val, Findings.lt_of_effect_dirty hd⟩, rfl, hd⟩
  · rintro ⟨i, -, hd⟩
    exact ⟨List.mem_finRange k, hd⟩

theorem Loaded.queue_rising : Sparse.rising (t.nva.queue.map (fun k => (k, ()))) = true := by
  rw [Sparse.rising_iff, List.pairwise_map, h.queue]
  exact (List.pairwise_lt_finRange 546).filter _

/-- R57: the fault list is empty when nothing is met. -/
theorem Loaded.faults_eq_nil (hfit : f.Fit) : t.nva.faults = [] ↔ faulty = false ∧
    (∀ k, f k ≠ .torn ∧ f k ≠ .ded ∧ ∀ r, f k ≠ .valid true r) ∧ (∀ k, k ≠ scheduleSlot → f k ≠ .invalid) ∧
    ∀ (i j : ItemIndex) code body b, (∃ sec, f (itemSlot i) = .valid sec (.item code body)) → j.val < i.val →
      ¬ ∃ sec, f (itemSlot j) = .valid sec (.item code b) := by
  have hnil : t.nva.faults = [] ↔ faulty = false ∧ ∀ k, (f.effect k).fault = none := by
    rw [h.logs.faults, List.take_eq_nil_iff, Findings.faults, List.append_eq_nil_iff, List.filterMap_eq_nil_iff]
    simp [LoadEffect.entry]
  have hdup : (∀ k, f.dup k = false) ↔ ∀ (i j : ItemIndex) code body b,
      (∃ sec, f (itemSlot i) = .valid sec (.item code body)) → j.val < i.val →
        ¬ ∃ sec, f (itemSlot j) = .valid sec (.item code b) := by
    constructor
    · rintro hd i j code body b ⟨sec, hi⟩ hlt ⟨sec', hj⟩
      have hbears := Findings.lowerBears_iff (k := itemSlot i) |>.2 ⟨j, hlt, LoadFinding.code_eq_some.2 ⟨sec', b, hj⟩⟩
      exact absurd ((Findings.dup_item hi).symm.trans (hd _)) (by rw [hbears]; decide)
    · intro hno k
      by_cases hk : ∃ sec code body, f k = .valid sec (.item code body)
      · obtain ⟨sec, code, body, hf⟩ := hk
        obtain ⟨i, rfl⟩ := hfit.item hf
        rw [Findings.dup_item hf, Bool.eq_false_iff, Ne, Findings.lowerBears_iff]
        rintro ⟨j, hlt, hj⟩
        obtain ⟨sec', b, hb⟩ := LoadFinding.code_eq_some.1 hj
        exact hno i j code body b ⟨sec, hf⟩ hlt ⟨sec', hb⟩
      · exact Findings.dup_other fun sec code body hf => hk ⟨sec, code, body, hf⟩
  rw [hnil, ← hdup]
  simp only [Findings.effect_quiet, forall_and]

end

end Sys2Proof.Machine
end

section
/-! PROOF. LoadFillsTableFromArray. -/

namespace Sys2Proof.Machine

/-! ### How a slot and the journal are classed (R52 to R54) -/

/-- R52: three words that read and contents that fit the slot. -/
theorem loadFinding_sound {k : SlotId} {torn : Option SlotId} {v : NvSlot} (ht : torn ≠ some k)
    (hread : ∀ w ∈ [v.word0, v.word1, v.word2], w = .clean ∨ w = .sec) (hfits : v.record.validFor (slotKind k) = true) :
    ∃ sec : Bool, (sec = true ↔ ∃ w ∈ [v.word0, v.word1, v.word2], w = .sec) ∧
      loadFinding k torn v = .valid sec v.record := by
  obtain ⟨hr, hsec⟩ := NvSlot.read_sound hread
  refine ⟨decide (v.read = .sec), decide_eq_true_iff.trans hsec, ?_⟩
  rcases hr with h | h <;> simp [loadFinding, ht, h, hfits]

/-- What a load finds fits the slots that it is found in. -/
theorem State.findings_fit (s : State) (slots : List (SlotId × NvSlot)) (journal : Option Journal) :
    (s.findings slots journal).Fit := fun _ _ _ h => (loadFinding_valid h).2

/-! ### The load as a whole -/

theorem Logs.faults_eq_nil_iff {s t : State} {l : List FaultEntry} (h : Logs s t l) : t.nva.faults = [] ↔ l = [] := by
  rw [h.faults, List.take_eq_nil_iff]
  simp

/-- What the load empties, ends and leaves alone. -/
theorem State.load_frame (s : State) (slots : List (SlotId × NvSlot)) (journal : Option Journal) :
    let t := (s.loadStart slots journal).loadFold.endLoad
    (t.table.pendingAvail = [] ∧ t.checker.suspended = [] ∧ t.nva.repairs = [] ∧ t.nva.op = .free ∧
      t.nva.loading = false ∧ t.nva.journal = Journal.erased ∧ t.nva.array = (s.nva.found slots journal).array ∧
      t.daypart.live = t.table.rules.defaultDaypart) ∧
    t.stager = s.stager ∧ t.former = s.former ∧ t.assets = s.assets ∧ t.scenes = s.scenes ∧ t.engine = s.engine ∧
      t.panel = s.panel := by
  have h : Loads (s.loadStart slots journal) (s.loadStart slots journal).loadFold := by
    rw [State.loadFold_eq]
    exact (State.loadJournal_loads _).trans (State.loadAll_loads ..)
  generalize (s.loadStart slots journal).loadFold = u at *
  rw [h.eq]
  exact ⟨⟨rfl, rfl, rfl, rfl, rfl, rfl, rfl, rfl⟩, rfl, rfl, rfl, rfl, rfl, rfl⟩

section
variable {f : Findings} {k : SlotId}

theorem Findings.entry_torn (h : f k = .torn) : (f.effect k).entry k = some (loadEntry k .torn) := by
  rw [Findings.effect, h]
  rfl

theorem Findings.entry_erased (h : f k = .erased) : (f.effect k).entry k = none := by
  rw [Findings.effect, h]
  rfl

theorem Findings.entry_ded (h : f k = .ded) : (f.effect k).entry k = some (loadEntry k .ded) := by
  rw [Findings.effect, h]
  rfl

theorem Findings.entry_invalid (h : f k = .invalid) :
    (f.effect k).entry k = if k = scheduleSlot then none else some (loadEntry k .ded) := by
  rw [Findings.effect, h]
  by_cases hk : k = scheduleSlot <;> simp [loadEffect, LoadEffect.entry, hk]

/-- R55, R57: a sound record logs a duplicate, or the correction that its read made. -/
theorem Findings.entry_valid {sec : Bool} {r : SlotRecord} (h : f k = .valid sec r) :
    (f.effect k).entry k = if f.dup k then some (loadEntry k .duplicate)
      else if sec then some (loadEntry k .sec) else none := by
  cases hd : f.dup k with
  | true =>
    rw [Findings.effect_dup h hd]
    rfl
  | false =>
    rw [Findings.effect_sound h hd]
    cases sec <;> rfl

end

/-- Settles O39: the load is the run of one effect per slot, which the slot's finding and the lower slots that bear its code
give; each clause reads off the part of the state that the effect of one slot alone changes. -/
theorem loadFillsTableFromArray : Obligations.LoadFillsTableFromArray := by
  refine ⟨?_, ?_, ?_, ?_⟩
  · intro k torn v words read fits
    have hfits : fits ↔ v.record.validFor (slotKind k) = true := fits_iff
    refine ⟨loadFinding_torn, fun ht => ⟨?_, ?_, ?_, ?_⟩⟩
    · exact fun h => loadFinding_erased ht (NvSlot.read_erased h)
    · exact fun hsome hbad => loadFinding_ded ht (NvSlot.read_ded hsome hbad)
    · exact fun hread hf => loadFinding_sound ht hread (hfits.1 hf)
    · exact fun hread hf => loadFinding_invalid ht (NvSlot.read_sound hread).1 (fun hv => hf (hfits.2 hv))
  · intro j
    refine ⟨fun h => ?_, fun h => ?_, Journal.torn_names⟩
    · simp [Journal.torn, Journal.faulty, h]
    · simp [Journal.torn, Journal.faulty, h]
  · refine fun n slots journal => ⟨rfl, fun k hk => Nva.slot_setSlots_absent hk n, ?_⟩
    rintro before k v after rfl hafter
    exact Nva.found_last hafter n journal
  · intro s slots journal
    have hexec : exec (.loadCompletion slots journal) s = .next
        (if s.nva.loading then (s.loadStart slots journal).loadFold.endLoad else s) := execLoadCompletion_eq slots journal s
    refine ⟨fun hl => by rw [hexec, hl]; rfl, fun hl => ?_⟩
    rw [hl, if_pos rfl] at hexec
    intro n finding bears
    have h := s.loaded slots journal
    have hfit := s.findings_fit slots journal
    obtain ⟨hends, hframe⟩ := s.load_frame slots journal
    generalize (s.loadStart slots journal).loadFold.endLoad = t at *
    have hfinding : s.findings slots journal = finding := rfl
    rw [hfinding] at h hfit
    have hunsound : ∀ i, finding (itemSlot i) = .torn ∨ finding (itemSlot i) = .ded ∨ finding (itemSlot i) = .invalid →
        ∀ sec r, finding (itemSlot i) ≠ .valid sec r := by
      rintro i (hi | hi | hi) sec r <;> simp [hi]
    refine ⟨t, hexec, ?_, ?_, ?_, ?_, fun _ _ => h.rules_sound, h.rules_none, fun _ _ _ _ => h.promo_sound,
      fun _ => h.promo_none, fun _ _ => h.schedule_sound, h.schedule_none, hends, h.mem_queue, h.queue_rising,
      h.faults_eq_nil hfit, ?_, ?_, ?_, hframe⟩
    · rintro i code body ⟨sec, hi⟩ hlow
      exact h.item_first hi hlow
    · rintro i j code body b ⟨sec, hi⟩ hlt ⟨sec', hj⟩
      exact h.item_dup hi hlt hj
    · intro i hi
      have := h.item_none (i := i) (by simp [hi])
      rwa [if_pos hi] at this
    · intro i hi
      have := h.item_none (hunsound i hi)
      rwa [if_neg (by rcases hi with hi | hi | hi <;> simp [hi])] at this
    · intro lowerBears entry logged
      have hlower : lowerBears = Findings.lowerBears finding := by
        funext k code
        refine congrArg (List.any _) (funext fun j => congrArg (decide (j.val < k.val) && ·) ?_)
        generalize finding (itemSlot j) = g
        rcases g with _ | _ | ⟨_, _ | _ | _ | _ | _⟩ | _ | _ <;> simp [LoadFinding.code]
      have hlogged : logged = Findings.faults finding n.journal.faulty := by
        refine congrArg _ (List.filterMap_congr fun k _ => ?_)
        rw [hlower]
        cases hk : finding k with
        | valid sec r =>
          rw [Findings.entry_valid hk]
          cases r with
          | item code body =>
            obtain ⟨i, rfl⟩ := hfit.item hk
            rw [Findings.dup_item hk]
            rfl
          | _ =>
            rw [Findings.dup_other (f := finding) (by simp [hk])]
            rfl
        | invalid =>
          rw [Findings.entry_invalid hk]
          rfl
        | torn => exact (Findings.entry_torn hk).symm
        | erased => exact (Findings.entry_erased hk).symm
        | ded => exact (Findings.entry_ded hk).symm
      exact ⟨h.logs.faults.trans (congrArg _ hlogged.symm), h.logs.more.trans (decide_eq_decide.2 (by rw [hlogged]))⟩
    · exact fun hnil => h.logs.quiet ((h.logs.faults_eq_nil_iff).1 hnil)
    · exact fun hne => h.logs.raised (fun hl => hne (h.logs.faults_eq_nil_iff.2 hl))

end Sys2Proof.Machine
end

section
/-! SUPPORT. The item, promotion and rules forms of Tables 12-3 and 12-4, field by field, wherever they stand in a list of
bytes. -/

namespace Sys2Proof.Machine

/-! ### The item form -/

theorem itemForm_length (code : Nat) (b : ItemBody) : (itemForm code b).length = 16 := rfl

theorem presenceByte_lt (b : ItemBody) : presenceByte b < 32 := by
  have := Bool.toNat_le b.price[0].isSome
  have := Bool.toNat_le b.price[1].isSome
  have := Bool.toNat_le b.price[2].isSome
  have := Bool.toNat_le b.price[3].isSome
  have := Bool.toNat_le b.promo.isSome
  simp only [presenceByte, ite_eq_mul_toNat]
  omega

/-- The item form of a valid item shows each of its fields at its place (Table 12-3). -/
theorem itemForm_read {code : Nat} {body : ItemBody} (hc : validCode code = true) (hb : body.valid = true) (back : List Byte) :
    let b := itemForm code body ++ back
    beAt b 0 2 = code ∧ byteAt b 2 < 32 ∧ (byteAt b 2).testBit 4 = body.promo.isSome ∧ byteAt b 15 = body.promo.getD 0 ∧
      ∀ d : Daypart, (byteAt b 2).testBit d.val = body.price[d].isSome ∧
        beAt b (3 + 3 * d.val) 3 = body.price[d].getD 0 := by
  intro b
  obtain ⟨hprice, hpromo⟩ := ItemBody.valid_bounds hb
  obtain ⟨-, hcode⟩ := validCode_iff.1 hc
  obtain ⟨hbit, hbit4⟩ := presenceByte_bits body
  have hmax : maxPrice < 16777216 := by decide
  have hpresence : byteAt b 2 = (byteOf (presenceByte body)).toNat := rfl
  have hprices : b = (beBytes 2 code ++ [byteOf (presenceByte body)]) ++
      (priceBytes (beBytes 3) body.price ++ ([byteOf (body.promo.getD 0)] ++ back)) := by
    simp only [b, itemForm, List.append_assoc]
  refine ⟨?_, ?_, hpresence ▸ hbit4, byteOf_of_lt (hpromo.trans (by decide)), fun d => ⟨hpresence ▸ hbit d, ?_⟩⟩
  · rw [beAt_two]
    exact two_bytes (by omega)
  · rw [hpresence, byteOf_of_lt ((presenceByte_lt body).trans (by decide))]
    exact presenceByte_lt body
  · rw [hprices]
    exact beAt_priceBytes _ _ d ((hprice d).trans_lt hmax)

/-- R24: ITEM_STAGE takes the item form of a valid item, as that item. -/
theorem parseItem_itemForm {code : Nat} {body : ItemBody} (hc : validCode code = true) (hb : body.valid = true) :
    parseItem (itemForm code body) = some (code, body) := by
  have hread := itemForm_read hc hb []
  rw [List.append_nil] at hread
  obtain ⟨hcode, hlow, hbit4, hpromo, hprices⟩ := hread
  obtain ⟨hmax, hindex⟩ := ItemBody.valid_bounds hb
  obtain ⟨⟨d, hsome⟩, -, -⟩ := ItemBody.valid_iff.1 hb
  have hform : ∀ d : Daypart, formPrice (itemForm code body) d.val = body.price[d] := by
    intro d
    obtain ⟨hbit, hval⟩ := hprices d
    rw [formPrice, hbit, hval]
    cases body.price[d] <;> rfl
  have hok : ∀ d : Daypart, formPriceOk (itemForm code body) d.val = true := by
    intro d
    obtain ⟨hbit, hval⟩ := hprices d
    have := hmax d
    rw [formPriceOk, hbit, hval]
    cases h : body.price[d] with
    | none => rfl
    | some v => simpa [h] using this
  have hpresent : byteAt (itemForm code body) 2 % 16 ≠ 0 := by
    intro h0
    have hbit := (hprices d).1
    have : (byteAt (itemForm code body) 2 % 2 ^ 4).testBit d.val = true := by
      rw [Nat.testBit_mod_two_pow, hbit, decide_eq_true d.isLt, Option.isSome_iff_ne_none.2 hsome]
      rfl
    rw [show 2 ^ 4 = 16 from rfl, h0, Nat.zero_testBit] at this
    exact Bool.noConfusion this
  have hpromoOk : formPromoOk (itemForm code body) = true := by
    rw [formPromoOk, hbit4, hpromo]
    cases h : body.promo with
    | none => rfl
    | some v =>
      rw [h] at hindex
      exact decide_eq_true (Nat.le_of_lt_succ hindex)
  have hpromoEq : (if (byteAt (itemForm code body) 2).testBit 4 then some (byteAt (itemForm code body) 15) else none) =
      body.promo := by
    rw [hbit4, hpromo]
    cases body.promo <;> rfl
  have hvector : #v[formPrice (itemForm code body) 0, formPrice (itemForm code body) 1, formPrice (itemForm code body) 2,
      formPrice (itemForm code body) 3] = body.price := by
    refine Vector.ext fun k hk => ?_
    match k, hk with
    | 0, _ => exact hform 0
    | 1, _ => exact hform 1
    | 2, _ => exact hform 2
    | 3, _ => exact hform 3
  have hok0 := hok 0
  have hok1 := hok 1
  have hok2 := hok 2
  have hok3 := hok 3
  rw [parseItem, hcode, hvector, hpromoEq, if_pos]
  simp only [hc, hlow, hpresent, hpromoOk, Bool.and_eq_true, decide_true, decide_false, Bool.not_false, and_true, true_and]
  exact ⟨⟨⟨hok0, hok1⟩, hok2⟩, hok3⟩

/-! ### The promotion form -/

theorem promoForm_length (p : Promotion) : (promoForm p).length = 5 := rfl

/-- R4: the value of a valid promotion fits three bytes. -/
theorem Promotion.valid_value_le {p : Promotion} (h : p.valid = true) : p.value ≤ 999999 := by
  have hrange := (Promotion.valid_iff.1 h).2
  cases hk : p.kind <;> simp only [hk] at hrange <;> omega

/-- The promotion form of a valid promotion shows each of its fields at its place (Table 12-4). -/
theorem promoForm_read {p : Promotion} (h : p.valid = true) (back : List Byte) :
    let b := promoForm p ++ back
    byteAt b 0 = (if p.enabled then 128 else 0) + p.kind.code ∧ beAt b 1 3 = p.value ∧ byteAt b 4 = p.mask.toNat := by
  intro b
  have hvalue := Promotion.valid_value_le h
  have hkind : p.kind.code < 3 := by cases p.kind <;> decide
  refine ⟨byteOf_of_lt (by split <;> omega), ?_, ?_⟩
  · rw [beAt_three]
    exact three_bytes (by omega)
  · exact BitVec.toNat_setWidth_of_le (w := 4) (w' := 8) (by decide)

theorem promoKindOf_kindCode (k : PromoKind) : promoKindOf k.code = some k := by cases k <;> rfl

/-- R26: PROMO_STAGE takes the promotion form of a valid promotion, as that promotion. -/
theorem parsePromo_promoForm {p : Promotion} (h : p.valid = true) : parsePromo (promoForm p) = some p := by
  have hread := promoForm_read h []
  rw [List.append_nil] at hread
  obtain ⟨hfirst, hvalue, hmask⟩ := hread
  have hkind : p.kind.code < 3 := by cases p.kind <;> decide
  have hcode : byteAt (promoForm p) 0 % 128 = p.kind.code := by
    rw [hfirst]
    split <;> omega
  have htop : (byteAt (promoForm p) 0).testBit 7 = p.enabled := by
    rw [hfirst]
    cases p.enabled <;> cases p.kind <;> rfl
  have hfits : p.mask.toNat < 16 := p.mask.isLt
  simp only [parsePromo, hcode, promoKindOf_kindCode, htop, hvalue, hmask, BitVec.ofNat_toNat, BitVec.setWidth_eq, hfits,
    decide_true, Bool.true_and]
  exact if_pos h

/-! ### The rules form -/

theorem rulesForm_length (r : Rules) : (rulesForm r).length = 6 := rfl

/-- R6: every rounding step fits a byte. -/
theorem Rules.valid_step_le {r : Rules} (h : r.valid = true) : r.step ≤ 100 := by
  have hall : ∀ k ∈ [1, 2, 5, 10, 25, 50, 100], k ≤ 100 := by decide
  exact hall _ (Rules.valid_iff.1 h).2

/-- The rules form of valid rules shows each of their fields at its place (Table 12-4). -/
theorem rulesForm_read {r : Rules} (h : r.valid = true) :
    let b := rulesForm r
    byteAt b 0 = r.taxMode.code ∧ beAt b 1 2 = r.taxRate ∧ byteAt b 3 = r.step ∧ byteAt b 4 = r.rounding.code ∧
      byteAt b 5 = 16 * (if r.twoDigits then 2 else 0) + r.defaultDaypart.val := by
  intro b
  have hrate := (Rules.valid_iff.1 h).1
  have hstep := Rules.valid_step_le h
  have htax : r.taxMode.code < 256 := by cases r.taxMode <;> decide
  have hround : r.rounding.code < 256 := by cases r.rounding <;> decide
  have hday := r.defaultDaypart.isLt
  refine ⟨byteOf_of_lt htax, ?_, byteOf_of_lt (by omega), byteOf_of_lt hround, ?_⟩
  · rw [beAt_two]
    exact two_bytes (by omega)
  · refine (byteOf_of_lt (by split <;> omega)).trans ?_
    split <;> rfl

theorem taxModeOf_modeCode (m : TaxMode) : taxModeOf m.code = some m := by cases m <;> rfl

theorem roundingOf_modeCode (m : RoundingMode) : roundingOf m.code = some m := by cases m <;> rfl

theorem minorDigitsOf_twoDigits (two : Bool) : minorDigitsOf (if two then 2 else 0) = some two := by cases two <;> rfl

theorem daypartOf_index (d : Daypart) : daypartOf d.val = some d := dif_pos d.isLt

/-- R26: RULES_STAGE takes the rules form of valid rules, as those rules. -/
theorem parseRules_rulesForm {r : Rules} (h : r.valid = true) : parseRules (rulesForm r) = some r := by
  obtain ⟨htax, hrate, hstep, hround, hlast⟩ := rulesForm_read h
  have hday := r.defaultDaypart.isLt
  have hdigits : byteAt (rulesForm r) 5 / 16 = if r.twoDigits then 2 else 0 := by omega
  have hdaypart : byteAt (rulesForm r) 5 % 16 = r.defaultDaypart.val := by omega
  simp only [parseRules, htax, hrate, hstep, hround, hdigits, hdaypart, taxModeOf_modeCode, roundingOf_modeCode,
    minorDigitsOf_twoDigits, daypartOf_index]
  exact if_pos h

end Sys2Proof.Machine
end

section
/-! SUPPORT. AnswerSentThenReleased: what fixing a hold expiry changes, the frame on the line, and the rows that begin and end
an answer. -/

namespace Sys2Proof.Machine

/-! ### Fixing a hold expiry, by the record's state (R33) -/

theorem Stager.fixExpiry_held {st : Stager} {c : CommitRecord} {f : Bool} (hc : st.commit = some c) (hs : c.state = .held f) :
    st.fixExpiry = { st with commit := some { c with state := .held true } } := by
  simp only [Stager.fixExpiry, hc, hs]

theorem Stager.fixExpiry_other {st : Stager} (h : ∀ c f, st.commit = some c → c.state ≠ .held f) : st.fixExpiry = st := by
  unfold Stager.fixExpiry
  split
  · rename_i c hc
    split
    · rename_i f hs
      exact absurd hs (h c f hc)
    · rfl
    · rfl
  · rfl

/-! ### The answer held, sent and withdrawn (R161) -/

section
variable {s : State}

theorem State.sending_eq {a : Answer} (h : s.link.answer = some a) : s.sending = a.sending := by
  simp only [State.sending, h]

theorem State.withdrawAnswer_kept (h : s.link.answer = none ∨ s.sending = true) : s.withdrawAnswer = s := by
  unfold State.withdrawAnswer
  split
  · rfl
  · rename_i a ha
    rw [ha, State.sending_eq ha] at h
    exact if_pos (h.resolve_left (by simp))

theorem State.withdrawAnswer_ready {a : Answer} (ha : s.link.answer = some a) (hs : a.sending = false) :
    s.withdrawAnswer = { s with
      link := { s.link with answer := none },
      stager := if a.kind = commitAnswerKind then s.stager.fixExpiry else s.stager } := by
  simp only [State.withdrawAnswer, ha, hs]
  rfl

theorem State.lineOut_silent (h : s.sending = false) : s.lineOut = none := by
  unfold State.lineOut
  split
  · rename_i a ha
    rw [State.sending_eq ha] at h
    exact if_neg (by simp [h])
  · rfl

theorem State.lineOut_sending {a : Answer} (ha : s.link.answer = some a) (hs : a.sending = true) :
    s.lineOut = some (answerFrame s.link.unit a) := by
  simp only [State.lineOut, ha, hs, if_true]

theorem execAnswerBegin_held {a : Answer} (ha : s.link.answer = some a) : exec .answerBegin s =
    .next (if a.sending then s else { s with link := { s.link with answer := some { a with sending := true } } }) := by
  simp only [exec, execAnswerBegin, ha]

theorem execAnswerEnd_held {a : Answer} (ha : s.link.answer = some a) :
    exec .answerEnd s = .next (if a.sending then s.endAnswer a else s) := by
  simp only [exec, execAnswerEnd, ha]

theorem exec_noAnswer (h : s.link.answer = none) : exec .answerBegin s = .next s ∧ exec .answerEnd s = .next s := by
  simp only [exec, execAnswerBegin, execAnswerEnd, h, and_self]

end

/-! ### The frame of an answer (Table 12-1) -/

/-- Table 12-1: an answer's frame from its address byte to its last payload byte. -/
def answerBody (unit : Nat) (a : Answer) : List Byte := [byteOf unit, a.kind, byteOf a.payload.length] ++ a.payload

theorem answerFrame_eq (unit : Nat) (a : Answer) :
    answerFrame unit a = 0xA5 :: (answerBody unit a ++ beBytes 2 (crc16 (answerBody unit a)).toNat) := rfl

/-- The frame of an answer, byte for byte. -/
theorem answerFrame_read (unit : Nat) (a : Answer) :
    let bytes := answerFrame unit a
    bytes.length = a.payload.length + 6 ∧ byteAt bytes 0 = 0xA5 ∧ (unit < 256 → byteAt bytes 1 = unit) ∧
      byteAt bytes 2 = a.kind.toNat ∧ (a.payload.length < 256 → byteAt bytes 3 = a.payload.length) ∧
      (bytes.drop 4).take a.payload.length = a.payload ∧
      beAt bytes (4 + a.payload.length) 2 = (crc16 ((bytes.drop 1).take (3 + a.payload.length))).toNat := by
  intro bytes
  have hlen : (answerBody unit a).length = 3 + a.payload.length := by simp [answerBody]; omega
  have hbody : (bytes.drop 1).take (3 + a.payload.length) = answerBody unit a := by
    rw [← hlen]
    exact List.take_left
  have hpayload : bytes.drop 4 = a.payload ++ beBytes 2 (crc16 (answerBody unit a)).toNat := rfl
  have hfront : bytes = (0xA5 :: answerBody unit a) ++ beBytes 2 (crc16 (answerBody unit a)).toNat := rfl
  have hplace : 4 + a.payload.length = (0xA5 :: answerBody unit a).length := by
    rw [List.length_cons, hlen]
    omega
  refine ⟨?_, rfl, byteOf_of_lt, rfl, byteOf_of_lt, ?_, ?_⟩
  · rw [hfront, List.length_append, ← hplace]
    show 4 + _ + 2 = _
    omega
  · rw [hpayload]
    exact List.take_left
  · have hfirst := byteAt_append_right (0xA5 :: answerBody unit a) (beBytes 2 (crc16 (answerBody unit a)).toNat) 0
    rw [Nat.add_zero] at hfirst
    rw [hbody, hplace, hfront, beAt_two, byteAt_append_right, hfirst]
    exact two_bytes (crc16 (answerBody unit a)).isLt

/-- Settles O8: the rows by what is held, the withdrawal by whether it is being sent, and the frame on the line. -/
theorem answerSentThenReleased : Obligations.AnswerSentThenReleased := by
  unfold Obligations.AnswerSentThenReleased
  refine ⟨fun s a ha => ?_, fun s => exec_noAnswer,
    fun st => ⟨fun c f => Stager.fixExpiry_held, Stager.fixExpiry_other⟩, fun s kind payload => rfl,
    fun s => State.withdrawAnswer_kept, fun s a => State.withdrawAnswer_ready, fun s => rfl, fun s => State.lineOut_silent,
    fun s a ha hs => ⟨_, State.lineOut_sending ha hs, answerFrame_read s.link.unit a⟩⟩
  rw [execAnswerBegin_held ha, execAnswerEnd_held ha]
  refine ⟨fun hs => ?_, fun hs => ?_, fun hs => ?_, fun hs => ?_⟩ <;> rw [hs] <;> rfl

end Sys2Proof.Machine
end

section
/-! SUPPORT. Staging and commit requests: what each owner makes of a request, and the row that carries it. -/

namespace Sys2Proof.Machine

/-! ### Staging one entry (R23) -/

section
variable {s : State} {e : StagedEntry}

/-- R23: an entry with the key is replaced in place, however full the list. -/
theorem stageEntry_replaces (h : ∃ x ∈ s.stager.staging, x.key = e.key) :
    stageEntry e s = (s.withStaging (s.stager.staging.map fun x => if x.key = e.key then e else x),
      some [0x00, byteOf s.stager.staging.length, 0x01]) := by
  have hany : s.stager.staging.any (fun x => decide (x.key = e.key)) = true := by simpa using h
  simp only [stageEntry, hany, if_true]
  rfl

/-- R23: an entry with a new key joins a list that has room. -/
theorem stageEntry_appends (h : ∀ x ∈ s.stager.staging, x.key ≠ e.key) (hlen : s.stager.staging.length < 64) :
    stageEntry e s = (s.withStaging (s.stager.staging ++ [e]),
      some [0x00, byteOf (s.stager.staging.length + 1), 0x00]) := by
  have hany : s.stager.staging.any (fun x => decide (x.key = e.key)) = false := by simpa using h
  have hroom : s.stager.staging.length < stagingCapacity := hlen
  simp only [stageEntry, hany, hroom, if_true]
  rfl

/-- R23: an entry with a new key finds the list full. -/
theorem stageEntry_full (h : ∀ x ∈ s.stager.staging, x.key ≠ e.key) (hlen : s.stager.staging.length = 64) :
    stageEntry e s = (s, some [0x05]) := by
  have hany : s.stager.staging.any (fun x => decide (x.key = e.key)) = false := by simpa using h
  have hfull : ¬ s.stager.staging.length < stagingCapacity := by
    rw [hlen]
    exact Nat.lt_irrefl 64
  simp only [stageEntry, hany, hfull, if_false]
  rfl

end

/-! ### The rows of staging requests (R24 to R27) -/

/-- The row of a staging request hands its entry to the staging list. -/
theorem exec_stagingRow {s : State} (hs : s.TakesRequests) {e : StagedEntry} (he : e.valid = true) {t : State}
    {p : List Byte} (ho : stageEntry e s.frameEnd = (t, some p)) :
    exec (stagingRow e).1 s = t.answers (stagingRow e).2 p := by
  cases e with
  | itemSet code body =>
    obtain ⟨hc, hb⟩ := Bool.and_eq_true_iff.1 he
    refine congrArg Host.Outcome.next (hs.handed (r := itemStageRequest (itemForm code body)) rfl ?_)
    simp only [itemStageRequest, itemStageOwner, parseItem_itemForm hc hb, ho]
  | itemRemove code =>
    have hcode : beAt (beBytes 2 code) 0 2 = code := beAt_beBytes_two (by have := validCode_iff.1 he; omega)
    refine congrArg Host.Outcome.next (hs.handed (r := itemRemoveRequest (beBytes 2 code)) rfl ?_)
    have hv : validCode code = true := he
    simp only [itemRemoveRequest, itemRemoveOwner, hcode, hv, if_true, ho]
  | promoSet i q =>
    refine congrArg Host.Outcome.next (hs.handed (r := promoStageRequest (byteOf i.val :: promoForm q)) rfl ?_)
    have hi : byteAt (byteOf i.val :: promoForm q) 0 = i.val := byteOf_of_lt (by omega)
    simp only [promoStageRequest, promoStageOwner, hi, i.isLt, dite_true, List.drop_succ_cons, List.drop_zero,
      parsePromo_promoForm he, ho]
  | rulesSet r =>
    refine congrArg Host.Outcome.next (hs.handed (r := rulesStageRequest (rulesForm r)) rfl ?_)
    simp only [rulesStageRequest, rulesStageOwner, parseRules_rulesForm he, ho]

/-- Settles O12: the form of a valid entry is parsed back to it, and the list takes it, replaces its key's entry or is full. -/
theorem stagingKeepsOneEntryPerKeyOrEmpties : Obligations.StagingKeepsOneEntryPerKeyOrEmpties := by
  unfold Obligations.StagingKeepsOneEntryPerKeyOrEmpties
  refine ⟨fun s e hs he _ => ?_, fun s hs => ?_⟩
  · rw [← State.frameEnd_staging s]
    exact ⟨fun h => exec_stagingRow hs he (stageEntry_replaces h),
      fun h hlen => exec_stagingRow hs he (stageEntry_appends h hlen),
      fun h hlen => exec_stagingRow hs he (stageEntry_full h hlen)⟩
  · exact congrArg Host.Outcome.next (hs.handed (r := stageAbortRequest []) rfl rfl)

/-! ### COMMIT (R29) -/

theorem switchOf_none {n : Nat} (h : 2 ≤ n) : switchOf n = none := by
  match n, h with
  | n + 2, _ => rfl

theorem switchOf_flag {n : Nat} (h : n ≤ 1) : switchOf n = some (decide (n = 1)) := by
  match n, h with
  | 0, _ => rfl
  | 1, _ => rfl

section
variable {s : State} {payload : List Byte}

/-- R29: a hold byte above 01h comes before everything. -/
theorem commitOwner_badValue (h : 2 ≤ byteAt payload 4) : commitOwner payload s = (s, some [0x04]) := by
  simp only [commitOwner, switchOf_none h]
  rfl

/-- R29: a commit record in any state refuses another. -/
theorem commitOwner_busy (h : byteAt payload 4 ≤ 1) (hc : s.stager.commit ≠ none) :
    commitOwner payload s = (s, some [0x08]) := by
  simp only [commitOwner, switchOf_flag h, Option.isSome_iff_ne_none.2 hc, if_true]
  rfl

/-- R29: nothing staged, nothing to commit. -/
theorem commitOwner_nothingStaged (h : byteAt payload 4 ≤ 1) (hc : s.stager.commit = none) (hl : s.stager.staging = []) :
    commitOwner payload s = (s, some [0x07]) := by
  simp only [commitOwner, switchOf_flag h, hc, hl]
  rfl

/-- R29: the CHECKING record, its answer still to come. -/
theorem commitOwner_checks (h : byteAt payload 4 ≤ 1) (hc : s.stager.commit = none) (hl : s.stager.staging ≠ []) :
    commitOwner payload s = (s.withCommit (some {
      state := .checking, entries := [], hold := decide (byteAt payload 4 = 1),
      digest := BitVec.ofNat 32 (beAt payload 0 4) }), none) := by
  have hempty : s.stager.staging.isEmpty = false := by simpa using hl
  simp only [commitOwner, switchOf_flag h, hc, hempty]
  rfl

end

/-- The end of a frame neither makes nor ends a commit record. -/
theorem State.frameEnd_commit_eq_none (s : State) : s.frameEnd.stager.commit = none ↔ s.stager.commit = none := by
  have hfix : s.stager.fixExpiry.commit = none ↔ s.stager.commit = none := by
    by_cases h : ∃ c f, s.stager.commit = some c ∧ c.state = .held f
    · obtain ⟨c, f, hc, hs⟩ := h
      simp [Stager.fixExpiry_held hc hs, hc]
    · rw [Stager.fixExpiry_other fun c f hc hs => h ⟨c, f, hc, hs⟩]
  rcases s.frameEnd_stager with h | h
  · rw [h]
  · rw [h, hfix]

/-- Settles O14: the owner's refusals in the order of R29, and the row that carries the request to it. -/
theorem commitTakenOrRefusedAtOnce : Obligations.CommitTakenOrRefusedAtOnce := by
  unfold Obligations.CommitTakenOrRefusedAtOnce
  refine ⟨fun s payload => ⟨commitOwner_badValue, commitOwner_busy⟩, fun s payload hs hlen => ?_⟩
  have hfits : (commitRequest payload).lengthFits = true := decide_eq_true hlen
  have answered : ∀ {p}, commitOwner payload s.frameEnd = (s.frameEnd, some p) →
      exec (.commit .addressed payload) s = s.frameEnd.answers 0x07 p := fun ho =>
    congrArg Host.Outcome.next (hs.handed hfits ho)
  rw [ne_eq, ← State.frameEnd_commit_eq_none s, ← State.frameEnd_staging s]
  refine ⟨fun h => answered (commitOwner_badValue h), fun h hc => answered (commitOwner_busy h hc),
    fun h hc hl => answered (commitOwner_nothingStaged h hc hl), fun h hc hl => ?_⟩
  refine congrArg Host.Outcome.next ((State.onFrame_handed hs hfits).trans ?_)
  simp only [commitRequest, commitOwner_checks h hc hl]

/-! ### APPLY, COMMIT_CANCEL and HOLD_EXPIRY (R34 to R36) -/

/-- At the end of a frame a HELD record is still HELD, its expiry perhaps fixed, and nothing else of the stager has changed. -/
theorem State.frameEnd_held {s : State} {c : CommitRecord} {f : Bool} (hc : s.stager.commit = some c) (hs : c.state = .held f) :
    ∃ g, s.frameEnd.stager = { s.stager with commit := some { c with state := .held g } } := by
  rcases s.frameEnd_stager with h | h
  · exact ⟨f, by rw [h, ← hs, ← hc]⟩
  · exact ⟨true, h.trans (Stager.fixExpiry_held hc hs)⟩

/-- The end of a frame leaves the stager as it is where no record is HELD. -/
theorem State.frameEnd_stager_same {s : State} (h : ∀ c f, s.stager.commit = some c → c.state ≠ .held f) :
    s.frameEnd.stager = s.stager := by
  rcases s.frameEnd_stager with heq | heq
  · exact heq
  · rw [heq, Stager.fixExpiry_other h]

section
variable {s : State} {c : CommitRecord}

/-- R34: APPLY with no record. -/
theorem applyOwner_none (hc : s.stager.commit = none) : applyOwner s = (s, some [0x0C]) := by
  simp only [applyOwner, hc]
  rfl

/-- R34: APPLY of a record that is not being checked. -/
theorem applyOwner_some (hc : s.stager.commit = some c) (hs : c.state ≠ .checking) : applyOwner s =
    (s.withCommit (some { c with state := .pending }), some ([0x00, 0x03] ++ beBytes 2 s.stager.commitNumber.toNat)) := by
  simp only [applyOwner, hc, hs, if_false]
  rfl

/-- R35: COMMIT_CANCEL with no record, by how the last one ended. -/
theorem commitCancelOwner_none (hc : s.stager.commit = none) : commitCancelOwner s =
    (s, some [if s.stager.lastOutcome = .applied then 0x0D else 0x0C]) := by
  simp only [commitCancelOwner, hc]
  split <;> rfl

/-- R35: COMMIT_CANCEL of a HELD record. -/
theorem commitCancelOwner_held {f : Bool} (hc : s.stager.commit = some c) (hs : c.state = .held f) : commitCancelOwner s =
    ({ s with stager := { s.stager with commit := none, lastOutcome := .cancelled } }, some [0x00]) := by
  simp only [commitCancelOwner, hc, hs]
  rfl

/-- R35: COMMIT_CANCEL of a PENDING record. -/
theorem commitCancelOwner_pending (hc : s.stager.commit = some c) (hs : c.state = .pending) :
    commitCancelOwner s = (s, some [0x0D]) := by
  simp only [commitCancelOwner, hc, hs]
  rfl

/-- R36: the expiry of a HELD record. -/
theorem execHoldExpiry_held (hc : s.stager.commit = some c) (hs : c.state = .held true) : exec .holdExpiry s =
    .next (({ s with stager := { s.stager with commit := none, lastOutcome := .expired } } : State).raisePos
      .commitExpired) := by
  simp only [exec, execHoldExpiry, hc, hs, if_true]

theorem execHoldExpiry_other (h : ∀ c, s.stager.commit = some c → c.state ≠ .held true) :
    exec .holdExpiry s = .next s := by
  cases hc : s.stager.commit with
  | none => simp only [exec, execHoldExpiry, hc]
  | some c => simp only [exec, execHoldExpiry, hc, h c hc, if_false]

/-- A record made PENDING that is PENDING already is the record as it was. -/
theorem State.withCommit_pending (hc : s.stager.commit = some c) (hs : c.state = .pending) :
    s.withCommit (some { c with state := .pending }) = s := by
  rw [State.withCommit, ← hs, ← hc]

/-- R164: a flag just raised holds ATTN low. -/
theorem State.attnLow_raisePos (s : State) (f : PosFlag) : (s.raisePos f).attnLow = true := by
  refine List.any_eq_true.2 ⟨f, by cases f <;> decide, ?_⟩
  simp [State.posFlag_raisePos]

end

/-- Settles O17: each row by the state of the record that the end of its frame leaves. -/
theorem heldCommitEndsThreeWays : Obligations.HeldCommitEndsThreeWays := by
  unfold Obligations.HeldCommitEndsThreeWays
  refine fun s => ⟨fun hs => ?_, fun c hc hstate => ?_, fun c hc hstate => ?_, execHoldExpiry_other⟩
  · have applied : ∀ {t p}, applyOwner s.frameEnd = (t, some p) → exec (.apply .addressed []) s = t.answers 0x08 p :=
      fun ho => congrArg Host.Outcome.next (hs.handed (r := applyRequest []) rfl ho)
    have cancelled : ∀ {t p}, commitCancelOwner s.frameEnd = (t, some p) →
        exec (.commitCancel .addressed []) s = t.answers 0x09 p :=
      fun ho => congrArg Host.Outcome.next (hs.handed (r := commitCancelRequest []) rfl ho)
    rw [← State.frameEnd_commitNumber s, ← State.frameEnd_lastOutcome s]
    refine ⟨fun hc => ?_, fun c f hc hstate => ?_, fun c hc hstate => ?_⟩
    · have hfc := (State.frameEnd_commit_eq_none s).2 hc
      exact ⟨applied (applyOwner_none hfc), cancelled (commitCancelOwner_none hfc)⟩
    · obtain ⟨g, hg⟩ := State.frameEnd_held hc hstate
      have hfc : s.frameEnd.stager.commit = some { c with state := .held g } := by rw [hg]
      refine ⟨applied (applyOwner_some (c := { c with state := .held g }) hfc nofun),
        (cancelled (commitCancelOwner_held hfc rfl)).trans ?_⟩
      rw [hg]
    · have hsame := State.frameEnd_stager_same (s := s) fun d f hd hf => by
        rw [hc] at hd
        cases hd
        rw [hstate] at hf
        cases hf
      have hfc : s.frameEnd.stager.commit = some c := by rw [hsame, hc]
      have happly := applied (applyOwner_some hfc (by simp [hstate]))
      rw [State.withCommit_pending hfc hstate] at happly
      exact ⟨happly, cancelled (commitCancelOwner_pending hfc hstate)⟩
  · rw [execHoldExpiry_held hc hstate]
    rfl
  · exact ⟨_, execHoldExpiry_held hc hstate, State.attnLow_raisePos _ _⟩

end Sys2Proof.Machine
end

section
/-! SUPPORT. CheckedTableIsAppliedTable: the projected table, and how the application of an entry moves it into the table. -/

namespace Sys2Proof.Machine

/-! ### The items of a table by code (R1) -/

/-- The table holds an item of this code with this body. -/
def PriceTable.bears (t : PriceTable) (code : Nat) (body : ItemBody) : Prop :=
  ∃ i it, t.item i = some it ∧ it.code = code ∧ it.body = body

section
variable {t : PriceTable}

theorem ItemsSound.bears_iff (h : ItemsSound t.items) {code : Nat} {body : ItemBody} :
    t.bears code body ↔ ∃ e ∈ t.items, e.2.code = code ∧ e.2.body = body :=
  ⟨fun ⟨_, _, hi, hc, hb⟩ => ⟨_, PriceTable.mem_of_item hi, hc, hb⟩,
   fun ⟨_, he, hc, hb⟩ => ⟨_, _, PriceTable.item_of_mem h.1 he, hc, hb⟩⟩

theorem PriceTable.has_iff_bears {code : Nat} (h : ItemsSound t.items) : t.has code = true ↔ ∃ body, t.bears code body := by
  simp only [PriceTable.has_iff, h.bears_iff]
  exact ⟨fun ⟨e, he, hc⟩ => ⟨_, e, he, hc, rfl⟩, fun ⟨_, e, he, hc, _⟩ => ⟨e, he, hc⟩⟩

theorem ItemsSound.valid_of_bears (h : ItemsSound t.items) {code : Nat} {body : ItemBody} (hb : t.bears code body) :
    validCode code = true ∧ body.valid = true := by
  obtain ⟨e, he, rfl, rfl⟩ := h.bears_iff.1 hb
  exact h.2.2 e he

/-- R2: a table of fewer than 512 items has a free index. -/
theorem PriceTable.exists_lowestFree (h : t.items.length < 512) : ∃ i, t.lowestFree = some i := by
  by_contra hno
  have hheld : ∀ i : ItemIndex, i ∈ t.items.map (·.1) := by
    intro i
    have hi : t.item i ≠ none := by
      have := List.find?_eq_none.1 (Option.eq_none_iff_forall_ne_some.2 fun i hi => hno ⟨i, hi⟩) i (List.mem_finRange i)
      simpa using this
    obtain ⟨it, hit⟩ := Option.ne_none_iff_exists'.1 hi
    exact List.mem_map.2 ⟨_, PriceTable.mem_of_item hit, rfl⟩
  have := ((List.nodup_finRange 512).subperm fun i _ => hheld i).length_le
  simp only [List.length_finRange, List.length_map] at this
  omega

end

/-! ### The projected items (R30) -/

theorem stagedItem_eq_none {l : List StagedEntry} {code : Nat} :
    stagedItem l code = none ↔ ∀ e ∈ l, e.key ≠ .item code := by
  simp [stagedItem]

theorem StagedEntry.item_eq_some {e : StagedEntry} {code : Nat} {body : ItemBody} :
    e.item = some (code, body) ↔ e = .itemSet code body := by
  cases e <;> simp [StagedEntry.item]

/-- The keys of the staged sets are among the keys of the list. -/
theorem itemKeys_sublist (l : List StagedEntry) :
    ((l.filterMap StagedEntry.item).map (fun e => EntryKey.item e.1)).Sublist (l.map StagedEntry.key) := by
  induction l with
  | nil => exact .slnil
  | cons e l ih =>
    cases e with
    | itemSet code body => exact ih.cons_cons _
    | _ => exact ih.cons _

section
variable {t : PriceTable} {l : List StagedEntry}

theorem mem_keptItems {it : Item} :
    it ∈ keptItems t l ↔ (∃ i, (i, it) ∈ t.items) ∧ ∀ e ∈ l, e.key ≠ .item it.code := by
  simp only [keptItems, List.mem_filter, List.mem_map, t.byCode_perm.mem_iff, Option.isNone_iff_eq_none, stagedItem_eq_none,
    Prod.exists, exists_eq_right]

/-- The items that the projected table takes, before they are put in order. -/
theorem projectedItems_perm (t : PriceTable) (l : List StagedEntry) : (projectedItems t l).Perm
    ((keptItems t l).map (fun it => (it.code, it.body)) ++ l.filterMap StagedEntry.item) := List.perm_insertionSort _ _

/-- R30: an item of the projected table is a staged set, or a live item that no entry names. -/
theorem mem_projectedItems (h : ItemsSound t.items) {code : Nat} {body : ItemBody} : (code, body) ∈ projectedItems t l ↔
    .itemSet code body ∈ l ∨ ((∀ e ∈ l, e.key ≠ .item code) ∧ t.bears code body) := by
  rw [(projectedItems_perm t l).mem_iff, List.mem_append, or_comm, h.bears_iff]
  refine or_congr ?_ ?_
  · simp [List.mem_filterMap, StagedEntry.item_eq_some]
  · simp only [List.mem_map, mem_keptItems, Prod.mk.injEq]
    constructor
    · rintro ⟨it, ⟨⟨i, hi⟩, hno⟩, rfl, rfl⟩
      exact ⟨hno, _, hi, rfl, rfl⟩
    · rintro ⟨hno, ⟨i, it⟩, hi, rfl, rfl⟩
      exact ⟨it, ⟨⟨i, hi⟩, hno⟩, rfl, rfl⟩

/-- No code stands twice in the projected table. -/
theorem projectedItems_codes_nodup (h : ItemsSound t.items) (hl : (l.map StagedEntry.key).Nodup) :
    ((projectedItems t l).map (·.1)).Nodup := by
  have hkept : ((keptItems t l).map (·.code)).Nodup := by
    have hall : ((t.byCode.map (·.2)).map (·.code)).Nodup := by
      rw [List.map_map]
      exact (t.byCode_perm.map _).nodup_iff.2 h.2.1
    exact hall.sublist (List.filter_sublist.map _)
  have hset : ((l.filterMap StagedEntry.item).map (·.1)).Nodup := by
    refine List.Nodup.of_map EntryKey.item ?_
    rw [List.map_map]
    exact hl.sublist (itemKeys_sublist l)
  rw [((projectedItems_perm t l).map _).nodup_iff, List.map_append, List.map_map]
  refine hkept.append hset fun code hk hs => ?_
  obtain ⟨it, hit, rfl⟩ := List.mem_map.1 hk
  obtain ⟨⟨code, body⟩, he, rfl⟩ := List.mem_map.1 hs
  obtain ⟨e, he, hitem⟩ := List.mem_filterMap.1 he
  rw [StagedEntry.item_eq_some] at hitem
  subst hitem
  exact (mem_keptItems.1 hit).2 _ he rfl

/-- R30: the projected table is in strictly ascending code. -/
theorem projectedItems_strict (h : ItemsSound t.items) (hl : (l.map StagedEntry.key).Nodup) :
    (projectedItems t l).Pairwise (fun a b => a.1 < b.1) := by
  have total : Std.Total (fun a b : Nat × ItemBody => a.1 ≤ b.1) := ⟨fun a b => Nat.le_total ..⟩
  have trans : IsTrans (Nat × ItemBody) (fun a b => a.1 ≤ b.1) := ⟨fun a b c => Nat.le_trans⟩
  have hsorted : (projectedItems t l).Pairwise (fun a b => a.1 ≤ b.1) := List.pairwise_insertionSort _ _
  exact (hsorted.and (List.pairwise_map.1 (projectedItems_codes_nodup h hl))).imp fun hab => lt_of_le_of_ne hab.1 hab.2

end

/-- Two projected tables of the same items are the same list. -/
theorem projectedItems_ext {t u : PriceTable} {k l : List StagedEntry} (ht : ItemsSound t.items) (hu : ItemsSound u.items)
    (hk : (k.map StagedEntry.key).Nodup) (hl : (l.map StagedEntry.key).Nodup)
    (h : ∀ code body, (code, body) ∈ projectedItems t k ↔ (code, body) ∈ projectedItems u l) :
    projectedItems t k = projectedItems u l := by
  have hperm := (List.perm_ext_iff_of_nodup (projectedItems_codes_nodup ht hk).of_map
    (projectedItems_codes_nodup hu hl).of_map).2 fun e => h e.1 e.2
  exact hperm.eq_of_pairwise (fun a b _ _ hab hba => absurd hab hba.asymm) (projectedItems_strict ht hk)
    (projectedItems_strict hu hl)

/-! ### The table that an applied entry leaves (R38 to R40) -/

/-- Writing an item over the one of its code, or at a free index. -/
theorem ItemsSound.bears_putItem {t : PriceTable} (h : ItemsSound t.items) {i : ItemIndex} {it : Item}
    (hp : ItemsSound (t.putItem i it).items) (hold : ∀ old, t.item i = some old → old.code = it.code)
    (hfree : ∀ e ∈ t.items, e.2.code = it.code → e.1 = i) {code : Nat} {body : ItemBody} :
    (t.putItem i it).bears code body ↔ (code = it.code ∧ body = it.body) ∨ (code ≠ it.code ∧ t.bears code body) := by
  rw [hp.bears_iff, h.bears_iff]
  simp only [PriceTable.putItem, Sparse.mem_put_iff h.1]
  constructor
  · rintro ⟨e, rfl | ⟨he, hne⟩, rfl, rfl⟩
    · exact .inl ⟨rfl, rfl⟩
    · exact .inr ⟨fun hc => hne (hfree e he hc), e, he, rfl, rfl⟩
  · rintro (⟨rfl, rfl⟩ | ⟨hne, e, he, rfl, rfl⟩)
    · exact ⟨_, .inl rfl, rfl, rfl⟩
    · refine ⟨e, .inr ⟨he, ?_⟩, rfl, rfl⟩
      rintro rfl
      exact hne (hold e.2 (PriceTable.item_of_mem h.1 he))

/-- Dropping the item of a code. -/
theorem ItemsSound.bears_drop {t : PriceTable} (h : ItemsSound t.items) {i : ItemIndex} {c : Nat}
    (hi : t.indexOf c = some i) {u : PriceTable} (hu : u.items = Sparse.drop t.items i) {code : Nat} {body : ItemBody} :
    u.bears code body ↔ code ≠ c ∧ t.bears code body := by
  obtain ⟨it, hit, rfl⟩ := h.indexOf_iff.1 hi
  have hdrop : ItemsSound u.items := hu ▸ h.drop i
  rw [hdrop.bears_iff, h.bears_iff, hu]
  simp only [Sparse.mem_drop]
  constructor
  · rintro ⟨e, ⟨he, hne⟩, rfl, rfl⟩
    exact ⟨fun hc => hne (congrArg Prod.fst (h.key_unique he (PriceTable.mem_of_item hit) hc)), e, he, rfl, rfl⟩
  · rintro ⟨hne, e, he, rfl, rfl⟩
    refine ⟨e, ⟨he, ?_⟩, rfl, rfl⟩
    rintro rfl
    have := PriceTable.item_of_mem h.1 he
    rw [hit] at this
    cases this
    exact hne rfl

/-- Writing what a key already holds changes nothing. -/
theorem Sparse.put_eq_self {κ α : Type} [LinearOrder κ] {m : List (κ × α)} (hm : Sparse.rising m = true) {k : κ} {v : α}
    (h : (k, v) ∈ m) : Sparse.put m k v = m := by
  rw [Sparse.rising_iff] at hm
  induction m with
  | nil => cases h
  | cons e rest ih =>
    obtain ⟨a, w⟩ := e
    obtain ⟨hlow, hrest⟩ := List.pairwise_cons.1 hm
    rcases List.mem_cons.1 h with heq | hin
    · cases heq
      simp [Sparse.put]
    · have hak : a < k := hlow _ hin
      rw [Sparse.put, if_neg hak.not_gt, if_neg hak.ne', ih hrest hin]

/-- How many items a drop leaves. -/
theorem Sparse.length_drop {κ α : Type} [LinearOrder κ] {m : List (κ × α)} (hm : Sparse.rising m = true) {k : κ} {v : α}
    (h : (k, v) ∈ m) : (Sparse.drop m k).length + 1 = m.length := by
  have hput := (Sparse.put_perm hm k v).length_eq
  rw [Sparse.put_eq_self hm h, List.length_cons] at hput
  exact hput.symm

theorem Sparse.length_put_free {κ α : Type} [LinearOrder κ] {m : List (κ × α)} (hm : Sparse.rising m = true) {k : κ}
    (h : Sparse.find m k = none) (v : α) : (Sparse.put m k v).length = m.length + 1 := by
  rw [(Sparse.put_perm hm k v).length_eq, Sparse.drop_eq_self (Sparse.find_eq_none_iff.1 h), List.length_cons]

theorem Sparse.length_put_held {κ α : Type} [LinearOrder κ] {m : List (κ × α)} (hm : Sparse.rising m = true) {k : κ}
    {w : α} (h : Sparse.find m k = some w) (v : α) : (Sparse.put m k v).length = m.length := by
  rw [(Sparse.put_perm hm k v).length_eq, List.length_cons, Sparse.length_drop hm (Sparse.mem_of_find h)]

/-- `u` is what an applied entry makes of the items of `t`: it holds the entry's item in the place of any of that code, and as
many items as the running count says. -/
structure Applies (t u : PriceTable) (e : StagedEntry) : Prop where
  sound : ItemsSound u.items
  bears : ∀ code body, u.bears code body ↔ e = .itemSet code body ∨ (e.key ≠ .item code ∧ t.bears code body)
  count : u.items.length = runningCount t t.items.length e

/-- R38: an applied ITEM_SET, where the table has room for it. -/
theorem State.applyItemSet_applies {s : State} (h : ItemsSound s.table.items) {code : Nat} {body : ItemBody}
    (hc : validCode code = true) (hb : body.valid = true)
    (hroom : runningCount s.table s.table.items.length (.itemSet code body) ≤ 512) :
    Applies s.table (s.applyItemSet code body).table (.itemSet code body) := by
  have written : ∀ i a, (∀ old, s.table.item i = some old → old.code = code) →
      (∀ e ∈ s.table.items, e.2.code = code → e.1 = i) →
      (s.table.putItem i ⟨code, body, false, .good, a⟩).items.length =
        runningCount s.table s.table.items.length (.itemSet code body) →
      Applies s.table (s.setItemAt i code body a).table (.itemSet code body) := by
    intro i a hold hfree hcount
    rw [State.setItemAt_table]
    have hput : ItemsSound (s.table.putItem i ⟨code, body, false, .good, a⟩).items := h.put hc hb hfree
    refine ⟨hput, fun c b => ?_, hcount⟩
    rw [h.bears_putItem hput hold hfree]
    simp only [StagedEntry.key, StagedEntry.itemSet.injEq, ne_eq, EntryKey.item.injEq, eq_comm]
  cases hi : s.table.indexOf code with
  | some i =>
    obtain ⟨it, hit, hcode⟩ := h.indexOf_iff.1 hi
    rw [State.applyItemSet_at body (.inl hi)]
    refine written i _ (fun old hold => ?_) (fun e he hce => ?_) ?_
    · rw [hit] at hold
      cases hold
      exact hcode
    · exact congrArg Prod.fst (h.key_unique he (PriceTable.mem_of_item hit) (hce.trans hcode.symm))
    · exact (Sparse.length_put_held h.1 hit _).trans (if_pos (PriceTable.has_of_indexOf hi)).symm
  | none =>
    have hno := PriceTable.has_eq_false_iff.2 hi
    rw [runningCount, hno] at hroom
    obtain ⟨i, hlow⟩ := PriceTable.exists_lowestFree (t := s.table) hroom
    have hfree := PriceTable.item_of_lowestFree hlow
    simp only [State.applyItemSet, hi, hlow]
    refine written i _ (fun old hold => ?_) (fun e he hce => ?_) ?_
    · rw [hfree] at hold
      cases hold
    · exact absurd hce (PriceTable.indexOf_eq_none_iff.1 hi e he)
    · rw [runningCount, hno]
      exact Sparse.length_put_free h.1 hfree _

/-- R39: an applied ITEM_REMOVE. -/
theorem State.applyItemRemove_applies {s : State} (h : ItemsSound s.table.items) (code : Nat) :
    Applies s.table (s.applyItemRemove code).table (.itemRemove code) := by
  have hkey : ∀ c, (StagedEntry.itemRemove code).key ≠ .item c ↔ c ≠ code := fun c => by
    simp [StagedEntry.key, eq_comm]
  cases hi : s.table.indexOf code with
  | none =>
    have hno := PriceTable.has_eq_false_iff.2 hi
    rw [State.applyItemRemove_absent s hi]
    refine ⟨h, fun c b => ?_, by rw [runningCount, hno]; rfl⟩
    rw [hkey]
    refine ⟨fun hb => .inr ⟨?_, hb⟩, fun hb => (hb.resolve_left nofun).2⟩
    rintro rfl
    rw [(PriceTable.has_iff_bears h).2 ⟨b, hb⟩] at hno
    exact Bool.noConfusion hno
  | some i =>
    obtain ⟨it, hit, -⟩ := h.indexOf_iff.1 hi
    have htable : (s.applyItemRemove code).table.items = Sparse.drop s.table.items i := by
      rw [State.applyItemRemove_at s hi, State.withMarkedItem, State.unsuspend_table]
      rfl
    refine ⟨htable ▸ h.drop i, fun c b => ?_, ?_⟩
    · rw [hkey, h.bears_drop hi htable]
      exact (or_iff_right nofun).symm
    · have := Sparse.length_drop h.1 (PriceTable.mem_of_item hit)
      rw [htable, runningCount, if_pos (PriceTable.has_of_indexOf hi)]
      omega

theorem State.applyEntry_applies {s : State} (h : ItemsSound s.table.items) {e : StagedEntry} (he : e.valid = true)
    (hroom : runningCount s.table s.table.items.length e ≤ 512) : Applies s.table (s.applyEntry e).table e := by
  cases e with
  | itemSet code body =>
    obtain ⟨hc, hb⟩ := Bool.and_eq_true_iff.1 he
    exact (State.applyItemSet_applies h hc hb hroom :)
  | itemRemove code => exact State.applyItemRemove_applies h code
  | promoSet i p => exact ⟨h, fun c b => ((or_iff_right nofun).trans (and_iff_right nofun)).symm, rfl⟩
  | rulesSet r => exact ⟨h, fun c b => ((or_iff_right nofun).trans (and_iff_right nofun)).symm, rfl⟩

/-- R38 to R40: an applied entry moves its promotion or its rules into the table. -/
theorem State.applyEntry_settings (s : State) (e : StagedEntry) :
    (s.applyEntry e).table.promos = projectedPromos s.table [e] ∧
      (s.applyEntry e).table.rules = projectedRules s.table [e] := by
  cases e with
  | itemSet code body =>
    simp only [State.applyEntry, State.applyItemSet]
    split
    · rw [State.setItemAt_table]
      exact ⟨rfl, rfl⟩
    · split
      · rw [State.setItemAt_table]
        exact ⟨rfl, rfl⟩
      · exact ⟨rfl, rfl⟩
  | itemRemove code =>
    simp only [State.applyEntry]
    cases hi : s.table.indexOf code with
    | none =>
      rw [State.applyItemRemove_absent s hi]
      exact ⟨rfl, rfl⟩
    | some i =>
      rw [State.applyItemRemove_at s hi, State.withMarkedItem, State.unsuspend_table]
      exact ⟨rfl, rfl⟩
  | promoSet i p => exact ⟨rfl, rfl⟩
  | rulesSet r => exact ⟨rfl, rfl⟩

/-! ### The application entry by entry -/

theorem projectedPromos_cons (t : PriceTable) (e : StagedEntry) (l : List StagedEntry) :
    projectedPromos t (e :: l) = projectedPromos { t with promos := projectedPromos t [e] } l := rfl

theorem projectedRules_cons (t : PriceTable) (e : StagedEntry) (l : List StagedEntry) :
    projectedRules t (e :: l) = projectedRules { t with rules := projectedRules t [e] } l := rfl

theorem projectedPromos_congr {t u : PriceTable} (h : t.promos = u.promos) (l : List StagedEntry) :
    projectedPromos t l = projectedPromos u l := by
  simp only [projectedPromos, h]

theorem projectedRules_congr {t u : PriceTable} (h : t.rules = u.rules) (l : List StagedEntry) :
    projectedRules t l = projectedRules u l := by
  simp only [projectedRules, h]

/-- The entries left to apply project the table that an applied entry leaves onto the same items. -/
theorem Applies.projectedItems_eq {t u : PriceTable} {e : StagedEntry} (h : Applies t u e) (ht : ItemsSound t.items)
    {l : List StagedEntry} (hkeys : ((e :: l).map StagedEntry.key).Nodup) : projectedItems u l = projectedItems t (e :: l) := by
  obtain ⟨hnew, hl⟩ := List.nodup_cons.1 hkeys
  refine projectedItems_ext h.sound ht hl hkeys fun code body => ?_
  rw [mem_projectedItems h.sound, mem_projectedItems ht, h.bears, List.mem_cons, List.forall_mem_cons]
  have hother : e = .itemSet code body → ∀ x ∈ l, x.key ≠ .item code := by
    rintro rfl x hx hkey
    exact hnew (List.mem_map.2 ⟨x, hx, hkey⟩)
  constructor
  · rintro (hin | ⟨hno, rfl | ⟨hne, hb⟩⟩)
    · exact .inl (.inr hin)
    · exact .inl (.inl rfl)
    · exact .inr ⟨⟨hne, hno⟩, hb⟩
  · rintro ((rfl | hin) | ⟨⟨hne, hno⟩, hb⟩)
    · exact .inr ⟨hother rfl, .inl rfl⟩
    · exact .inl hin
    · exact .inr ⟨hno, .inr ⟨hne, hb⟩⟩

/-- An applied entry changes the running count of no entry of another key. -/
theorem Applies.runningCount_eq {t u : PriceTable} {e : StagedEntry} (h : Applies t u e) (ht : ItemsSound t.items)
    {x : StagedEntry} (hx : e.key ≠ x.key) (n : Nat) : runningCount u n x = runningCount t n x := by
  have hhas : ∀ code, x.key = .item code → u.has code = t.has code := by
    intro code hcode
    rw [hcode] at hx
    rw [Bool.eq_iff_iff, PriceTable.has_iff_bears h.sound, PriceTable.has_iff_bears ht]
    refine exists_congr fun body => ?_
    rw [h.bears]
    refine ⟨?_, fun hb => .inr ⟨hx, hb⟩⟩
    rintro (rfl | ⟨-, hb⟩)
    · exact absurd rfl hx
    · exact hb
  cases x with
  | itemSet code body => rw [runningCount, runningCount, hhas code rfl]
  | itemRemove code => rw [runningCount, runningCount, hhas code rfl]
  | promoSet i p => rfl
  | rulesSet r => rfl

theorem Applies.runningCounts_eq {t u : PriceTable} {e : StagedEntry} (h : Applies t u e) (ht : ItemsSound t.items)
    {l : List StagedEntry} (hl : ∀ x ∈ l, e.key ≠ x.key) (n : Nat) :
    l.foldl (runningCount u) n = l.foldl (runningCount t) n :=
  List.foldl_ext _ _ _ fun n _ hx => h.runningCount_eq ht (hl _ hx) n

/-- The digest form of what is left to apply, over the table that an entry leaves, is that of the whole list before it. -/
theorem State.digestForm_applyEntry {s : State} {e : StagedEntry} (h : ItemsSound s.table.items)
    (ha : Applies s.table (s.applyEntry e).table e) {l : List StagedEntry} (hkeys : ((e :: l).map StagedEntry.key).Nodup) :
    digestForm (s.applyEntry e).table l = digestForm s.table (e :: l) := by
  obtain ⟨hpromos, hrules⟩ := s.applyEntry_settings e
  rw [digestForm, digestForm, ha.projectedItems_eq h hkeys, projectedPromos_cons, projectedRules_cons,
    projectedPromos_congr (u := { s.table with promos := projectedPromos s.table [e] }) hpromos,
    projectedRules_congr (u := { s.table with rules := projectedRules s.table [e] }) hrules]

/-- R37 to R40: the application of a list whose running count stays within the table leaves the projected table. -/
theorem State.digestForm_applyEntries {l : List StagedEntry} {s : State} (h : ItemsSound s.table.items)
    (hkeys : (l.map StagedEntry.key).Nodup) (hvalid : ∀ e ∈ l, e.valid = true)
    (hroom : ∀ k ≤ l.length, (l.take k).foldl (runningCount s.table) s.table.items.length ≤ 512) :
    digestForm (l.foldl State.applyEntry s).table [] = digestForm s.table l := by
  induction l generalizing s with
  | nil => rfl
  | cons e l ih =>
    have hfirst : runningCount s.table s.table.items.length e ≤ 512 := hroom 1 (by simp)
    have ha := State.applyEntry_applies h (hvalid e List.mem_cons_self) hfirst
    obtain ⟨hnew, hl⟩ := List.nodup_cons.1 hkeys
    have hother : ∀ x ∈ l, e.key ≠ x.key := fun x hx hkey => hnew (List.mem_map.2 ⟨x, hx, hkey.symm⟩)
    rw [List.foldl_cons, ih ha.sound hl (fun x hx => hvalid x (List.mem_cons_of_mem _ hx)) fun k hk => ?_,
      State.digestForm_applyEntry h ha hkeys]
    rw [ha.runningCounts_eq h fun x hx => hother x (List.mem_of_mem_take hx), ha.count]
    exact hroom (k + 1) (Nat.succ_le_succ hk)

end Sys2Proof.Machine
end

section
/-! SUPPORT. CheckedTableIsAppliedTable: the projected promotions and rules, the digest form byte for byte, and the
statement. -/

namespace Sys2Proof.Machine

/-! ### The projected promotions and rules (R30) -/

section
variable {l : List StagedEntry}

/-- R30: a promotion that no entry names is the live one. -/
theorem projectedPromos_live {i : Fin 32} (h : ∀ p, .promoSet i p ∉ l) (t : PriceTable) :
    (projectedPromos t l)[i] = t.promos[i] := by
  induction l generalizing t with
  | nil => rfl
  | cons e l ih =>
    rw [projectedPromos_cons, ih fun p hp => h p (List.mem_cons_of_mem _ hp)]
    cases e with
    | promoSet j q =>
      have hne : j.val ≠ i.val := fun hji => h q (Fin.ext hji ▸ List.mem_cons_self)
      exact Vector.getElem_set_ne j.isLt i.isLt hne
    | _ => rfl

/-- R30: a promotion that an entry names is the entry's. -/
theorem projectedPromos_staged (hkeys : (l.map StagedEntry.key).Nodup) {i : Fin 32} {p : Promotion} (h : .promoSet i p ∈ l)
    (t : PriceTable) : (projectedPromos t l)[i] = p := by
  induction l generalizing t with
  | nil => cases h
  | cons e l ih =>
    obtain ⟨hnew, hl⟩ := List.nodup_cons.1 hkeys
    rw [projectedPromos_cons]
    rcases List.mem_cons.1 h with rfl | hin
    · rw [projectedPromos_live fun q hq => hnew (List.mem_map.2 ⟨_, hq, rfl⟩)]
      exact Vector.getElem_set_self i.isLt
    · exact ih hl hin _

/-- R30: the rules that no entry changes are the live ones. -/
theorem projectedRules_live (h : ∀ r, .rulesSet r ∉ l) (t : PriceTable) : projectedRules t l = t.rules := by
  induction l generalizing t with
  | nil => rfl
  | cons e l ih =>
    rw [projectedRules_cons, ih fun r hr => h r (List.mem_cons_of_mem _ hr)]
    cases e with
    | rulesSet r => exact absurd List.mem_cons_self (h r)
    | _ => rfl

/-- R30: the rules that an entry carries. -/
theorem projectedRules_staged (hkeys : (l.map StagedEntry.key).Nodup) {r : Rules} (h : .rulesSet r ∈ l) (t : PriceTable) :
    projectedRules t l = r := by
  induction l generalizing t with
  | nil => cases h
  | cons e l ih =>
    obtain ⟨hnew, hl⟩ := List.nodup_cons.1 hkeys
    rw [projectedRules_cons]
    rcases List.mem_cons.1 h with rfl | hin
    · rw [projectedRules_live fun q hq => hnew (List.mem_map.2 ⟨_, hq, rfl⟩)]
      rfl
    · exact ih hl hin _

end

/-! ### The projected table is valid -/

section
variable {t : PriceTable} {l : List StagedEntry}

theorem projectedItems_valid (h : ItemsSound t.items) (hl : ∀ e ∈ l, e.valid = true) {code : Nat} {body : ItemBody}
    (hmem : (code, body) ∈ projectedItems t l) : validCode code = true ∧ body.valid = true := by
  rcases (mem_projectedItems h).1 hmem with hset | ⟨-, hlive⟩
  · exact Bool.and_eq_true_iff.1 (hl _ hset)
  · exact h.valid_of_bears hlive

theorem projectedPromos_valid (h : ∀ i : Fin 32, t.promos[i].valid = true) (hl : EntriesSound l) (i : Fin 32) :
    (projectedPromos t l)[i].valid = true := by
  obtain ⟨-, hkeys, hvalid⟩ := hl
  by_cases hset : ∃ p, .promoSet i p ∈ l
  · obtain ⟨p, hp⟩ := hset
    rw [projectedPromos_staged hkeys hp]
    exact hvalid _ hp
  · rw [projectedPromos_live fun p hp => hset ⟨p, hp⟩]
    exact h i

theorem projectedRules_valid (h : t.rules.valid = true) (hl : EntriesSound l) : (projectedRules t l).valid = true := by
  obtain ⟨-, hkeys, hvalid⟩ := hl
  by_cases hset : ∃ r, .rulesSet r ∈ l
  · obtain ⟨r, hr⟩ := hset
    rw [projectedRules_staged hkeys hr]
    exact hvalid _ hr
  · rw [projectedRules_live fun r hr => hset ⟨r, hr⟩]
    exact h

end

/-! ### Forms of one length in a row -/

section
variable {α : Type} {f : α → List Byte} {n : Nat}

theorem flatMap_length (hf : ∀ x, (f x).length = n) (l : List α) : (l.flatMap f).length = n * l.length := by
  induction l with
  | nil => rfl
  | cons x l ih => rw [List.flatMap_cons, List.length_append, hf, ih, List.length_cons, Nat.mul_succ, Nat.add_comm]

/-- Past `k` forms of `n` bytes the next form stands. -/
theorem drop_flatMap (hf : ∀ x, (f x).length = n) {l : List α} {k : Nat} {x : α} (h : l[k]? = some x) (back : List Byte) :
    ∃ rest, (l.flatMap f ++ back).drop (n * k) = f x ++ rest := by
  induction l generalizing k with
  | nil => simp at h
  | cons y l ih =>
    rw [List.flatMap_cons, List.append_assoc]
    cases k with
    | zero =>
      obtain rfl : y = x := by simpa using h
      exact ⟨_, rfl⟩
    | succ k =>
      obtain ⟨rest, hrest⟩ := ih (k := k) (by simpa using h)
      refine ⟨rest, ?_⟩
      rw [Nat.mul_succ, Nat.add_comm, ← List.drop_drop, List.drop_left' (hf y), hrest]

end

/-! ### The digest form (R31) -/

/-- R31: the bytes of one item of the projected table. -/
def entryForm (e : Nat × ItemBody) : List Byte := itemForm e.1 e.2

theorem entryForm_length (e : Nat × ItemBody) : (entryForm e).length = 16 := itemForm_length e.1 e.2

section
variable (t : PriceTable) (l : List StagedEntry)

/-- R31: the bytes of the projected items. -/
def digestItems : List Byte := (projectedItems t l).flatMap entryForm

/-- R31: the bytes of the projected promotions. -/
def digestPromos : List Byte := (projectedPromos t l).toList.flatMap promoForm

theorem digestForm_parts :
    digestForm t l = digestItems t l ++ (digestPromos t l ++ rulesForm (projectedRules t l)) :=
  List.append_assoc ..

theorem digestItems_length : (digestItems t l).length = 16 * (projectedItems t l).length :=
  flatMap_length entryForm_length _

theorem digestPromos_length : (digestPromos t l).length = 160 := by
  rw [digestPromos, flatMap_length promoForm_length, Vector.length_toList]

theorem digestForm_length : (digestForm t l).length = 16 * (projectedItems t l).length + 166 := by
  rw [digestForm_parts, List.length_append, List.length_append, digestItems_length, digestPromos_length, rulesForm_length]

theorem digestForm_item {k : Nat} {e : Nat × ItemBody} (h : (projectedItems t l)[k]? = some e) :
    ∃ rest, (digestForm t l).drop (16 * k) = itemForm e.1 e.2 ++ rest := by
  rw [digestForm_parts]
  exact drop_flatMap entryForm_length h _

theorem digestForm_promo (i : Fin 32) : ∃ rest,
    (digestForm t l).drop (16 * (projectedItems t l).length + 5 * i.val) = promoForm (projectedPromos t l)[i] ++ rest := by
  rw [digestForm_parts, ← digestItems_length, ← List.drop_drop, List.drop_left]
  exact drop_flatMap promoForm_length (by simp) _

theorem digestForm_rules :
    (digestForm t l).drop (16 * (projectedItems t l).length + 160) = rulesForm (projectedRules t l) := by
  rw [digestForm_parts, ← digestItems_length, ← digestPromos_length t l, ← List.drop_drop, List.drop_left, List.drop_left]

end

/-- Settles O16: the application entry by entry leaves the projected table, and the digest form shows its fields at their
places. -/
theorem checkedTableIsAppliedTable : Obligations.CheckedTableIsAppliedTable := by
  unfold Obligations.CheckedTableIsAppliedTable
  refine ⟨fun s c hs hc hp hroom => ?_, fun t l => rfl, fun t l hitems hpromos hrules hl => ?_⟩
  · obtain ⟨⟨-, hkeys, hvalid⟩, -⟩ := hs.commit c hc
    rw [State.applyCommit_pending hc hp]
    exact State.digestForm_applyEntries hs.items hkeys hvalid hroom
  · have ⟨_, hkeys, hvalid⟩ := hl
    refine ⟨_, projectedPromos t l, projectedRules t l, rfl, projectedItems_strict hitems hkeys,
      fun code body => mem_projectedItems hitems, fun i p hp => projectedPromos_staged hkeys hp t,
      fun i hno => projectedPromos_live hno t, fun r hr => projectedRules_staged hkeys hr t,
      fun hno => projectedRules_live hno t, digestForm_length t l, fun k code body hk => ?_, fun i => ?_, ?_⟩
    · obtain ⟨hcode, hbody⟩ := projectedItems_valid hitems hvalid (List.mem_of_getElem? hk)
      obtain ⟨rest, hrest⟩ := digestForm_item t l hk
      rw [hrest]
      exact itemForm_read hcode hbody rest
    · obtain ⟨rest, hrest⟩ := digestForm_promo t l i
      obtain ⟨hfirst, hfields⟩ := promoForm_read (projectedPromos_valid hpromos hl i) rest
      rw [hrest]
      refine ⟨hfirst.trans (congrArg _ ?_), hfields⟩
      cases (projectedPromos t l)[i].kind <;> rfl
    · obtain ⟨htax, hrate, hstep, hround, hlast⟩ := rulesForm_read (projectedRules_valid hrules hl)
      rw [digestForm_rules]
      refine ⟨htax.trans ?_, hrate, hstep, hround.trans ?_, hlast⟩
      · cases (projectedRules t l).taxMode <;> rfl
      · cases (projectedRules t l).rounding <;> rfl

end Sys2Proof.Machine
end

section
/-! SUPPORT. SCHEDULE_SET: its entries as they stand in the payload, and how they are examined. -/

namespace Sys2Proof.Machine

/-! ### The payload (Table 12-2) -/

/-- A schedule entry as the pair of numbers that its form carries. -/
def ScheduleEntry.pair (g : ScheduleEntry) : Nat × Nat := (g.start, g.daypart.val)

/-- Table 12-2: the payload of SCHEDULE_SET, its count and then its entries, each of the layout of an AVAIL_SET pair. -/
def schedulePayload (l : List (Nat × Nat)) : List Byte := byteOf l.length :: l.flatMap pairBytes

/-- The entry after `front` reads back its start minute and its daypart. -/
theorem schedulePayload_read {e : Nat × Nat} (h1 : e.1 < 65536) (h2 : e.2 < 256) (front rest : List (Nat × Nat)) :
    beAt (schedulePayload (front ++ e :: rest)) (1 + 3 * front.length) 2 = e.1 ∧
      byteAt (schedulePayload (front ++ e :: rest)) (3 + 3 * front.length) = e.2 := by
  have hread := pairBytes_read (pairBytes_length front) h1 h2 (rest.flatMap pairBytes)
  rw [beAt_two] at hread
  rw [beAt_two, schedulePayload, List.flatMap_append, List.flatMap_cons, Nat.add_comm 1, Nat.add_comm 3]
  simpa only [byteAt_cons_succ] using hread

theorem schedulePayload_count {l : List (Nat × Nat)} (h : l.length < 256) : byteAt (schedulePayload l) 0 = l.length :=
  byteOf_of_lt h

theorem scheduleSetRequest_fits {l : List (Nat × Nat)} (h : l.length < 256) :
    (scheduleSetRequest (schedulePayload l)).lengthFits = true := by
  have hlen : (schedulePayload l).length = 1 + 3 * l.length := by
    rw [schedulePayload, List.length_cons, pairBytes_length, Nat.add_comm]
  simp only [scheduleSetRequest, schedulePayload_count h, hlen]
  rfl

/-! ### The examination of the entries (R44) -/

theorem daypartOf_none {n : Nat} (h : 4 ≤ n) : daypartOf n = none := dif_neg (Nat.not_lt.2 h)

/-- An entry whose start rises above the one before it is passed. -/
theorem parseEntries_pass {g : ScheduleEntry} {low : Option Nat} (hstart : g.start < 1440)
    (hlow : low.all (fun m => decide (m < g.start)) = true) (front rest : List (Nat × Nat)) (n : Nat) :
    parseEntries (schedulePayload (front ++ g.pair :: rest)) (n + 1) front.length low =
      (parseEntries (schedulePayload (front ++ g.pair :: rest)) n (front.length + 1) (some g.start)).map (g :: ·) := by
  have hminute : g.start < 65536 := by omega
  have hday : g.daypart.val < 256 := by omega
  obtain ⟨hs, hd⟩ : _ = g.start ∧ _ = g.daypart.val := schedulePayload_read (e := g.pair) hminute hday front rest
  simp only [parseEntries, hs, hd, daypartOf_index, hstart, hlow, decide_true, Bool.and_self, if_true]
  cases parseEntries (schedulePayload (front ++ g.pair :: rest)) n (front.length + 1) (some g.start) <;> rfl

/-- R44: rising entries are all passed, in order. -/
theorem parseEntries_rising_ok {es : List ScheduleEntry} {low : Option Nat} (hrise : startsRising low es = true)
    (front : List (Nat × Nat)) :
    parseEntries (schedulePayload (front ++ es.map ScheduleEntry.pair)) es.length front.length low = .ok es := by
  induction es generalizing low front with
  | nil => rfl
  | cons g es ih =>
    simp only [startsRising, Bool.and_eq_true, decide_eq_true_eq] at hrise
    obtain ⟨⟨hstart, hlow⟩, hrest⟩ := hrise
    have hnext := ih hrest (front ++ [g.pair])
    rw [List.append_assoc, List.length_append] at hnext
    rw [List.map_cons, List.length_cons, parseEntries_pass hstart hlow]
    exact congrArg (Except.map (g :: ·)) hnext

/-- R44: rising entries are passed up to the first that is no entry or does not go on rising, and its position is named. -/
theorem parseEntries_first_failing {good : List ScheduleEntry} {low : Option Nat} (hrise : startsRising low good = true)
    {e : Nat × Nat} (h1 : e.1 < 65536) (h2 : e.2 < 256)
    (hfail : ∀ d, daypartOf e.2 = some d → startsRising low (good ++ [⟨e.1, d⟩]) = false)
    (front rest : List (Nat × Nat)) (n : Nat) :
    parseEntries (schedulePayload (front ++ (good.map ScheduleEntry.pair ++ e :: rest))) (good.length + (n + 1))
      front.length low = .error (good.length + front.length) := by
  induction good generalizing low front with
  | nil =>
    obtain ⟨hs, hd⟩ := schedulePayload_read h1 h2 front rest
    simp only [List.map_nil, List.nil_append, List.length_nil, Nat.zero_add, parseEntries, hs, hd]
    cases hday : daypartOf e.2 with
    | none => rfl
    | some d =>
      have hbad := hfail d hday
      simp only [List.nil_append, startsRising, Bool.and_true] at hbad
      simp only [hbad, Bool.false_eq_true, if_false]
  | cons g good ih =>
    simp only [startsRising, Bool.and_eq_true, decide_eq_true_eq] at hrise
    obtain ⟨⟨hstart, hlow⟩, hrest⟩ := hrise
    have hnext := ih hrest
      (fun d hd => by simpa only [List.cons_append, startsRising, hstart, hlow, decide_true, Bool.true_and] using hfail d hd)
      (front ++ [g.pair])
    rw [List.append_assoc, List.length_append] at hnext
    rw [List.map_cons, List.cons_append, List.length_cons, Nat.add_right_comm, Nat.add_right_comm _ 1 front.length,
      parseEntries_pass hstart hlow]
    exact congrArg (Except.map (g :: ·)) hnext

/-- R43: an entry out of range, or that does not start after every entry before it, breaks a schedule. -/
theorem startsRising_append_false {good : List ScheduleEntry} {x : ScheduleEntry}
    (h : 1440 ≤ x.start ∨ ∃ g ∈ good, x.start ≤ g.start) : startsRising none (good ++ [x]) = false := by
  rw [Bool.eq_false_iff, ne_eq, startsRising_iff, List.pairwise_append]
  rintro ⟨hrange, -, -, habove⟩
  rcases h with h | ⟨g, hg, hle⟩
  · exact absurd (hrange x (by simp)) (Nat.not_lt.2 h)
  · exact absurd (habove g hg x (List.mem_singleton_self x)) (Nat.not_lt.2 hle)

/-! ### The schedule of a payload (R44) -/

section
variable {l : List (Nat × Nat)}

theorem parseSchedule_count (h : l.length < 256) (hbad : l.length = 0 ∨ 4 < l.length) :
    parseSchedule (schedulePayload l) = .error 0 := by
  simp only [parseSchedule, schedulePayload_count h]
  exact if_neg (by omega)

theorem parseSchedule_entries (h1 : 1 ≤ l.length) (h4 : l.length ≤ 4) :
    parseSchedule (schedulePayload l) = parseEntries (schedulePayload l) l.length 0 none := by
  simp only [parseSchedule, schedulePayload_count (l := l) (by omega)]
  exact if_pos ⟨h1, h4⟩

theorem parseSchedule_valid_ok {es : List ScheduleEntry} (h : scheduleValid es = true) :
    parseSchedule (schedulePayload (es.map ScheduleEntry.pair)) = .ok es := by
  simp only [scheduleValid, Bool.and_eq_true, decide_eq_true_eq] at h
  obtain ⟨⟨h1, h4⟩, hrise⟩ := h
  rw [parseSchedule_entries (by rwa [List.length_map]) (by rwa [List.length_map]), List.length_map]
  exact parseEntries_rising_ok hrise []

theorem parseSchedule_first_failing {good : List ScheduleEntry} {e : Nat × Nat} {rest : List (Nat × Nat)}
    (hl : l = good.map ScheduleEntry.pair ++ e :: rest) (h4 : l.length ≤ 4) (h1 : e.1 < 65536) (h2 : e.2 < 256)
    (hrise : startsRising none good = true) (hbad : 1440 ≤ e.1 ∨ 4 ≤ e.2 ∨ ∃ g ∈ good, e.1 ≤ g.start) :
    parseSchedule (schedulePayload l) = .error good.length := by
  have hlen : l.length = good.length + (rest.length + 1) := by
    rw [hl, List.length_append, List.length_map, List.length_cons]
  have hfail : ∀ d, daypartOf e.2 = some d → startsRising none (good ++ [⟨e.1, d⟩]) = false := by
    intro d hd
    refine startsRising_append_false ?_
    rcases hbad with h | h | h
    · exact .inl h
    · rw [daypartOf_none h] at hd
      cases hd
    · exact .inr h
  have hparse := parseEntries_first_failing hrise h1 h2 hfail [] rest rest.length
  rw [parseSchedule_entries (by omega) h4, hlen, hl]
  exact hparse

/-! ### The row -/

variable {s : State}

theorem scheduleSetOwner_error {payload : List Byte} {k : Nat} (h : parseSchedule payload = .error k) :
    scheduleSetOwner payload s = (s, some [0x04, byteOf k]) := by
  simp only [scheduleSetOwner, h]
  rfl

theorem scheduleSetOwner_ok {payload : List Byte} {es : List ScheduleEntry} (h : parseSchedule payload = .ok es) :
    scheduleSetOwner payload s = ({ s with daypart := { s.daypart with schedule := es },
                                           nva := s.nva.markDirty scheduleSlot }, some [0x00, byteOf es.length]) := by
  simp only [scheduleSetOwner, h]
  rfl

end

/-- Settles O20: the entries are examined in order, and all of them pass or the first that fails is named. -/
theorem scheduleSetReplacesWhole : Obligations.ScheduleSetReplacesWhole := by
  unfold Obligations.ScheduleSetReplacesWhole
  intro s l hs hlen hsize
  have hfits := scheduleSetRequest_fits (l := l) (by omega)
  have refused : ∀ {k}, parseSchedule (schedulePayload l) = .error k →
      exec (.scheduleSet .addressed (schedulePayload l)) s = s.frameEnd.answers 0x0B [0x04, byteOf k] := fun h =>
    congrArg Host.Outcome.next (hs.handed hfits (scheduleSetOwner_error h))
  refine ⟨fun hcount => refused (parseSchedule_count (by omega) hcount), fun es hvalid hl => ?_,
    fun good e rest h4 hl hrise hbad => ?_⟩
  · have hparse : parseSchedule (schedulePayload l) = .ok es := by
      rw [hl]
      exact parseSchedule_valid_ok hvalid
    rw [← s.frameEnd_daypart, ← s.frameEnd_nva]
    exact congrArg Host.Outcome.next (hs.handed hfits (scheduleSetOwner_ok hparse))
  · obtain ⟨h1, h2⟩ := hsize e (by simp [hl])
    exact refused (parseSchedule_first_failing hl h4 h1 h2 hrise hbad)

end Sys2Proof.Machine
end

section
/-! SUPPORT. DAYPART_FORCE, TIME_SET and SECOND_TICK: what each owner makes of its payload, and the tick of a set time. -/

namespace Sys2Proof.Machine

/-! ### DAYPART_FORCE (R45) -/

theorem forceOf_daypart (d : Daypart) : forceOf d.val = some (some d) := by
  rw [forceOf, if_neg (by omega), daypartOf_index]
  rfl

theorem forceOf_release : forceOf 0xFF = some none := rfl

theorem forceOf_none {n : Nat} (h : 4 ≤ n) (hr : n ≠ 0xFF) : forceOf n = none := by
  rw [forceOf, if_neg hr, daypartOf_none h]
  rfl

section
variable {s : State} {b : Byte}

theorem daypartForceOwner_taken {f : Option Daypart} (h : forceOf b.toNat = some f) : daypartForceOwner [b] s =
    ({ s with daypart := { s.daypart with force := f } }, some [0x00, forceByte f, byteOf s.daypart.live.val]) := by
  simp only [daypartForceOwner, byteAt_cons_zero, h]
  rfl

theorem daypartForceOwner_refused (h : forceOf b.toNat = none) : daypartForceOwner [b] s = (s, some [0x04]) := by
  simp only [daypartForceOwner, byteAt_cons_zero, h]
  rfl

end

/-! ### TIME_SET (R42) -/

section
variable {s : State} {m sec : Nat}

/-- The payload of TIME_SET reads back its minute and its second. -/
theorem timePayload_read (hm : m < 65536) (hsec : sec < 256) :
    beAt (beBytes 2 m ++ [byteOf sec]) 0 2 = m ∧ byteAt (beBytes 2 m ++ [byteOf sec]) 2 = sec := by
  rw [beAt_two]
  exact ⟨two_bytes hm, byteOf_of_lt hsec⟩

theorem timeSetOwner_taken (hm : m < 1440) (hsec : sec < 60) : timeSetOwner (beBytes 2 m ++ [byteOf sec]) s =
    ({ s with daypart := { s.daypart with time := some { minute := m, second := sec } } },
      some (0x00 :: (beBytes 2 m ++ [byteOf sec]))) := by
  obtain ⟨hminute, hsecond⟩ := timePayload_read (m := m) (sec := sec) (by omega) (by omega)
  simp only [timeSetOwner, hminute, hsecond]
  exact if_pos ⟨hm, hsec⟩

theorem timeSetOwner_refused (hm : m < 65536) (hsec : sec < 256) (h : 1440 ≤ m ∨ 60 ≤ sec) :
    timeSetOwner (beBytes 2 m ++ [byteOf sec]) s = (s, some [0x04]) := by
  obtain ⟨hminute, hsecond⟩ := timePayload_read hm hsec
  simp only [timeSetOwner, hminute, hsecond]
  exact if_neg (by omega)

end

/-! ### SECOND_TICK (R41) -/

/-- R41: the tick of a time in range, its carry into the minute and its wrap at midnight. -/
theorem TimeOfDay.tick_eq {m sec : Nat} (hm : m < 1440) (hsec : sec < 60) : TimeOfDay.tick ⟨m, sec⟩ =
    ⟨if sec = 59 then (m + 1) % 1440 else m, (sec + 1) % 60⟩ := by
  unfold TimeOfDay.tick
  by_cases hcarry : sec = 59
  · subst hcarry
    by_cases hwrap : m + 1 < 1440
    · simp [hwrap, Nat.mod_eq_of_lt hwrap]
    · obtain rfl : m = 1439 := by omega
      rfl
  · have hnext : sec + 1 < 60 := by omega
    simp [hcarry, hnext, Nat.mod_eq_of_lt hnext]

theorem execSecondTick_time {s : State} {t : Option TimeOfDay} (h : s.daypart.time.map TimeOfDay.tick = t) :
    exec .secondTick s = .next { s with daypart := { s.daypart with time := t } } := by
  rw [← h]
  rfl

/-- Settles O21: what each owner makes of its payload, and the tick by whether the time is set. -/
theorem forceAndTimeSetAndTicked : Obligations.ForceAndTimeSetAndTicked := by
  unfold Obligations.ForceAndTimeSetAndTicked
  refine ⟨fun s b hs => ?_, fun s => ⟨fun hs m sec hm hsec => ?_, fun hunset => ?_, fun m sec hset hm hsec => ?_⟩⟩
  · have answered : ∀ {t p}, daypartForceOwner [b] s.frameEnd = (t, some p) →
        exec (.daypartForce .addressed [b]) s = t.answers 0x0C p := fun ho =>
      congrArg Host.Outcome.next (hs.handed (r := daypartForceRequest [b]) rfl ho)
    rw [← s.frameEnd_daypart]
    refine ⟨fun d hb => ?_, ?_, fun h4 hr => ?_⟩
    · have hbyte : forceByte (some d) = b := by rw [forceByte, ← hb, byteOf_toNat_self]
      have htaken := answered (daypartForceOwner_taken (hb ▸ forceOf_daypart d))
      rwa [hbyte] at htaken
    · rintro rfl
      exact answered (daypartForceOwner_taken forceOf_release)
    · exact answered (daypartForceOwner_refused (forceOf_none h4 fun h => hr (BitVec.eq_of_toNat_eq h)))
  · have answered : ∀ {t p}, timeSetOwner (beBytes 2 m ++ [byteOf sec]) s.frameEnd = (t, some p) →
        exec (.timeSet .addressed (beBytes 2 m ++ [byteOf sec])) s = t.answers 0x0D p := fun ho =>
      congrArg Host.Outcome.next (hs.handed (r := timeSetRequest (beBytes 2 m ++ [byteOf sec])) rfl ho)
    rw [← s.frameEnd_daypart]
    exact ⟨fun hm hsec => answered (timeSetOwner_taken hm hsec),
      fun h => answered (timeSetOwner_refused hm hsec h)⟩
  · exact execSecondTick_time (by rw [hunset]; rfl)
  · refine execSecondTick_time ?_
    rw [hset, Option.map_some, TimeOfDay.tick_eq hm hsec]

end Sys2Proof.Machine
end

section
/-! SUPPORT. StepKeepsArrayBookkeeping: the operations of the NV price array keep the write queue, the repair list and the slot
states in agreement. -/

namespace Sys2Proof.Machine

theorem itemSlot_injective : Function.Injective itemSlot := fun i j h => by
  simpa [slotKind_itemSlot] using congrArg slotKind h

/-! ### What the array writes -/

section
variable {n : Nva}

theorem Nva.writes_write {w : SlotWrite} (h : n.op = .write w) (k : SlotId) : n.writes k = decide (w.slot = k) := by
  simp [Nva.writes, h]

theorem Nva.writes_free (h : n.op = .free) (k : SlotId) : n.writes k = false := by simp [Nva.writes, h]

theorem Nva.writes_read {i : ItemIndex} (h : n.op = .read i) (k : SlotId) : n.writes k = false := by simp [Nva.writes, h]

end

/-! ### Changes that move no slot -/

section
variable {n m : Nva} {k : SlotId} {i : ItemIndex}

/-- A change that moves no slot, lists no repair and begins no read: the marks of a write, the contents of slots, the
journal, the fault list, or a repair withdrawn. -/
theorem NvaSound.congr (h : NvaSound n) (hstates : m.slotStates = n.slotStates) (hqueue : m.queue = n.queue)
    (hrepairs : m.repairs.Sublist n.repairs) (hwrites : ∀ k, m.writes k = n.writes k)
    (hreads : ∀ i, m.op = .read i → n.op = .read i) : NvaSound m := by
  have hst : m.slotState = n.slotState := by
    unfold Nva.slotState
    rw [hstates]
  exact {
    queueOnce := hqueue ▸ h.queueOnce
    queueDirty := fun k => by rw [hqueue, hst, h.queueDirty]
    writing := fun k => by rw [hst, hwrites, h.writing]
    repairsOnce := h.repairsOnce.sublist hrepairs
    repairsClean := fun i hi => by rw [hst, h.repairsClean i (hrepairs.subset hi)]
    readAlone := fun i hi hmem => h.readAlone i (hreads i hi) (hrepairs.subset hmem)
    readState := fun i hi => by
      rw [hst]
      exact h.readState i (hreads i hi)
    states := hstates ▸ h.states }

theorem NvaSound.log (h : NvaSound n) (f : FaultEntry) : NvaSound (n.log f) := by
  rw [n.log_eq f]
  exact h.congr rfl rfl (.refl _) (fun _ => rfl) fun _ hi => hi

/-- R58, R62: the marks of the write in flight change, and repairs may be withdrawn. -/
theorem NvaSound.markWrite (h : NvaSound n) {w : SlotWrite} (ho : n.op = .write w) (v : SlotWrite) (hv : v.slot = w.slot)
    {l : List ItemIndex} (hl : l.Sublist n.repairs) : NvaSound { n with repairs := l, op := .write v } := by
  refine h.congr rfl rfl hl (fun k => ?_) fun _ hi => by simp at hi
  rw [Nva.writes_write ho, Nva.writes_write (w := v) rfl, hv]

theorem NvaSound.withdrawRepair (h : NvaSound n) (i : ItemIndex) : NvaSound (n.withdrawRepair i) := by
  by_cases hw : ∃ w, n.op = .write w ∧ w.slot = itemSlot i
  · obtain ⟨w, ho, hw⟩ := hw
    rw [Nva.withdrawRepair_waiting ho hw]
    exact h.markWrite ho { w with repairWaits := false } rfl List.filter_sublist
  · rw [Nva.withdrawRepair_other fun w ho e => hw ⟨w, ho, e⟩]
    exact h.congr rfl rfl List.filter_sublist (fun _ => rfl) fun _ hi => hi

/-! ### One slot moves -/

/-- `m` follows `n` by one slot's move to a state: the slot is queued exactly where that state is DIRTY and written exactly
where it is WRITING; while its repair is listed or being read it stays in a state that the repair may meet. -/
structure Nva.Moves (n m : Nva) (k : SlotId) (st : SlotState) : Prop where
  states : m.slotStates = (n.setSlotState k st).slotStates
  repairs : m.repairs = n.repairs
  queueOnce : m.queue.Nodup
  queue : ∀ j, j ∈ m.queue ↔ if j = k then st = .dirty else j ∈ n.queue
  writes : ∀ j, m.writes j = true ↔ if j = k then st = .writing else n.writes j = true
  listed : st = .clean ∨ ∀ i ∈ n.repairs, itemSlot i ≠ k
  reads : ∀ i, m.op = .read i → n.op = .read i ∧ (itemSlot i = k → st = .clean ∨ st = .dirty)

theorem Nva.Moves.slotState {st : SlotState} (h : n.Moves m k st) (j : SlotId) :
    m.slotState j = if j = k then st else n.slotState j := by
  rw [← Nva.slotState_setSlotState]
  unfold Nva.slotState
  rw [h.states]

theorem NvaSound.moves (hn : NvaSound n) {st : SlotState} (h : n.Moves m k st) : NvaSound m where
  queueOnce := h.queueOnce
  queueDirty j := by
    rw [h.queue, h.slotState]
    split
    · rfl
    · exact hn.queueDirty j
  writing j := by
    rw [h.writes, h.slotState]
    split
    · rfl
    · exact hn.writing j
  repairsOnce := h.repairs ▸ hn.repairsOnce
  repairsClean i hi := by
    rw [h.repairs] at hi
    rw [h.slotState]
    rcases h.listed with rfl | hk
    · rw [hn.repairsClean i hi, ite_self]
    · rw [if_neg (hk i hi), hn.repairsClean i hi]
  readAlone i hi := by
    rw [h.repairs]
    exact hn.readAlone i (h.reads i hi).1
  readState i hi := by
    obtain ⟨hread, hst⟩ := h.reads i hi
    rw [h.slotState]
    split
    · rename_i hk
      exact hst hk
    · exact hn.readState i hread
  states := h.states ▸ Sparse.canonical_setD hn.states k st

/-! ### What a sound bookkeeping says of a slot -/

/-- A WRITING slot is the one that the array writes. -/
theorem NvaSound.op_of_writing (h : NvaSound n) (hk : n.slotState k = .writing) :
    ∃ w, n.op = .write w ∧ w.slot = k := by
  have hw := (h.writing k).1 hk
  unfold Nva.writes at hw
  split at hw
  · rename_i w ho
    exact ⟨w, ho, of_decide_eq_true hw⟩
  all_goals cases hw

theorem NvaSound.writes_eq_false (h : NvaSound n) (hk : n.slotState k ≠ .writing) : n.writes k = false :=
  Bool.eq_false_iff.2 fun hw => hk ((h.writing k).2 hw)

theorem NvaSound.not_mem_queue (h : NvaSound n) (hk : n.slotState k ≠ .dirty) : k ∉ n.queue :=
  fun hq => hk ((h.queueDirty k).1 hq)

/-- A slot that is not CLEAN has no repair listed. -/
theorem NvaSound.not_listed (h : NvaSound n) (hk : n.slotState k ≠ .clean) : ∀ i ∈ n.repairs, itemSlot i ≠ k :=
  fun i hi e => hk (e ▸ h.repairsClean i hi)

/-! ### Slots marked DIRTY (R58) -/

theorem nodup_append_singleton {α : Type} {l : List α} {a : α} (hl : l.Nodup) (ha : a ∉ l) : (l ++ [a]).Nodup :=
  List.concat_eq_append (as := l) (a := a) ▸ hl.concat ha

/-- The queue that a slot not yet in it joins where it becomes DIRTY. -/
theorem NvaSound.joinQueue (h : NvaSound n) (hk : n.slotState k ≠ .dirty) (st : SlotState) :
    (n.queue ++ if st = .dirty then [k] else []).Nodup ∧
      ∀ j, (j ∈ n.queue ++ if st = .dirty then [k] else []) ↔ if j = k then st = .dirty else j ∈ n.queue := by
  have hnot := h.not_mem_queue hk
  by_cases hd : st = .dirty
  · rw [if_pos hd]
    refine ⟨nodup_append_singleton h.queueOnce hnot, fun j => ?_⟩
    by_cases hj : j = k <;> simp [hj, hd]
  · rw [if_neg hd, List.append_nil]
    refine ⟨h.queueOnce, fun j => ?_⟩
    by_cases hj : j = k
    · simp [hj, hd, hnot]
    · simp [hj]

theorem NvaSound.markDirty (h : NvaSound n) (hk : ∀ i ∈ n.repairs, itemSlot i ≠ k) : NvaSound (n.markDirty k) := by
  have queued (hs : n.slotState k = .clean ∨ n.slotState k = .stale ∨ n.slotState k = .faulted) :
      NvaSound (n.markDirty k) := by
    have hdirty : n.slotState k ≠ .dirty := by rcases hs with hs | hs | hs <;> simp [hs]
    have hwriting : n.slotState k ≠ .writing := by rcases hs with hs | hs | hs <;> simp [hs]
    obtain ⟨honce, hqueue⟩ := h.joinQueue hdirty .dirty
    rw [Nva.markDirty_queued hs]
    refine h.moves (k := k) (st := .dirty) {
      states := rfl
      repairs := rfl
      queueOnce := honce
      queue := hqueue
      writes := fun j => ?_
      listed := .inr hk
      reads := fun i hi => ⟨hi, fun _ => .inr rfl⟩ }
    split
    · rename_i hj
      subst hj
      exact iff_of_false (Bool.eq_false_iff.1 (h.writes_eq_false hwriting)) (by simp)
    · rfl
  cases hs : n.slotState k with
  | clean => exact queued (.inl hs)
  | stale => exact queued (.inr (.inl hs))
  | faulted => exact queued (.inr (.inr hs))
  | dirty => exact (Nva.markDirty_dirty hs).symm ▸ h
  | writing =>
    obtain ⟨w, ho, hw⟩ := h.op_of_writing hs
    rw [Nva.markDirty_writing hs ho hw]
    exact h.markWrite ho { w with rewrite := true } rfl (.refl _)

theorem NvaSound.markItem (h : NvaSound n) (i : ItemIndex) : NvaSound (n.markItem i) := by
  refine (h.withdrawRepair i).markDirty fun j hj e => ?_
  have hne : j ≠ i := by simpa [Nva.withdrawRepair] using (List.mem_filter.1 hj).2
  exact hne (itemSlot_injective e)

/-- A slot that backs no item has no repair. -/
theorem NvaSound.markOther (h : NvaSound n) (hk : ∀ i, slotKind k ≠ .item i) : NvaSound (n.markDirty k) :=
  h.markDirty fun i _ e => hk i (e ▸ slotKind_itemSlot i)

/-! ### Repair requests (R62) -/

theorem Nva.not_outstanding (h : n.repairOutstanding i = false) : i ∉ n.repairs ∧ n.op ≠ .read i := by
  unfold Nva.repairOutstanding at h
  rw [Bool.or_eq_false_iff] at h
  obtain ⟨hlist, hop⟩ := h
  refine ⟨by simpa using hlist, fun ho => ?_⟩
  simp [ho] at hop

theorem NvaSound.listRepair (h : NvaSound n) (hclean : n.slotState (itemSlot i) = .clean) (hnew : i ∉ n.repairs)
    (hread : n.op ≠ .read i) : NvaSound { n with repairs := n.repairs ++ [i] } where
  queueOnce := h.queueOnce
  queueDirty := h.queueDirty
  writing := h.writing
  repairsOnce := nodup_append_singleton h.repairsOnce hnew
  repairsClean j hj := by
    rcases List.mem_append.1 hj with hj | hj
    · exact h.repairsClean j hj
    · exact List.mem_singleton.1 hj ▸ hclean
  readAlone j hj hmem := by
    rcases List.mem_append.1 hmem with hmem | hmem
    · exact h.readAlone j hj hmem
    · exact hread (List.mem_singleton.1 hmem ▸ hj)
  readState := h.readState
  states := h.states

/-- A slot that is not written leaves the queue, no repair of it being listed or read. -/
theorem NvaSound.rest (h : NvaSound n) {st : SlotState} (hst : st = .stale ∨ st = .faulted) {q : List SlotId}
    (honce : q.Nodup) (hq : ∀ j, j ∈ q ↔ j ∈ n.queue ∧ j ≠ k) (hwriting : n.slotState k ≠ .writing)
    (hlisted : ∀ i ∈ n.repairs, itemSlot i ≠ k) (hread : ∀ i, n.op = .read i → itemSlot i ≠ k) : NvaSound { n.setSlotState k st with queue := q } := by
  have hdirty : st ≠ .dirty := by rcases hst with rfl | rfl <;> simp
  have hnot : st ≠ .writing := by rcases hst with rfl | rfl <;> simp
  refine h.moves (k := k) (st := st) ⟨rfl, rfl, honce, fun j => ?_, fun j => ?_, .inr hlisted,
    fun i hi => ⟨hi, fun e => absurd e (hread i hi)⟩⟩
  · by_cases hj : j = k <;> simp [hj, hq, hdirty]
  · by_cases hj : j = k
    · subst hj
      rw [if_pos rfl]
      exact iff_of_false (Bool.eq_false_iff.1 (h.writes_eq_false hwriting)) hnot
    · rw [if_neg hj]
      rfl

theorem NvaSound.takeRepair (h : NvaSound n) (i : ItemIndex) : NvaSound (n.takeRepair i) := by
  cases ho : n.repairOutstanding i with
  | true => exact (Nva.takeRepair_outstanding ho).symm ▸ h
  | false =>
    obtain ⟨hnew, hread⟩ := Nva.not_outstanding ho
    cases hs : n.slotState (itemSlot i) with
    | clean => exact (Nva.takeRepair_clean ho hs).symm ▸ h.listRepair hs hnew hread
    | writing =>
      obtain ⟨w, hop, hw⟩ := h.op_of_writing hs
      rw [Nva.takeRepair_writing ho hs hop hw]
      exact h.markWrite hop { w with repairWaits := true } rfl (.refl _)
    | dirty =>
      rw [Nva.takeRepair_dirty ho hs]
      refine h.rest (.inl rfl) (h.queueOnce.filter _) (fun j => by simp) (by simp [hs]) (h.not_listed (by simp [hs]))
        fun j hj e => hread (itemSlot_injective e ▸ hj)
    | stale => exact (Nva.takeRepair_unusable ho (.inl hs)).symm ▸ h
    | faulted => exact (Nva.takeRepair_unusable ho (.inr hs)).symm ▸ h

/-! ### Slot writes (R60, R61) -/

theorem NvaSound.head_dirty (h : NvaSound n) {rest : List SlotId} (hq : n.queue = k :: rest) :
    n.slotState k = .dirty ∧ rest.Nodup ∧ ∀ j, j ∈ rest ↔ j ∈ n.queue ∧ j ≠ k := by
  have honce := h.queueOnce
  rw [hq] at honce
  obtain ⟨hk, hrest⟩ := List.nodup_cons.1 honce
  refine ⟨(h.queueDirty k).1 (hq ▸ List.mem_cons_self ..), hrest, fun j => ?_⟩
  rw [hq, List.mem_cons]
  constructor
  · exact fun hj => ⟨.inr hj, fun e => hk (e ▸ hj)⟩
  · exact fun ⟨hj, hne⟩ => hj.resolve_left hne

/-- R60: a source that cannot be copied leaves its slot STALE. -/
theorem NvaSound.headStale (h : NvaSound n) {rest : List SlotId} (hfree : n.op = .free) (hq : n.queue = k :: rest) :
    NvaSound { n.setSlotState k .stale with queue := rest } := by
  obtain ⟨hdirty, honce, hrest⟩ := h.head_dirty hq
  exact h.rest (.inl rfl) honce hrest (by simp [hdirty]) (h.not_listed (by simp [hdirty]))
    fun i hi => by simp [hfree] at hi

theorem NvaSound.headWriting (h : NvaSound n) {rest : List SlotId} (hfree : n.op = .free) (hq : n.queue = k :: rest)
    {w : SlotWrite} (hw : w.slot = k) (j : Journal) :
    NvaSound { n.setSlotState k .writing with queue := rest, journal := j, op := .write w } := by
  obtain ⟨hdirty, honce, hrest⟩ := h.head_dirty hq
  have hlisted := h.not_listed (k := k) (by simp [hdirty])
  refine h.moves (k := k) (st := .writing) ⟨rfl, rfl, honce, fun j => ?_, fun j => ?_, .inr hlisted,
    fun i hi => by simp at hi⟩
  · by_cases hj : j = k <;> simp [hj, hrest]
  · rw [Nva.writes_write rfl j, Nva.writes_free hfree, hw]
    by_cases hj : j = k
    · simp [hj]
    · simp [hj, Ne.symm hj]

/-- R61: the write in flight is over and its slot moves on. -/
theorem NvaSound.endWrite (h : NvaSound n) {w : SlotWrite} (ho : n.op = .write w) {st : SlotState} (hst : st ≠ .writing)
    (hstates : m.slotStates = (n.setSlotState w.slot st).slotStates) (hrepairs : m.repairs = n.repairs) (hfree : m.op = .free)
    (hqueue : m.queue = n.queue ++ if st = .dirty then [w.slot] else []) : NvaSound m := by
  have hk : n.slotState w.slot = .writing := (h.writing _).2 (by simp [Nva.writes_write ho])
  obtain ⟨honce, hmem⟩ := h.joinQueue (k := w.slot) (by simp [hk]) st
  refine h.moves (k := w.slot) (st := st) ⟨hstates, hrepairs, hqueue ▸ honce, hqueue ▸ hmem, fun j => ?_,
    .inr (h.not_listed (by simp [hk])), fun i hi => by simp [hfree] at hi⟩
  rw [Nva.writes_free hfree, Nva.writes_write ho]
  by_cases hj : j = w.slot
  · simp [hj, hst]
  · simp [hj, Ne.symm hj]

theorem NvaSound.afterWrite (h : NvaSound n) {w : SlotWrite} (ho : n.op = .write w) (v : NvSlot) (j : Journal)
    (verified : Bool) :
    NvaSound (({ n.setSlot w.slot v with journal := j, op := .free } : Nva).afterWrite w verified) := by
  unfold Nva.afterWrite
  split
  · exact h.endWrite ho (st := .dirty) (by simp) rfl rfl rfl rfl
  · split
    · exact h.endWrite ho (st := .clean) (by simp) rfl rfl rfl (List.append_nil _).symm
    · exact h.endWrite ho (st := .faulted) (by simp) rfl rfl rfl (List.append_nil _).symm

/-! ### Repair reads (R63, R64) -/

theorem NvaSound.beginRead (h : NvaSound n) {rest : List ItemIndex} (hfree : n.op = .free) (hr : n.repairs = i :: rest) :
    NvaSound { n with op := .read i, repairs := rest } := by
  have honce := h.repairsOnce
  rw [hr] at honce
  obtain ⟨hi, hrest⟩ := List.nodup_cons.1 honce
  have hsub : ∀ j ∈ rest, j ∈ n.repairs := fun j hj => hr ▸ List.mem_cons_of_mem _ hj
  exact {
    queueOnce := h.queueOnce
    queueDirty := h.queueDirty
    writing := fun k => by
      refine (h.writing k).trans ?_
      rw [Nva.writes_free hfree, Nva.writes_read rfl]
    repairsOnce := hrest
    repairsClean := fun j hj => h.repairsClean j (hsub j hj)
    readAlone := fun j hj => by
      cases hj
      exact hi
    readState := fun j hj => by
      cases hj
      exact .inl (h.repairsClean i (hr ▸ List.mem_cons_self ..))
    states := h.states }

/-- R63: a repair read is over and the array free. -/
theorem NvaSound.endRead (h : NvaSound n) (ho : n.op = .read i) (k : SlotId) (v : NvSlot) :
    NvaSound { n.setSlot k v with op := .free } :=
  h.congr rfl rfl (.refl _) (fun k => (Nva.writes_free rfl k).trans (Nva.writes_read ho k).symm) fun _ hi => by simp at hi

/-- R64: a repair read that cannot be used leaves its slot, which is not marked DIRTY, FAULTED. -/
theorem NvaSound.failRead (h : NvaSound n) (ho : n.op = .read i) (hdirty : n.slotState (itemSlot i) ≠ .dirty)
    (v : NvSlot) :
    NvaSound (({ n.setSlot (itemSlot i) v with op := .free } : Nva).setSlotState (itemSlot i) .faulted) := by
  have hclean : n.slotState (itemSlot i) = .clean := (h.readState i ho).resolve_right hdirty
  refine (h.endRead ho (itemSlot i) v).rest (.inr rfl) h.queueOnce (fun j => ?_) ?_ (fun j hj e => ?_)
    fun j hj => by simp at hj
  · exact ⟨fun hj => ⟨hj, fun e => h.not_mem_queue hdirty (e ▸ hj)⟩, And.left⟩
  · change n.slotState (itemSlot i) ≠ .writing
    simp [hclean]
  · exact h.readAlone i ho (itemSlot_injective e ▸ hj)

end
end Sys2Proof.Machine
end

section
/-! SUPPORT. StepKeepsArrayBookkeeping: the requests, the content commands and the parts of the frame job that leave the NV price
array alone. -/

namespace Sys2Proof.Machine

/-! ### Reports, upsets and content commands -/

theorem Reports.nva {s t : State} (h : Reports s t) : t.nva = s.nva := by rw [h.eq]

@[simp] theorem State.upset_nva (s : State) (i : ItemIndex) : (s.upset i).nva = s.nva := by
  unfold State.upset
  split <;> rfl

@[simp] theorem State.upsets_nva (s : State) (l : List ItemIndex) : (s.upsets l).nva = s.nva :=
  List.foldlRecOn l State.upset (motive := fun t => t.nva = s.nva) rfl fun t ht i _ => (t.upset_nva i).trans ht

/-- No owner of a content command but that of ITEM_QUERY reaches the array. -/
theorem State.takeCommand_nva {owner : State → CommandResult} (ho : ∀ t, (owner t).state.nva = t.nva) (s : State)
    (code : Byte) (go : BitVec 32) : (s.takeCommand code go owner).nva = s.nva := by
  unfold State.takeCommand CommandResult.complete
  dsimp only
  split
  · rfl
  · exact ho _

section
variable (s : State) (go : BitVec 32)

@[simp] theorem takeAssetOpen_nva (f : OpenForm) : (takeAssetOpen go f s).nva = s.nva := by
  refine State.takeCommand_nva (fun t => ?_) ..
  unfold assetOpenOwner
  repeat' split
  all_goals rfl

@[simp] theorem takeAssetClose_nva (h : BitVec 16) : (takeAssetClose go h s).nva = s.nva := by
  refine State.takeCommand_nva (fun t => ?_) ..
  unfold assetCloseOwner
  repeat' split
  all_goals rfl

@[simp] theorem takeAssetAbort_nva (h : BitVec 16) : (takeAssetAbort go h s).nva = s.nva := by
  refine State.takeCommand_nva (fun t => ?_) ..
  unfold assetAbortOwner
  repeat' split
  all_goals rfl

@[simp] theorem takeAssetFree_nva (h : BitVec 16) : (takeAssetFree go h s).nva = s.nva := by
  refine State.takeCommand_nva (fun t => ?_) ..
  unfold assetFreeOwner
  repeat' split
  all_goals rfl

@[simp] theorem takeAssetQuery_nva (h : BitVec 16) : (takeAssetQuery go h s).nva = s.nva := by
  refine State.takeCommand_nva (fun t => ?_) ..
  unfold assetQueryOwner
  repeat' split
  all_goals rfl

@[simp] theorem takeSceneBegin_nva (f : SceneForm) : (takeSceneBegin go f s).nva = s.nva := by
  refine State.takeCommand_nva (fun t => ?_) ..
  unfold sceneBeginOwner
  split <;> rfl

@[simp] theorem takeLayerAdd_nva (f : LayerForm) : (takeLayerAdd go f s).nva = s.nva := by
  refine State.takeCommand_nva (fun t => ?_) ..
  unfold layerAddOwner
  repeat' split
  all_goals rfl

@[simp] theorem takeSceneSubmit_nva (p : Byte) : (takeSceneSubmit go p s).nva = s.nva := by
  refine State.takeCommand_nva (fun t => ?_) ..
  unfold sceneSubmitOwner
  dsimp only
  repeat' split
  all_goals rfl

@[simp] theorem takeSceneDiscard_nva (p : Byte) : (takeSceneDiscard go p s).nva = s.nva := by
  refine State.takeCommand_nva (fun t => ?_) ..
  unfold sceneDiscardOwner
  repeat' split
  all_goals rfl

@[simp] theorem takeStyleSet_nva (f : StyleForm) : (takeStyleSet go f s).nva = s.nva := by
  refine State.takeCommand_nva (fun t => ?_) ..
  unfold styleSetOwner
  repeat' split
  all_goals rfl

@[simp] theorem takePanelSet_nva (p e r : Byte) : (takePanelSet go p e r s).nva = s.nva := by
  refine State.takeCommand_nva (fun t => ?_) ..
  unfold panelSetOwner
  split <;> rfl

@[simp] theorem takeCurveSet_nva (f : CurveForm) : (takeCurveSet go f s).nva = s.nva := by
  refine State.takeCommand_nva (fun t => ?_) ..
  unfold curveSetOwner
  repeat' split
  all_goals rfl

@[simp] theorem takeThermalSet_nva (f : ThermalForm) : (takeThermalSet go f s).nva = s.nva := by
  refine State.takeCommand_nva (fun t => ?_) ..
  unfold thermalSetOwner
  dsimp only
  repeat' split
  all_goals rfl

@[simp] theorem takeBacklightRestart_nva (p : Byte) : (takeBacklightRestart go p s).nva = s.nva := by
  refine State.takeCommand_nva (fun t => ?_) ..
  unfold backlightRestartOwner
  repeat' split
  all_goals rfl

@[simp] theorem takeFrameRateSet_nva (r : Byte) : (takeFrameRateSet go r s).nva = s.nva := by
  refine State.takeCommand_nva (fun t => ?_) ..
  unfold frameRateSetOwner
  split <;> rfl

@[simp] theorem takeStatusQuery_nva : (takeStatusQuery go s).nva = s.nva := State.takeCommand_nva (fun _ => rfl) ..

@[simp] theorem takeCheckTest_nva : (takeCheckTest go s).nva = s.nva := by
  refine State.takeCommand_nva (fun t => ?_) ..
  unfold checkTestCommand
  split <;> rfl

@[simp] theorem takeUnknownCommand_nva (code : Byte) : (takeUnknownCommand code go s).nva = s.nva :=
  State.takeCommand_nva (fun _ => rfl) ..

end

/-! ### Owners of requests -/

section
variable (s : State)

theorem stageEntry_nva (e : StagedEntry) : (stageEntry e s).1.nva = s.nva := by
  unfold stageEntry
  dsimp only
  repeat' split
  all_goals rfl

theorem itemStageOwner_nva (l : List Byte) : (itemStageOwner l s).1.nva = s.nva := by
  unfold itemStageOwner
  split
  · exact stageEntry_nva ..
  · rfl

theorem itemRemoveOwner_nva (l : List Byte) : (itemRemoveOwner l s).1.nva = s.nva := by
  unfold itemRemoveOwner
  split
  · exact stageEntry_nva ..
  · rfl

theorem promoStageOwner_nva (l : List Byte) : (promoStageOwner l s).1.nva = s.nva := by
  unfold promoStageOwner
  split
  · split
    · exact stageEntry_nva ..
    · rfl
  · rfl

theorem rulesStageOwner_nva (l : List Byte) : (rulesStageOwner l s).1.nva = s.nva := by
  unfold rulesStageOwner
  split
  · exact stageEntry_nva ..
  · rfl

theorem commitOwner_nva (l : List Byte) : (commitOwner l s).1.nva = s.nva := by
  unfold commitOwner
  repeat' split
  all_goals rfl

theorem applyOwner_nva : (applyOwner s).1.nva = s.nva := by
  unfold applyOwner
  repeat' split
  all_goals rfl

theorem commitCancelOwner_nva : (commitCancelOwner s).1.nva = s.nva := by
  unfold commitCancelOwner
  repeat' split
  all_goals rfl

theorem availSetOwner_nva (l : List Byte) : (availSetOwner l s).1.nva = s.nva := by
  unfold availSetOwner
  split <;> rfl

theorem daypartForceOwner_nva (l : List Byte) : (daypartForceOwner l s).1.nva = s.nva := by
  unfold daypartForceOwner
  split <;> rfl

theorem timeSetOwner_nva (l : List Byte) : (timeSetOwner l s).1.nva = s.nva := by
  unfold timeSetOwner
  split <;> rfl

theorem suspendClearOwner_nva (l : List Byte) : (suspendClearOwner l s).1.nva = s.nva := by
  unfold suspendClearOwner
  dsimp only
  split
  · rfl
  · split
    · rfl
    · rfl
    · rfl
    · exact s.unsuspend_nva _

theorem checkTestOwner_nva : (checkTestOwner s).1.nva = s.nva := by
  unfold checkTestOwner
  split <;> rfl

end

/-! ### What the frame job and a restore leave alone -/

section
variable (s : State)

theorem State.drawTile_nva (p : Fin 4) (k : Nat) (l : Layer) (code : Nat) (style : Fin 16) (dimmed : Bool) (dim : Byte)
    (d : PriceDecision) (glyphs : Option (List Nat)) :
    (s.drawTile p k l code style dimmed dim d glyphs).nva = s.nva := by
  unfold State.drawTile
  dsimp only
  repeat' split
  all_goals rfl

theorem State.drawPrice_nva (p : Fin 4) (k : Nat) (l : Layer) (style : Fin 16) (dimmed : Bool) (dim : Byte)
    (u : ComposeUpset) : (s.drawPrice p k l style dimmed dim u).nva = s.nva := by
  unfold State.drawPrice
  repeat' split
  case h_2 => exact s.drawTile_nva ..
  all_goals rfl

theorem State.drawLayer_nva (p : Fin 4) (k : Nat) (l : Layer) (dimmed : Bool) (dim : Byte) (u : ComposeUpset) :
    (s.drawLayer p k l dimmed dim u).nva = s.nva := by
  unfold State.drawLayer
  split
  · rfl
  · rfl
  · exact s.drawPrice_nva ..

theorem State.drawFault_nva (p : Fin 4) (k : Nat) (l : Layer) (dimmed : Bool) (dim : Byte) :
    (s.drawFault p k l dimmed dim).nva = s.nva := by
  unfold State.drawFault
  split
  · exact s.drawTile_nva ..
  all_goals rfl

theorem State.patchAt_nva (i : Nat) (r : ShownRecord) : (s.patchAt i r).nva = s.nva := by
  unfold State.patchAt State.drawPatch
  dsimp only
  repeat' split
  all_goals rfl

theorem State.renderBegin_nva : s.renderBegin.nva = s.applyCommit.nva := (s.renderBegin_begins s.engine s.panel).nva

theorem State.restore_nva (i : ItemIndex) (code : Nat) (body : ItemBody) : (s.restore i code body).nva = s.nva := by
  unfold State.restore
  repeat' split
  case isTrue => exact (State.unsuspendRestored_reports _ code).nva
  case isFalse => exact (s.markUnrepairable_reports i).nva
  all_goals rfl

end

end Sys2Proof.Machine
end

section
/-! PROOF. StepKeepsArrayBookkeeping: the bookkeeping under every request, command and event, and the theorem over every step. -/

namespace Sys2Proof.Machine

/-! ### Bodies read (R11, R62) -/

section
variable {s : State}

theorem NvaSound.requestRepair (h : NvaSound s.nva) (i : ItemIndex) : NvaSound (s.requestRepair i).nva := by
  rw [State.requestRepair_nva]
  exact h.takeRepair i

theorem NvaSound.readBody (h : NvaSound s.nva) (i : ItemIndex) : NvaSound (s.readBody i).nva := by
  unfold State.readBody
  split
  · exact h
  · split
    · rw [State.parityFailure_nva]
      exact h.takeRepair i
    · exact h

theorem NvaSound.walkBodies (h : NvaSound s.nva) : NvaSound s.walkBodies.nva :=
  List.foldlRecOn _ State.readBody (motive := fun t => NvaSound t.nva) h fun _ ht i _ => ht.readBody i

/-! ### The application of a commit (R37, R58) -/

theorem NvaSound.setItemAt (h : NvaSound s.nva) (i : ItemIndex) (code : Nat) (body : ItemBody) (a : Availability) :
    NvaSound (s.setItemAt i code body a).nva := by
  rw [State.setItemAt_nva]
  exact h.markItem i

theorem NvaSound.applyEntry (h : NvaSound s.nva) (e : StagedEntry) : NvaSound (s.applyEntry e).nva := by
  cases e with
  | itemSet code body =>
    simp only [State.applyEntry, State.applyItemSet]
    split
    · exact h.setItemAt ..
    · split
      · exact h.setItemAt ..
      · exact h
  | itemRemove code =>
    simp only [State.applyEntry]
    cases hi : s.table.indexOf code with
    | none => exact (s.applyItemRemove_absent hi).symm ▸ h
    | some i =>
      have hn : NvaSound ((s.withoutItem i code).unsuspend code).nva := (State.unsuspend_nva _ code).symm ▸ h
      rw [s.applyItemRemove_at hi]
      exact hn.markItem i
  | promoSet i p => exact h.markOther fun j => by simp [slotKind_promoSlot]
  | rulesSet r => exact h.markOther fun j => by simp [slotKind_rulesSlot]

theorem NvaSound.applyCommit (h : NvaSound s.nva) : NvaSound s.applyCommit.nva := by
  unfold State.applyCommit
  split
  · exact h
  · rename_i c _
    split
    · exact List.foldlRecOn c.entries State.applyEntry (motive := fun t => NvaSound t.nva) h
        fun _ ht e _ => ht.applyEntry e
    · exact h

/-! ### Requests and content commands -/

theorem NvaSound.itemReadOwner (h : NvaSound s.nva) (l : List Byte) : NvaSound (itemReadOwner l s).1.nva := by
  unfold Machine.itemReadOwner
  dsimp only
  split
  · exact h
  · split
    · exact h
    · split
      · exact h.readBody _
      · split <;> exact h.readBody _

theorem NvaSound.scheduleSetOwner (h : NvaSound s.nva) (l : List Byte) : NvaSound (scheduleSetOwner l s).1.nva := by
  unfold Machine.scheduleSetOwner
  split
  · exact h
  · exact h.markOther fun j => by simp [slotKind_scheduleSlot]

/-- Of the owners of requests only those of ITEM_READ and SCHEDULE_SET reach the array. -/
theorem NvaSound.owner (h : NvaSound s.nva) {kind : Byte} {l : List Byte} {r : Request} (hr : requestOf kind l = some r) :
    NvaSound (r.owner s).1.nva := by
  unfold requestOf at hr
  split at hr
  case h_1 => cases hr; exact h
  case h_2 => cases hr; exact (itemStageOwner_nva s l).symm ▸ h
  case h_3 => cases hr; exact (itemRemoveOwner_nva s l).symm ▸ h
  case h_4 => cases hr; exact (promoStageOwner_nva s l).symm ▸ h
  case h_5 => cases hr; exact (rulesStageOwner_nva s l).symm ▸ h
  case h_6 => cases hr; exact h
  case h_7 => cases hr; exact (commitOwner_nva s l).symm ▸ h
  case h_8 => cases hr; exact (applyOwner_nva s).symm ▸ h
  case h_9 => cases hr; exact (commitCancelOwner_nva s).symm ▸ h
  case h_10 => cases hr; exact (availSetOwner_nva s l).symm ▸ h
  case h_11 => cases hr; exact h.scheduleSetOwner l
  case h_12 => cases hr; exact (daypartForceOwner_nva s l).symm ▸ h
  case h_13 => cases hr; exact (timeSetOwner_nva s l).symm ▸ h
  case h_14 => cases hr; exact h.itemReadOwner l
  case h_15 => cases hr; exact h
  case h_16 => cases hr; exact (suspendClearOwner_nva s l).symm ▸ h
  case h_17 => cases hr; exact h
  case h_18 => cases hr; exact (checkTestOwner_nva s).symm ▸ h
  case h_19 => cases hr

theorem NvaSound.take (h : NvaSound s.nva) (a : Addressing) {r : Request} (hr : NvaSound (r.owner s).1.nva) :
    NvaSound (s.take a r).nva := by
  unfold State.take
  split
  · split
    · exact h
    · split
      · exact h
      · split
        · split <;> exact hr
        · exact h
  · split
    · exact h
    · exact hr

theorem NvaSound.takeKind (h : NvaSound s.nva) (a : Addressing) (kind : Byte) (l : List Byte) :
    NvaSound (s.takeKind a kind l).nva := by
  unfold State.takeKind
  split
  · rename_i r hr
    exact h.take a (h.owner hr)
  · unfold State.takeUnknown
    split
    · split
      · exact h
      · split <;> exact h
    · exact h

theorem NvaSound.onFrame (h : NvaSound s.nva) {f : State → State}
    (hf : ∀ t : State, NvaSound t.nva → NvaSound (f t).nva) : NvaSound (s.onFrame f).nva := by
  unfold State.onFrame
  split
  · exact h
  · exact hf _ (s.frameEnd_nva.symm ▸ h)

/-- A request's row keeps the bookkeeping. -/
theorem NvaSound.request (h : NvaSound s.nva) (a : Addressing) {kind : Byte} {l : List Byte} {r : Request}
    (hr : requestOf kind l = some r) : NvaSound (s.onFrame fun t => t.take a r).nva :=
  h.onFrame fun _ ht => ht.take a (ht.owner hr)

theorem NvaSound.acceptFrame (h : NvaSound s.nva) (frame : List Byte) : NvaSound (s.acceptFrame frame).nva := by
  unfold State.acceptFrame
  split
  · exact h.takeKind _ _ _
  · exact h

theorem NvaSound.receiveByte (h : NvaSound s.nva) (b : Byte) (fe : Bool) : NvaSound (s.receiveByte b fe).nva := by
  unfold State.receiveByte
  split
  · exact h
  · split
    · exact s.withdrawAnswer_nva.symm ▸ h
    · exact h
  · split
    · exact h
    · unfold State.assembleByte
      split
      · exact h
      · split
        · exact h.onFrame fun _ ht => ht.acceptFrame _
        · exact h

theorem NvaSound.takeItemQuery (h : NvaSound s.nva) (go : BitVec 32) (c : BitVec 16) :
    NvaSound (takeItemQuery go c s).nva := by
  have ho : NvaSound (itemQueryOwner c.toNat (s.tagged go)).state.nva := by
    unfold itemQueryOwner
    dsimp only
    split
    · exact h
    · split
      · exact h
      · split <;> exact NvaSound.readBody (s := s.tagged go) h _
  unfold Machine.takeItemQuery State.takeCommand CommandResult.complete
  dsimp only
  split
  · exact h
  · exact ho

/-- Of the commands that a go word takes only ITEM_QUERY reaches the array. -/
theorem NvaSound.runRecord (h : NvaSound s.nva) (go : BitVec 32) : NvaSound (s.runRecord go).nva := by
  unfold State.runRecord
  dsimp only
  split
  case h_16 => exact h.takeItemQuery go _
  all_goals simpa using h

theorem NvaSound.apertureWrite (h : NvaSound s.nva) (o : Nat) (l : List Byte) : NvaSound (s.apertureWrite o l).nva := by
  unfold State.apertureWrite
  dsimp only
  split
  · exact h
  · split <;> exact h

theorem NvaSound.windowWrite (h : NvaSound s.nva) (o : Nat) (l : List Byte) : NvaSound (s.windowWrite o l).nva := by
  unfold State.windowWrite
  split
  · exact h.apertureWrite o l
  · split
    · unfold State.controlWrite
      split
      · exact h.runRecord _
      · split <;> exact h
    · exact h

/-! ### The frame job -/

theorem NvaSound.engineStart (h : NvaSound s.nva) : NvaSound s.engineStart.nva := by
  unfold State.engineStart
  split
  · exact h
  · split
    · rw [State.renderBegin_nva]
      exact NvaSound.applyCommit (s := s.exchange) h
    all_goals exact h

theorem NvaSound.visibility (h : NvaSound s.nva) (l : Layer) : NvaSound (s.visibility l).1.nva := by
  unfold State.visibility
  split
  · exact h
  · split
    · exact h
    · split
      · exact h
      · split
        · exact h
        · split
          · exact h
          · exact h.readBody _

theorem NvaSound.composeAt (h : NvaSound s.nva) (p : Fin 4) (k : Nat) (u : ComposeUpset) :
    NvaSound (s.composeAt p k u).nva := by
  unfold State.composeAt
  split
  · exact h
  · rename_i l dim _
    have hv := h.visibility l
    unfold State.composeLayer
    split <;> rename_i e <;> rw [e] at hv
    · exact hv
    · exact (State.drawLayer_nva ..).symm ▸ hv
    · exact (State.drawFault_nva ..).symm ▸ hv

theorem NvaSound.checkAt (h : NvaSound s.nva) (stuck testing : Bool) (i : Nat) (r : ShownRecord) :
    NvaSound (s.checkAt stuck testing i r).nva := by
  rw [(s.checkAt_leaves stuck testing i r).nva]
  unfold State.readRecordBody
  split
  · exact h.readBody _
  · exact h

theorem NvaSound.finishCheck (h : NvaSound s.nva) (c : CommitRecord) : NvaSound (s.finishCheck c).nva := by
  unfold State.finishCheck State.commitAnswer
  dsimp only
  generalize (s.link.answer.isSome || _) = newer
  cases newer <;> exact h

/-! ### The array at work -/

theorem NvaSound.beginWrite (h : NvaSound s.nva) (hfree : s.nva.op = .free) {k : SlotId} {rest : List SlotId}
    (hq : s.nva.queue = k :: rest) : NvaSound (s.beginWrite k rest).nva := by
  have hstale : NvaSound ({ s with nva := { s.nva.setSlotState k .stale with queue := rest } } : State).nva :=
    h.headStale hfree hq
  unfold State.beginWrite
  split
  · dsimp only
    split
    · exact hstale.readBody _
    all_goals exact hstale
  · exact h.headWriting hfree hq rfl _

theorem NvaSound.completeWrite (h : NvaSound s.nva) {w : SlotWrite} (ho : s.nva.op = .write w) (v : NvSlot) :
    NvaSound (s.completeWrite w v).nva := by
  have hw := h.afterWrite ho v Journal.erased (w.verifies v)
  unfold State.completeWrite
  dsimp only
  generalize Nva.afterWrite _ w _ = n at hw ⊢
  have hu : NvaSound (if w.verifies v then { s with nva := n } else
      ({ s with nva := n } : State).logFault { slot := w.slot.val, kind := .ded, origin := .write }).nva := by
    split
    · exact hw
    · exact hw.log _
  split
  · split
    · exact hu.requestRepair _
    all_goals exact hu
  · exact hu

theorem NvaSound.completeRepair (h : NvaSound s.nva) {i : ItemIndex} (ho : s.nva.op = .read i) (v : NvSlot) :
    NvaSound (s.completeRepair i v).nva := by
  have ht := h.endRead ho (itemSlot i) v
  unfold State.completeRepair
  dsimp only
  split
  · split
    · split
      · exact ht.log _
      · exact ht
    · exact ht.log _
  · rename_i hdirty
    split
    · rename_i c code body _
      have hres : NvaSound ((s.repairRead i v).restore i code body).nva := (State.restore_nva ..).symm ▸ ht
      split
      · exact hres.log _
      · exact hres
    · unfold State.failRepair
      rw [State.logFault_nva, (State.markUnrepairable_reports _ i).nva]
      exact (h.failRead ho hdirty v).log _

end

/-! ### The start-up load and the resets -/

/-- Each effect of the load gives its slot's state its canonical place. -/
theorem State.canonical_loadAll {s : State} (h : Sparse.canonical SlotState.clean s.nva.slotStates = true)
    (e : SlotId → LoadEffect) (l : List SlotId) :
    Sparse.canonical SlotState.clean (s.loadAll e l).nva.slotStates = true := by
  refine List.foldlRecOn l _ (motive := fun t : State => Sparse.canonical SlotState.clean t.nva.slotStates = true) h
    fun t ht k _ => ?_
  rw [State.loadWith_nva, Nva.loadLog_eq]
  unfold Nva.loadMark
  split
  · exact ht
  · exact Sparse.canonical_setD ht _ _

theorem State.canonical_loadFold (s : State) (slots : List (SlotId × NvSlot)) (journal : Option Journal) :
    Sparse.canonical SlotState.clean (s.loadStart slots journal).loadFold.nva.slotStates = true := by
  have hstart : (s.loadStart slots journal).loadJournal.nva.slotStates = [] := by
    unfold State.loadJournal
    split
    · exact congrArg Nva.slotStates (Nva.log_eq ..)
    · rfl
  rw [State.loadFold_eq]
  refine State.canonical_loadAll ?_ _ _
  rw [hstart]
  rfl

theorem State.canonical_endLoad {s : State} (h : Sparse.canonical SlotState.clean s.nva.slotStates = true) :
    Sparse.canonical SlotState.clean s.endLoad.nva.slotStates = true := h

theorem Findings.state_ne_writing (f : Findings) (k : SlotId) : (f.effect k).state ≠ .writing := by
  unfold Findings.effect loadEffect
  dsimp only
  repeat' split
  all_goals simp

/-- A load leaves the array idle, with the DIRTY slots queued in order. -/
theorem Loaded.nvaSound {s t : State} {f : Findings} {faulty : Bool} (h : Loaded s t f faulty) (hfree : t.nva.op = .free)
    (hrepairs : t.nva.repairs = []) (hstates : Sparse.canonical SlotState.clean t.nva.slotStates = true) :
    NvaSound t.nva where
  queueOnce := h.queue ▸ (List.nodup_finRange 546).filter _
  queueDirty k := by
    rw [h.queue, h.slotState, List.mem_filter, decide_eq_true_eq]
    exact and_iff_right (List.mem_finRange k)
  writing k := by
    rw [h.slotState, Nva.writes_free hfree]
    exact iff_of_false (Findings.state_ne_writing f k) Bool.false_ne_true
  repairsOnce := by simp [hrepairs]
  repairsClean := by simp [hrepairs]
  readAlone := by simp [hrepairs]
  readState i hi := by simp [hfree] at hi
  states := hstates

theorem nvaSound_load (s : State) (slots : List (SlotId × NvSlot)) (journal : Option Journal) :
    NvaSound (s.loadStart slots journal).loadFold.endLoad.nva := by
  obtain ⟨⟨-, -, hrepairs, hfree, -⟩, -⟩ := s.load_frame slots journal
  exact (s.loaded slots journal).nvaSound hfree hrepairs (State.canonical_endLoad (s.canonical_loadFold slots journal))

/-! ### Every step -/

@[simp] theorem State.discardAllBuilding_nva (s : State) : s.discardAllBuilding.nva = s.nva :=
  List.foldlRecOn _ State.discardBuilding (motive := fun t => t.nva = s.nva) rfl
    fun t ht p _ => (show (t.discardBuilding p).nva = t.nva from rfl).trans ht

theorem State.thermistorRead_nva (s : State) (p : Fin 4) (c : Nat) : (s.thermistorRead p c).nva = s.nva := by
  have raised : ∀ (t : State) (b : Bool) (f : ContentFlag), (t.raiseIf b f).nva = t.nva := fun t b f => by
    cases b <;> rfl
  unfold State.thermistorRead
  dsimp only
  rw [raised, raised]
  rfl

/-- Every command keeps the bookkeeping. -/
theorem NvaSound.exec {s t : State} (h : NvaSound s.nva) {c : Instr} (e : exec c s = .next t) : NvaSound t.nva := by
  cases c <;> simp only [Machine.exec] at e
  case powerOnReset straps large =>
    cases e
    exact afterReset_nva_sound straps large s.arrayAtReset s.nva.journal s.assets.memory
  case pcieLinkReset =>
    cases e
    exact (State.discardAllBuilding_nva _).symm ▸ h
  case loadCompletion slots journal =>
    rw [execLoadCompletion_eq] at e
    cases e
    split
    · exact nvaSound_load s slots journal
    · exact h
  case lineByte b fe =>
    cases e
    split
    · exact h
    · exact h.receiveByte b fe
  case frameDropped frame =>
    cases e
    exact h.onFrame fun _ ht => ht.acceptFrame frame
  case unknownKind a kind l =>
    cases e
    exact h.onFrame fun _ ht => ht.takeKind a kind l
  case status a l => cases e; exact h.request (kind := 0x01) (l := l) a rfl
  case itemStage a l => cases e; exact h.request (kind := 0x02) (l := l) a rfl
  case itemRemove a l => cases e; exact h.request (kind := 0x03) (l := l) a rfl
  case promoStage a l => cases e; exact h.request (kind := 0x04) (l := l) a rfl
  case rulesStage a l => cases e; exact h.request (kind := 0x05) (l := l) a rfl
  case stageAbort a l => cases e; exact h.request (kind := 0x06) (l := l) a rfl
  case commit a l => cases e; exact h.request (kind := 0x07) (l := l) a rfl
  case commitCheckCompletion l =>
    cases e
    split
    · exact h
    · split
      · exact (NvaSound.walkBodies ((s.upsets_nva l).symm ▸ h)).finishCheck _
      · exact h
  case apply a l => cases e; exact h.request (kind := 0x08) (l := l) a rfl
  case commitCancel a l => cases e; exact h.request (kind := 0x09) (l := l) a rfl
  case availSet a l => cases e; exact h.request (kind := 0x0A) (l := l) a rfl
  case scheduleSet a l => cases e; exact h.request (kind := 0x0B) (l := l) a rfl
  case daypartForce a l => cases e; exact h.request (kind := 0x0C) (l := l) a rfl
  case timeSet a l => cases e; exact h.request (kind := 0x0D) (l := l) a rfl
  case itemRead a l => cases e; exact h.request (kind := 0x0E) (l := l) a rfl
  case suspendedList a l => cases e; exact h.request (kind := 0x0F) (l := l) a rfl
  case suspendClear a l => cases e; exact h.request (kind := 0x10) (l := l) a rfl
  case nvaReport a l => cases e; exact h.request (kind := 0x11) (l := l) a rfl
  case checkTest path =>
    cases e
    split
    · rename_i a l
      exact h.request (kind := 0x12) (l := l) a rfl
    · simpa using h
  case frameStart first =>
    cases e
    split
    · exact NvaSound.engineStart (s := s.startPeriod.panelStart) h
    · exact NvaSound.engineStart (s := s.startPeriod) h
  case composeLayer u =>
    cases e
    split
    · exact NvaSound.composeAt (s := s.upsets u.bodies) ((s.upsets_nva _).symm ▸ h) _ _ _
    all_goals exact h
  case checkRecord l stuck =>
    cases e
    split
    · split
      · exact NvaSound.checkAt ((s.upsets_nva l).symm ▸ h) ..
      · exact h
    all_goals exact h
  case patchRecord =>
    cases e
    split
    · split
      · exact (s.patchAt_nva _ _).symm ▸ h
      · exact h
    all_goals exact h
  case slotWriteBegin l =>
    cases e
    split
    · rename_i hfree _ hq
      exact NvaSound.beginWrite ((s.upsets_nva l).symm ▸ h) (by simpa using hfree) (by simpa using hq)
    · exact h
  case slotWriteCompletion found =>
    cases e
    split
    · rename_i ho
      exact h.completeWrite ho _
    all_goals exact h
  case repairReadStart =>
    cases e
    split
    · rename_i hfree hr
      exact h.beginRead hfree hr
    · exact h
  case repairReadCompletion found =>
    cases e
    split
    · rename_i ho
      exact h.completeRepair ho _
    all_goals exact h
  case sensorConversionCompletion code =>
    cases e
    split
    · exact h
    · dsimp only
      split
      · exact h
      · split
        · exact (State.thermistorRead_nva ..).symm ▸ h
        · exact h
  case apertureWrite o l => cases e; exact h.apertureWrite _ _
  case registerWrite o l => cases e; exact h.windowWrite _ _
  case unknownCommand go code => cases e; exact NvaSound.runRecord (s := s.writeRecord _) h go
  case itemQuery go code => cases e; exact NvaSound.takeItemQuery (s := s.writeRecord _) h go code
  -- The rows that reach no part of the array.
  case idlePeriodExpiry | frameGapExpiry | answerBegin | answerEnd | holdExpiry | composePanelFill | composeStageEnd
      | checkStageEnd | jobCompletion =>
    cases e
    repeat' split
    all_goals exact h
  case secondTick | summaryWordRead | loadFaultRecordRead | messageEnable => cases e; exact h
  case assetOpen | assetClose | assetAbort | assetFree | assetQuery | sceneBegin | layerAdd | sceneSubmit | sceneDiscard
      | styleSet | panelSet | curveSet | thermalSet | backlightRestart | frameRateSet | statusQuery =>
    cases e
    simpa using h

theorem NvaSound.step {s t : State} (h : NvaSound s.nva) (e : step s = .next t) : NvaSound t.nva := by
  unfold Machine.step at e
  split at e
  · cases e
    exact h
  · exact NvaSound.exec (s := s.popped) h e

/-- Settles O56: the bookkeeping is kept by every command, most of which reach no part of the array. -/
theorem stepKeepsArrayBookkeeping : Obligations.StepKeepsArrayBookkeeping := by
  unfold Obligations.StepKeepsArrayBookkeeping
  exact fun s t h e => h.step e

end Sys2Proof.Machine
end

section
/-! PROOF. NvaReportCountsSlots: a fault logged, the slots counted by their states, and the bytes of the report. -/

namespace Sys2Proof.Machine

/-! ### A fault logged (R57) -/

theorem Nva.log_room {n : Nva} (h : n.faults.length < 16) (f : FaultEntry) :
    n.log f = { n with faults := n.faults ++ [f] } :=
  if_pos h

theorem Nva.log_full {n : Nva} (h : 16 ≤ n.faults.length) (f : FaultEntry) : n.log f = { n with more := true } :=
  if_neg (Nat.not_lt.2 h)

/-! ### Slots counted by their states (R66) -/

theorem Nva.countState_le (n : Nva) (st : SlotState) : n.countState st ≤ 546 :=
  (List.length_filter_le _ _).trans_eq (List.length_finRange)

/-- Elements counted by the state of each are all counted. -/
theorem length_filter_states {α : Type} (f : α → SlotState) (l : List α) :
    (l.filter (fun k => decide (f k = .clean))).length + (l.filter (fun k => decide (f k = .dirty))).length +
      (l.filter (fun k => decide (f k = .writing))).length + (l.filter (fun k => decide (f k = .stale))).length +
      (l.filter (fun k => decide (f k = .faulted))).length = l.length := by
  induction l with
  | nil => rfl
  | cons a l ih =>
    rw [List.length_cons, ← ih]
    cases h : f a <;> simp [h] <;> omega

theorem Nva.countState_sum (n : Nva) : n.countState .clean + n.countState .dirty + n.countState .writing +
    n.countState .stale + n.countState .faulted = 546 :=
  (length_filter_states n.slotState (List.finRange 546)).trans List.length_finRange

theorem Nva.outstanding_le (n : Nva) : n.outstanding ≤ n.repairs.length + 1 := by
  unfold Nva.outstanding
  refine Nat.add_le_add_left ?_ _
  split
  · exact Nat.zero_le 1
  · split <;> simp
  · exact le_rfl

/-! ### The bytes of the report (Table 12-5) -/

/-- Numbers of two bytes in a row read back, wherever they stand. -/
theorem beAt_flatMap_beBytes {α : Type} {g : α → Nat} {l : List α} {k : Nat} {x : α} (h : l[k]? = some x)
    (hx : g x < 65536) (front back : List Byte) :
    beAt (front ++ (l.flatMap (fun a => beBytes 2 (g a)) ++ back)) (front.length + 2 * k) 2 = g x := by
  obtain ⟨rest, hrest⟩ := drop_flatMap (f := fun a => beBytes 2 (g a)) (n := 2) (fun _ => rfl) h back
  have hat (i : Nat) :
      byteAt (l.flatMap (fun a => beBytes 2 (g a)) ++ back) (2 * k + i) = byteAt (beBytes 2 (g x) ++ rest) i := by
    rw [← hrest]
    simp [byteAt]
  rw [beAt_two, Nat.add_assoc, byteAt_append_right, byteAt_append_right, hat, ← Nat.add_zero (2 * k), hat]
  exact two_bytes hx

/-- R66: the numbers that the report gives before the fault list. -/
def Nva.reportNumbers (n : Nva) : List Nat :=
  [n.countState .clean, n.countState .dirty, n.countState .writing, n.countState .stale, n.countState .faulted,
    n.outstanding]

/-- Table 12-5: the status, the number of faults, the more flag and the load state. -/
def Nva.reportMarks (n : Nva) : List Byte := [0x00, byteOf n.faults.length, flagByte n.more, loadByte n.loading]

/-- R57: a fault's slot, origin and kind as one number. -/
def FaultEntry.number (f : FaultEntry) : Nat := f.slot + 1024 * f.origin.code + 4096 * f.kind.code

/-- Table 12-5: what stands before the fault list. -/
def Nva.reportHead (n : Nva) : List Byte := n.reportMarks ++ n.reportNumbers.flatMap (beBytes 2)

/-- Table 12-5: the entries of the fault list. -/
def Nva.reportFaults (n : Nva) : List Byte := n.faults.flatMap fun f => beBytes 2 f.number

/-- Table 12-5: the payload of the answer. -/
def Nva.report (n : Nva) : List Byte := n.reportHead ++ (n.reportFaults ++ zeros (32 - n.reportFaults.length))

theorem nvaReportOwner_eq (s : State) : nvaReportOwner s = (s, some s.nva.report) := rfl

section
variable {n : Nva}

theorem Nva.reportHead_length (n : Nva) : n.reportHead.length = 16 := rfl

theorem Nva.reportFaults_length (n : Nva) : n.reportFaults.length = 2 * n.faults.length :=
  flatMap_length (n := 2) (fun _ => rfl) _

theorem Nva.report_length (h : n.faults.length ≤ 16) : n.report.length = 48 := by
  rw [Nva.report, List.length_append, List.length_append, zeros, List.length_replicate, n.reportHead_length,
    n.reportFaults_length]
  omega

theorem Nva.report_number {k v : Nat} (hk : n.reportNumbers[k]? = some v) (hv : v < 65536) :
    beAt n.report (4 + 2 * k) 2 = v := by
  rw [Nva.report, Nva.reportHead, List.append_assoc]
  exact beAt_flatMap_beBytes (g := id) hk hv n.reportMarks _

theorem Nva.report_count (k : Fin 5) {st : SlotState}
    (hk : [SlotState.clean, .dirty, .writing, .stale, .faulted][k.val]? = some st) :
    beAt n.report (4 + 2 * k.val) 2 = n.countState st := by
  refine Nva.report_number ?_ ((n.countState_le st).trans_lt (by decide))
  match k with
  | 0 => cases hk; rfl
  | 1 => cases hk; rfl
  | 2 => cases hk; rfl
  | 3 => cases hk; rfl
  | 4 => cases hk; rfl

theorem Nva.report_outstanding (h : n.repairs.length ≤ 512) : beAt n.report 14 2 = n.outstanding :=
  Nva.report_number (k := 5) rfl (n.outstanding_le.trans_lt (by omega))

/-- R57: the three parts of a fault's number. -/
theorem FaultEntry.number_parts {f : FaultEntry} (h : f.slot ≤ 546) : f.number < 65536 ∧ f.number % 1024 = f.slot ∧
    f.number / 1024 % 4 = f.origin.code ∧ f.number / 4096 = f.kind.code := by
  have ho : f.origin.code ≤ 2 := by cases f.origin <;> decide
  have hk : f.kind.code ≤ 3 := by cases f.kind <;> decide
  unfold FaultEntry.number
  refine ⟨?_, ?_, ?_, ?_⟩ <;> omega

theorem Nva.report_fault {k : Nat} {f : FaultEntry} (hk : n.faults[k]? = some f) (h : f.slot ≤ 546) :
    beAt n.report (16 + 2 * k) 2 = f.number :=
  beAt_flatMap_beBytes (g := FaultEntry.number) hk (FaultEntry.number_parts h).1 n.reportHead _

/-- Past the last fault's entry the report holds zeros. -/
theorem Nva.report_zeros {j : Nat} (h : 16 + 2 * n.faults.length ≤ j) : byteAt n.report j = 0 := by
  have hlen : (n.reportHead ++ n.reportFaults).length = 16 + 2 * n.faults.length := by
    rw [List.length_append, n.reportFaults_length, n.reportHead_length]
  obtain ⟨m, rfl⟩ := Nat.exists_eq_add_of_le h
  rw [Nva.report, ← List.append_assoc, ← hlen, byteAt_append_right]
  simp [byteAt, zeros]

end

/-- Settles O26: the list takes the fault or its more flag is set; the report is its marks, its numbers, the fault list and
zeros. -/
theorem nvaReportCountsSlots : Obligations.NvaReportCountsSlots := by
  unfold Obligations.NvaReportCountsSlots
  refine ⟨fun s f => ⟨fun h => Nva.log_room h f, fun h => Nva.log_full h f, fun fl => State.posFlag_raiseBoth ..,
    fun fl => State.contentFlag_raiseBoth .., rfl⟩, fun s hs hfaults hslots hrepairs => ?_⟩
  have hrun : exec (.nvaReport .addressed []) s = s.frameEnd.answers 0x11 s.nva.report := by
    refine congrArg Host.Outcome.next (hs.handed (r := nvaReportRequest []) rfl ?_)
    have howner := nvaReportOwner_eq s.frameEnd
    rwa [State.frameEnd_nva] at howner
  have hcount := fun k (st : SlotState) => Nva.report_count (n := s.nva) k (st := st)
  refine ⟨_, hrun, Nva.report_length hfaults, rfl, byteOf_of_lt (by omega), ?_, ?_, hcount, ?_,
    Nva.report_outstanding hrepairs, fun k f hk => ?_, fun j hj _ => Nva.report_zeros hj⟩
  · change (flagByte s.nva.more).toNat = _
    cases s.nva.more <;> rfl
  · obtain ⟨-, hloaded, -⟩ := hs
    change (loadByte s.nva.loading).toNat = 1
    rw [hloaded]
    rfl
  · have hsum := s.nva.countState_sum
    rwa [← hcount 0 _ rfl, ← hcount 1 _ rfl, ← hcount 2 _ rfl, ← hcount 3 _ rfl, ← hcount 4 _ rfl] at hsum
  · have hslot := hslots f (List.mem_of_getElem? hk)
    obtain ⟨-, hslotPart, horigin, hkind⟩ := FaultEntry.number_parts hslot
    rw [Nva.report_fault hk hslot]
    refine ⟨hslotPart, horigin.trans ?_, hkind.trans ?_⟩
    · cases f.origin <;> rfl
    · cases f.kind <;> rfl

end Sys2Proof.Machine
end

section
/-! PROOF. SlotWriteCopiedAndVerified: the begin of a slot write by its source, and its completion by the verify. -/

namespace Sys2Proof.Machine

/-! ### The begin of a slot write (R60) -/

section
variable {s : State} {i : ItemIndex} {it : Item} {k : SlotId} {rest : List SlotId}

theorem execSlotWriteBegin_head (hl : s.nva.loading = false) (ho : s.nva.op = .free) (hr : s.nva.repairs = [])
    (hq : s.nva.queue = k :: rest) : exec (.slotWriteBegin []) s = .next (s.beginWrite k rest) := by
  simp only [exec, execSlotWriteBegin, hl, ho, hr, hq]
  rfl

theorem State.sourceCorrupt_none (h : s.table.item i = none) : s.sourceCorrupt (itemSlot i) = false := by
  simp only [State.sourceCorrupt, slotKind_itemSlot, h]

theorem State.sourceCorrupt_some (h : s.table.item i = some it) :
    s.sourceCorrupt (itemSlot i) = (decide (it.health = .corrupt) || it.parityFails) := by
  simp only [State.sourceCorrupt, slotKind_itemSlot, h]

theorem State.sourceCorrupt_other (h : ∀ i, slotKind k ≠ .item i) : s.sourceCorrupt k = false := by
  unfold State.sourceCorrupt
  split
  · rename_i i hk
    exact absurd hk (h i)
  all_goals rfl

theorem State.slotSource_item (i : ItemIndex) :
    s.slotSource (itemSlot i) = (s.table.item i).map (fun it => .item it.code it.body) := by
  simp only [State.slotSource, slotKind_itemSlot]

/-- R60: the sources that a write copies, and the erase of an absent item. -/
theorem State.source_sound {copy : Option SlotRecord}
    (h : (∃ i, k = itemSlot i ∧ s.table.item i = none ∧ copy = none) ∨
      (∃ i it, k = itemSlot i ∧ s.table.item i = some it ∧ it.health = .good ∧ it.parityFails = false ∧
        copy = some (.item it.code it.body)) ∨
      (k = rulesSlot ∧ copy = some (.rules s.table.rules)) ∨
      (∃ i : Fin 32, k = promoSlot i ∧ copy = some (.promo i.val s.table.promos[i])) ∨
      (k = scheduleSlot ∧ copy = some (.schedule s.daypart.schedule))) :
    s.sourceCorrupt k = false ∧ s.slotSource k = copy := by
  rcases h with ⟨i, rfl, hi, rfl⟩ | ⟨i, it, rfl, hi, hg, hp, rfl⟩ | ⟨rfl, rfl⟩ | ⟨i, rfl, rfl⟩ | ⟨rfl, rfl⟩
  · exact ⟨State.sourceCorrupt_none hi, by rw [State.slotSource_item, hi]; rfl⟩
  · exact ⟨by simp [State.sourceCorrupt_some hi, hg, hp], by rw [State.slotSource_item, hi]; rfl⟩
  · exact ⟨State.sourceCorrupt_other fun j => by simp [slotKind_rulesSlot],
      by simp only [State.slotSource, slotKind_rulesSlot]⟩
  · exact ⟨State.sourceCorrupt_other fun j => by simp [slotKind_promoSlot],
      by simp only [State.slotSource, slotKind_promoSlot]⟩
  · exact ⟨State.sourceCorrupt_other fun j => by simp [slotKind_scheduleSlot],
      by simp only [State.slotSource, slotKind_scheduleSlot]⟩

theorem State.beginWrite_copies (h : s.sourceCorrupt k = false) : s.beginWrite k rest =
    { s with nva := { s.nva.setSlotState k .writing with
      queue := rest, journal := { word := .clean, slot := k.val },
      op := .write { slot := k, copy := s.slotSource k, rewrite := false, repairWaits := false } } } := by
  unfold State.beginWrite
  rw [h]
  rfl

theorem State.beginWrite_stale (h : s.sourceCorrupt (itemSlot i) = true) : s.beginWrite (itemSlot i) rest =
    State.readBody { s with nva := { s.nva.setSlotState (itemSlot i) .stale with queue := rest } } i := by
  simp only [State.beginWrite, h, if_true, slotKind_itemSlot]

end

/-! ### The completion of a slot write (R61, R62) -/

/-- R61: the verify reads the copied record, or the erased pattern after an erase alone. -/
def SlotWrite.passes (w : SlotWrite) (v : NvSlot) : Prop :=
  match w.copy with
  | some r => (v.read = .clean ∨ v.read = .sec) ∧ v.record = r
  | none => v.read = .erased

/-- R61: the array once a write is over, before its slot's state is set. -/
def Nva.written (n : Nva) (w : SlotWrite) (v : NvSlot) : Nva :=
  { n.setSlot w.slot v with journal := Journal.erased, op := .free }

/-- R61: the state that a verified write leaves. -/
def State.writePassed (s : State) (w : SlotWrite) (v : NvSlot) : State :=
  { s with nva := (s.nva.written w v).afterWrite w true }

/-- R61: the state that a write leaves whose verify fails. -/
def State.writeFailed (s : State) (w : SlotWrite) (v : NvSlot) : State :=
  ({ s with nva := (s.nva.written w v).afterWrite w false } : State).logFault
    { slot := w.slot.val, kind := .ded, origin := .write }

section
variable {s : State} {w : SlotWrite} {v : NvSlot}

theorem SlotWrite.verifies_iff : w.verifies v = true ↔ w.passes v := by
  unfold SlotWrite.verifies SlotWrite.passes
  cases w.copy <;> simp

theorem SlotWrite.passes_written (w : SlotWrite) : w.passes w.written := by
  unfold SlotWrite.passes SlotWrite.written
  cases w.copy with
  | some r => exact ⟨.inl rfl, rfl⟩
  | none => rfl

theorem State.completeWrite_alone (h : w.repairWaits = false) :
    s.completeWrite w v = if w.verifies v then s.writePassed w v else s.writeFailed w v := by
  unfold State.completeWrite
  rw [h]
  cases w.verifies v <;> rfl

/-- R62: a repair that waited on the write is handed back to the slot's new state. -/
theorem State.completeWrite_repair {i : ItemIndex} (h : w.repairWaits = true) (hw : w.slot = itemSlot i) :
    s.completeWrite w v = (if w.verifies v then s.writePassed w v else s.writeFailed w v).requestRepair i := by
  have hkind : slotKind w.slot = .item i := slotKind_eq_item.2 hw
  simp only [State.completeWrite, h, if_true, hkind]
  cases w.verifies v <;> rfl

end

/-- Settles O40: the begin by the source of the slot, the completion by the verify, and a repair that waited. -/
theorem slotWriteCopiedAndVerified : Obligations.SlotWriteCopiedAndVerified := by
  unfold Obligations.SlotWriteCopiedAndVerified
  refine ⟨fun s k rest hl ho hr hq => ?_, fun s w found ho => ?_⟩
  · rw [execSlotWriteBegin_head hl ho hr hq]
    refine ⟨fun copy hcopy => ?_, ?_, ?_⟩
    · obtain ⟨hsound, rfl⟩ := State.source_sound hcopy
      rw [State.beginWrite_copies hsound]
    · rintro i it rfl hi hc
      rw [State.beginWrite_stale (by simp [State.sourceCorrupt_some hi, hc])]
      exact congrArg Host.Outcome.next (State.readBody_sound (s := { s with nva := _ }) hi (.inl hc))
    · rintro i it rfl hi hg hp
      rw [State.beginWrite_stale (by simp [State.sourceCorrupt_some hi, hp])]
  · have hrun : exec (.slotWriteCompletion found) s = .next (s.completeWrite w (found.getD w.written)) := by
      simp only [exec, execSlotWriteCompletion, ho]
    rw [hrun]
    intro v passes n clear failed
    have ends : ∀ {t a b : State}, t = (if w.verifies v then a else b) →
        (passes → Host.Outcome.next (φ := Fault) (ρ := Refusal) t = .next a) ∧
          (¬ passes → Host.Outcome.next (φ := Fault) (ρ := Refusal) t = .next b) := by
      rintro t a b rfl
      exact ⟨fun h => congrArg _ (if_pos (SlotWrite.verifies_iff.2 h)), fun h =>
        congrArg _ (if_neg (mt SlotWrite.verifies_iff.1 h))⟩
    refine ⟨?_, fun hwait => ends (State.completeWrite_alone hwait), fun i hwait hw => ends ?_⟩
    · rintro rfl
      exact w.passes_written
    · rw [State.completeWrite_repair hwait hw]
      exact apply_ite (fun t : State => t.requestRepair i) _ _ _

end Sys2Proof.Machine
end

section
/-! SUPPORT. StepKeepsRejectedDigitsOffGlass: what the promises on the glass speak of, and the reads, requests and content
commands that leave it alone. -/

namespace Sys2Proof.Machine

/-! ### The glass -/

/-- What the promises on the glass speak of: the shown list, the job state and the check-path-fail latch. -/
def State.glass (s : State) : List ShownRecord × Job × Bool := (s.engine.shown, s.engine.job, s.checker.latch)

theorem State.glass_eq_iff {s t : State} : t.glass = s.glass ↔
    t.engine.shown = s.engine.shown ∧ t.engine.job = s.engine.job ∧ t.checker.latch = s.checker.latch := by
  simp [State.glass]

theorem GlassSound.congr {s t : State} (h : GlassSound s) (e : t.glass = s.glass) : GlassSound t := by
  obtain ⟨hshown, hjob, hlatch⟩ := State.glass_eq_iff.1 e
  have hpassed : t.engine.passed = s.engine.passed := by
    unfold FrameEngine.passed
    rw [hshown, hjob]
  exact ⟨hshown ▸ h.digits, hpassed ▸ h.rejected, hpassed ▸ hlatch ▸ h.latched⟩

theorem Reports.glass {s t : State} (h : Reports s t) : t.glass = s.glass := by
  rw [h.eq]
  rfl

theorem ReadsBodies.glass {s t : State} (h : ReadsBodies s t) : t.glass = s.glass := by
  rw [h.eq]
  rfl

theorem State.glass_foldl {α : Type} {f : State → α → State} (hf : ∀ s a, (f s a).glass = s.glass) (l : List α) (s : State) :
    (l.foldl f s).glass = s.glass :=
  List.foldlRecOn l f (motive := fun t => t.glass = s.glass) rfl fun t ht a _ => (hf t a).trans ht

@[simp] theorem State.readBody_glass (s : State) (i : ItemIndex) : (s.readBody i).glass = s.glass := (s.readBody_reads i).glass

@[simp] theorem State.upsets_glass (s : State) (l : List ItemIndex) : (s.upsets l).glass = s.glass := (s.upsets_reads l).glass

@[simp] theorem State.requestRepair_glass (s : State) (i : ItemIndex) : (s.requestRepair i).glass = s.glass :=
  (s.requestRepair_reads i).glass

theorem State.walkBodies_glass (s : State) : s.walkBodies.glass = s.glass := State.glass_foldl State.readBody_glass _ s

/-! ### Owners of content commands -/

section
variable (s : State)

@[simp] theorem assetOpenOwner_glass (f : OpenForm) : (assetOpenOwner f s).state.glass = s.glass := by
  unfold assetOpenOwner
  repeat' split
  all_goals rfl

@[simp] theorem assetCloseOwner_glass (h : Nat) : (assetCloseOwner h s).state.glass = s.glass := by
  unfold assetCloseOwner
  repeat' split
  all_goals rfl

@[simp] theorem assetAbortOwner_glass (h : Nat) : (assetAbortOwner h s).state.glass = s.glass := by
  unfold assetAbortOwner
  repeat' split
  all_goals rfl

@[simp] theorem assetFreeOwner_glass (h : Nat) : (assetFreeOwner h s).state.glass = s.glass := by
  unfold assetFreeOwner
  repeat' split
  all_goals rfl

@[simp] theorem assetQueryOwner_glass (h : Nat) : (assetQueryOwner h s).state.glass = s.glass := by
  unfold assetQueryOwner
  repeat' split
  all_goals rfl

@[simp] theorem sceneBeginOwner_glass (f : SceneForm) : (sceneBeginOwner f s).state.glass = s.glass := by
  unfold sceneBeginOwner
  split <;> rfl

@[simp] theorem layerAddOwner_glass (f : LayerForm) : (layerAddOwner f s).state.glass = s.glass := by
  unfold layerAddOwner
  repeat' split
  all_goals rfl

@[simp] theorem sceneSubmitOwner_glass (p : Byte) : (sceneSubmitOwner p s).state.glass = s.glass := by
  unfold sceneSubmitOwner
  dsimp only
  repeat' split
  all_goals rfl

@[simp] theorem sceneDiscardOwner_glass (p : Byte) : (sceneDiscardOwner p s).state.glass = s.glass := by
  unfold sceneDiscardOwner
  repeat' split
  all_goals rfl

@[simp] theorem styleSetOwner_glass (f : StyleForm) : (styleSetOwner f s).state.glass = s.glass := by
  unfold styleSetOwner
  repeat' split
  all_goals rfl

@[simp] theorem panelSetOwner_glass (p e r : Byte) : (panelSetOwner p e r s).state.glass = s.glass := by
  unfold panelSetOwner
  split <;> rfl

@[simp] theorem curveSetOwner_glass (f : CurveForm) : (curveSetOwner f s).state.glass = s.glass := by
  unfold curveSetOwner
  repeat' split
  all_goals rfl

@[simp] theorem thermalSetOwner_glass (f : ThermalForm) : (thermalSetOwner f s).state.glass = s.glass := by
  unfold thermalSetOwner
  dsimp only
  repeat' split
  all_goals rfl

@[simp] theorem backlightRestartOwner_glass (p : Byte) : (backlightRestartOwner p s).state.glass = s.glass := by
  unfold backlightRestartOwner
  repeat' split
  all_goals rfl

@[simp] theorem frameRateSetOwner_glass (r : Byte) : (frameRateSetOwner r s).state.glass = s.glass := by
  unfold frameRateSetOwner
  split <;> rfl

@[simp] theorem itemQueryOwner_glass (c : Nat) : (itemQueryOwner c s).state.glass = s.glass := by
  unfold itemQueryOwner
  dsimp only
  split
  · rfl
  · split
    · rfl
    · split <;> exact s.readBody_glass _

@[simp] theorem checkTestCommand_glass : (checkTestCommand s).state.glass = s.glass := by
  unfold checkTestCommand
  split <;> rfl

end

/-- A content command touches the glass only through its owner. -/
theorem State.takeCommand_glass {owner : State → CommandResult} (ho : ∀ t, (owner t).state.glass = t.glass) (s : State)
    (code : Byte) (go : BitVec 32) : (s.takeCommand code go owner).glass = s.glass := by
  unfold State.takeCommand CommandResult.complete
  dsimp only
  split
  · rfl
  · exact ho _

/-- No command that a go word takes touches the glass. -/
theorem State.runRecord_glass (s : State) (go : BitVec 32) : (s.runRecord go).glass = s.glass := by
  unfold State.runRecord
  dsimp only
  split
  case h_17 | h_19 => exact State.takeCommand_glass (fun _ => rfl) _ _ _
  all_goals exact State.takeCommand_glass (fun t => by simp) _ _ _

theorem State.apertureWrite_glass (s : State) (o : Nat) (l : List Byte) : (s.apertureWrite o l).glass = s.glass := by
  unfold State.apertureWrite
  dsimp only
  repeat' split
  all_goals rfl

theorem State.windowWrite_glass (s : State) (o : Nat) (l : List Byte) : (s.windowWrite o l).glass = s.glass := by
  unfold State.windowWrite
  split
  · exact s.apertureWrite_glass o l
  · split
    · unfold State.controlWrite
      split
      · exact s.runRecord_glass _
      · split <;> rfl
    · rfl

end Sys2Proof.Machine
end

section
/-! SUPPORT. StepKeepsRejectedDigitsOffGlass: the POS link, the NV price array and the sensors leave the glass alone. -/

namespace Sys2Proof.Machine

/-! ### Owners of requests -/

section
variable (s : State)

theorem stageEntry_glass (e : StagedEntry) : (stageEntry e s).1.glass = s.glass := by
  unfold stageEntry
  dsimp only
  repeat' split
  all_goals rfl

theorem itemStageOwner_glass (l : List Byte) : (itemStageOwner l s).1.glass = s.glass := by
  unfold itemStageOwner
  split
  · exact stageEntry_glass ..
  · rfl

theorem itemRemoveOwner_glass (l : List Byte) : (itemRemoveOwner l s).1.glass = s.glass := by
  unfold itemRemoveOwner
  split
  · exact stageEntry_glass ..
  · rfl

theorem promoStageOwner_glass (l : List Byte) : (promoStageOwner l s).1.glass = s.glass := by
  unfold promoStageOwner
  split
  · split
    · exact stageEntry_glass ..
    · rfl
  · rfl

theorem rulesStageOwner_glass (l : List Byte) : (rulesStageOwner l s).1.glass = s.glass := by
  unfold rulesStageOwner
  split
  · exact stageEntry_glass ..
  · rfl

theorem commitOwner_glass (l : List Byte) : (commitOwner l s).1.glass = s.glass := by
  unfold commitOwner
  repeat' split
  all_goals rfl

theorem applyOwner_glass : (applyOwner s).1.glass = s.glass := by
  unfold applyOwner
  repeat' split
  all_goals rfl

theorem commitCancelOwner_glass : (commitCancelOwner s).1.glass = s.glass := by
  unfold commitCancelOwner
  repeat' split
  all_goals rfl

theorem availSetOwner_glass (l : List Byte) : (availSetOwner l s).1.glass = s.glass := by
  unfold availSetOwner
  split <;> rfl

theorem scheduleSetOwner_glass (l : List Byte) : (scheduleSetOwner l s).1.glass = s.glass := by
  unfold scheduleSetOwner
  split <;> rfl

theorem daypartForceOwner_glass (l : List Byte) : (daypartForceOwner l s).1.glass = s.glass := by
  unfold daypartForceOwner
  split <;> rfl

theorem timeSetOwner_glass (l : List Byte) : (timeSetOwner l s).1.glass = s.glass := by
  unfold timeSetOwner
  split <;> rfl

theorem itemReadOwner_glass (l : List Byte) : (itemReadOwner l s).1.glass = s.glass := by
  unfold itemReadOwner
  dsimp only
  split
  · rfl
  · split
    · rfl
    · split
      · exact s.readBody_glass _
      · split <;> exact s.readBody_glass _

theorem suspendClearOwner_glass (l : List Byte) : (suspendClearOwner l s).1.glass = s.glass := by
  unfold suspendClearOwner
  dsimp only
  split
  · rfl
  · split
    · rfl
    · rfl
    · rfl
    · exact (s.unsuspend_reports _).glass

theorem checkTestOwner_glass : (checkTestOwner s).1.glass = s.glass := by
  unfold checkTestOwner
  split <;> rfl

/-- No owner of a request touches the glass. -/
theorem owner_glass {kind : Byte} {l : List Byte} {r : Request} (hr : requestOf kind l = some r) :
    (r.owner s).1.glass = s.glass := by
  unfold requestOf at hr
  split at hr
  case h_1 => cases hr; rfl
  case h_2 => cases hr; exact itemStageOwner_glass s l
  case h_3 => cases hr; exact itemRemoveOwner_glass s l
  case h_4 => cases hr; exact promoStageOwner_glass s l
  case h_5 => cases hr; exact rulesStageOwner_glass s l
  case h_6 => cases hr; rfl
  case h_7 => cases hr; exact commitOwner_glass s l
  case h_8 => cases hr; exact applyOwner_glass s
  case h_9 => cases hr; exact commitCancelOwner_glass s
  case h_10 => cases hr; exact availSetOwner_glass s l
  case h_11 => cases hr; exact scheduleSetOwner_glass s l
  case h_12 => cases hr; exact daypartForceOwner_glass s l
  case h_13 => cases hr; exact timeSetOwner_glass s l
  case h_14 => cases hr; exact itemReadOwner_glass s l
  case h_15 => cases hr; rfl
  case h_16 => cases hr; exact suspendClearOwner_glass s l
  case h_17 => cases hr; rfl
  case h_18 => cases hr; exact checkTestOwner_glass s
  case h_19 => cases hr

/-! ### Frames on the POS link -/

theorem State.take_glass (a : Addressing) {r : Request} (hr : (r.owner s).1.glass = s.glass) : (s.take a r).glass = s.glass := by
  unfold State.take
  split
  · split
    · rfl
    · split
      · rfl
      · split
        · split <;> exact hr
        · rfl
  · split
    · rfl
    · exact hr

theorem State.takeKind_glass (a : Addressing) (kind : Byte) (l : List Byte) : (s.takeKind a kind l).glass = s.glass := by
  unfold State.takeKind
  split
  · rename_i r hr
    exact s.take_glass a (owner_glass s hr)
  · unfold State.takeUnknown
    repeat' split
    all_goals rfl

theorem State.acceptFrame_glass (frame : List Byte) : (s.acceptFrame frame).glass = s.glass := by
  unfold State.acceptFrame
  split
  · exact s.takeKind_glass _ _ _
  · rfl

theorem State.withdrawAnswer_glass : s.withdrawAnswer.glass = s.glass := by
  rw [State.glass_eq_iff, State.withdrawAnswer_engine, State.withdrawAnswer_checker]
  exact ⟨rfl, rfl, rfl⟩

theorem State.onFrame_glass {f : State → State} (hf : ∀ t, (f t).glass = t.glass) : (s.onFrame f).glass = s.glass := by
  unfold State.onFrame
  split
  · rfl
  · exact (hf _).trans s.withdrawAnswer_glass

theorem State.receiveByte_glass (b : Byte) (fe : Bool) : (s.receiveByte b fe).glass = s.glass := by
  unfold State.receiveByte
  split
  · rfl
  · split
    · exact s.withdrawAnswer_glass
    · rfl
  · split
    · rfl
    · unfold State.assembleByte
      split
      · rfl
      · split
        · exact s.onFrame_glass fun t => t.acceptFrame_glass _
        · rfl

/-! ### The array and the sensors -/

theorem State.finishCheck_glass (c : CommitRecord) : (s.finishCheck c).glass = s.glass := by
  unfold State.finishCheck State.commitAnswer
  dsimp only
  generalize (s.link.answer.isSome || _) = newer
  cases newer <;> rfl

theorem State.beginWrite_glass (k : SlotId) (rest : List SlotId) : (s.beginWrite k rest).glass = s.glass := by
  unfold State.beginWrite
  split
  · dsimp only
    split
    · exact State.readBody_glass _ _
    all_goals rfl
  · rfl

theorem State.completeWrite_glass (w : SlotWrite) (v : NvSlot) : (s.completeWrite w v).glass = s.glass := by
  unfold State.completeWrite
  dsimp only
  generalize Nva.afterWrite _ w _ = n
  have hu : (if w.verifies v then { s with nva := n } else
      ({ s with nva := n } : State).logFault { slot := w.slot.val, kind := .ded, origin := .write }).glass = s.glass := by
    split <;> rfl
  split
  · split
    · exact (State.requestRepair_glass _ _).trans hu
    all_goals exact hu
  · exact hu

theorem State.restore_glass (i : ItemIndex) (code : Nat) (body : ItemBody) : (s.restore i code body).glass = s.glass := by
  unfold State.restore
  repeat' split
  case isTrue => exact (State.unsuspendRestored_reports _ code).glass
  case isFalse => exact (s.markUnrepairable_reports i).glass
  all_goals rfl

theorem State.completeRepair_glass (i : ItemIndex) (v : NvSlot) : (s.completeRepair i v).glass = s.glass := by
  unfold State.completeRepair
  dsimp only
  split
  · repeat' split
    all_goals rfl
  · split
    · rename_i c code body _
      have hres : ((s.repairRead i v).restore i code body).glass = s.glass := State.restore_glass _ i code body
      split <;> exact hres
    · exact (State.markUnrepairable_reports _ i).glass

theorem State.discardAllBuilding_glass : s.discardAllBuilding.glass = s.glass :=
  State.glass_foldl (f := State.discardBuilding) (fun _ _ => rfl) _ s

theorem State.thermistorRead_glass (p : Fin 4) (c : Nat) : (s.thermistorRead p c).glass = s.glass := by
  have raised : ∀ (t : State) (b : Bool) (f : ContentFlag), (t.raiseIf b f).glass = t.glass := fun t b f => by
    cases b <;> rfl
  unfold State.thermistorRead
  dsimp only
  rw [raised, raised]
  rfl

/-- The start-up load touches no part of the frame engine and of the checker only the suspended set. -/
theorem State.load_glass (slots : List (SlotId × NvSlot)) (journal : Option Journal) :
    (s.loadStart slots journal).loadFold.endLoad.glass = s.glass := by
  have h : Loads (s.loadStart slots journal) (s.loadStart slots journal).loadFold := by
    rw [State.loadFold_eq]
    exact (State.loadJournal_loads _).trans (State.loadAll_loads ..)
  generalize (s.loadStart slots journal).loadFold = u at *
  rw [h.eq]
  rfl

end

end Sys2Proof.Machine
end

section
/-! PROOF. StepKeepsRejectedDigitsOffGlass: the stages of a frame job, and the theorem over every step. -/

namespace Sys2Proof.Machine

/-! ### Dash reasons and digits (R76, R128) -/

/-- R76, R128: a record with a dash reason carries no digit glyph. -/
def ShownRecord.dashed (r : ShownRecord) : Prop := r.reason ≠ .none → r.glyphs.any isDigitGlyph = false

theorem formDashes_dashed (st : Style) (tile : Box) (why : DashReason) (o : Bool) :
    (formDashes st tile why o).glyphs.any isDigitGlyph = false := by
  unfold formDashes
  split <;> rfl

theorem formString_dashed (st : Style) (tile : Box) (str : List Nat) (h : (formString st tile str).reason ≠ .none) :
    (formString st tile str).glyphs.any isDigitGlyph = false := by
  unfold formString at h ⊢
  split at h
  · exact absurd rfl h
  · exact formDashes_dashed ..

theorem formTileUpset_dashed (st : Style) (two : Bool) (tile : Box) (req : TileRequest) (glyphs : Option (List Nat))
    (h : (formTileUpset st two tile req glyphs).reason ≠ .none) :
    (formTileUpset st two tile req glyphs).glyphs.any isDigitGlyph = false := by
  match req, glyphs with
  | .price _, some str => exact formString_dashed st tile str h
  | .price q, none => exact formString_dashed st tile (priceString st two q) h
  | .dashes why, _ => exact formDashes_dashed st tile why false

/-! ### The compose stage (R127, R128) -/

section
variable {s : State}

theorem State.drawTile_dashed (h : ∀ r ∈ s.engine.shown, r.dashed) {p : Fin 4} {k : Nat} {l : Layer} {code : Nat}
    {style : Fin 16} {dimmed : Bool} {dim : Byte} {d : PriceDecision} {glyphs : Option (List Nat)} :
    ∀ r ∈ (s.drawTile p k l code style dimmed dim d glyphs).engine.shown, r.dashed := by
  rw [State.drawTile_eq]
  intro r hr
  rcases List.mem_append.1 hr with hr | hr
  · exact h r hr
  · rw [List.mem_singleton.1 hr]
    exact formTileUpset_dashed _ _ _ _ _

theorem State.drawPrice_dashed (h : ∀ r ∈ s.engine.shown, r.dashed) {p : Fin 4} {k : Nat} {l : Layer} {style : Fin 16}
    {dimmed : Bool} {dim : Byte} {u : ComposeUpset} :
    ∀ r ∈ (s.drawPrice p k l style dimmed dim u).engine.shown, r.dashed := by
  unfold State.drawPrice
  repeat' split
  case h_2 => exact State.drawTile_dashed h
  all_goals exact h

theorem State.drawLayer_dashed (h : ∀ r ∈ s.engine.shown, r.dashed) {p : Fin 4} {k : Nat} {l : Layer} {dimmed : Bool}
    {dim : Byte} {u : ComposeUpset} : ∀ r ∈ (s.drawLayer p k l dimmed dim u).engine.shown, r.dashed := by
  unfold State.drawLayer
  split
  · exact h
  · exact h
  · exact State.drawPrice_dashed h

theorem State.drawFault_dashed (h : ∀ r ∈ s.engine.shown, r.dashed) {p : Fin 4} {k : Nat} {l : Layer} {dimmed : Bool}
    {dim : Byte} : ∀ r ∈ (s.drawFault p k l dimmed dim).engine.shown, r.dashed := by
  unfold State.drawFault
  split
  · exact State.drawTile_dashed h
  all_goals exact h

theorem State.visibility_glass (s : State) (l : Layer) : (s.visibility l).1.glass = s.glass := by
  unfold State.visibility
  repeat' split
  case h_2 => exact s.readBody_glass _
  all_goals rfl

theorem State.composeAt_dashed (h : ∀ r ∈ s.engine.shown, r.dashed) (p : Fin 4) (k : Nat) (u : ComposeUpset) :
    ∀ r ∈ (s.composeAt p k u).engine.shown, r.dashed := by
  unfold State.composeAt
  split
  · exact h
  · rename_i l dim _
    have hv : ∀ r ∈ (s.visibility l).1.engine.shown, r.dashed :=
      (State.glass_eq_iff.1 (s.visibility_glass l)).1.symm ▸ h
    unfold State.composeLayer
    split <;> rename_i e <;> rw [e] at hv
    · exact hv
    · exact State.drawLayer_dashed hv
    · exact State.drawFault_dashed hv

/-! ### Nothing passed yet -/

theorem GlassSound.of_unpassed {t : State} (hd : ∀ r ∈ t.engine.shown, r.dashed) (hp : t.engine.passed = []) : GlassSound t :=
  ⟨hd, by simp [hp], by simp [hp]⟩

theorem GlassSound.engineStart (h : GlassSound s) : GlassSound s.engineStart := by
  unfold State.engineStart
  split
  · exact h
  · split
    · exact .of_unpassed (fun r hr => nomatch hr) rfl
    all_goals exact h.congr rfl

theorem GlassSound.composeAt (h : GlassSound s) (p : Fin 4) (k : Nat) (u : ComposeUpset) (next : ComposeAt) :
    GlassSound ((s.composeAt p k u).setJob (.compose next)) :=
  .of_unpassed (State.composeAt_dashed h.digits p k u) rfl

theorem GlassSound.beginCheck (h : GlassSound s) : GlassSound (s.clearMarks.setJob (.check 0 s.makesTest)) := by
  refine .of_unpassed (fun r hr => ?_) rfl
  obtain ⟨r', hr', rfl⟩ := List.mem_map.1 hr
  exact h.digits r' hr'

theorem GlassSound.checkAt (h : GlassSound s) (stuck testing : Bool) {i : Nat} {r : ShownRecord}
    (hi : s.engine.shown[i]? = some r) : GlassSound (s.checkAt stuck testing i r) := by
  obtain ⟨testing', he⟩ := (s.checkAt_leaves stuck testing i r).engine
  refine .of_unpassed ?_ (by rw [he]; rfl)
  rw [he]
  intro x hx
  rcases List.mem_or_eq_of_mem_set hx with hx | rfl
  · exact h.digits x hx
  · exact h.digits r (List.mem_of_getElem? hi)

/-! ### The patch stage (R136) -/

/-- What the patch stage makes of a record. -/
def State.patchedRecord (s : State) (r : ShownRecord) : ShownRecord := (s.patchReason r).elim r r.patched

theorem State.patchReason_none {r : ShownRecord} (h : s.patchReason r = none) :
    r.mark = none ∧ (r.reason = .none → s.checker.latch = false) := by
  unfold State.patchReason at h
  split at h
  · exact absurd h (by simp)
  · rename_i hm
    refine ⟨hm, fun hr => ?_⟩
    have hd : r.digits = true := by simp [ShownRecord.digits, hr]
    rw [hd] at h
    cases hl : s.checker.latch with
    | false => rfl
    | true => simp [hl] at h

theorem State.patchReason_ne_none {r : ShownRecord} {why : DashReason} (h : s.patchReason r = some why) : why ≠ .none := by
  unfold State.patchReason at h
  split at h
  · cases h; decide
  · split at h
    · cases h
    · split at h
      · cases h; decide
      · split at h
        · cases h; decide
        · cases h

/-- A record that the patch stage has passed keeps the promises on it: a rejected one is patched, and under the latch every
one that carries digits. -/
theorem State.patchedRecord_sound {r : ShownRecord} (hr : r.dashed) :
    (s.patchedRecord r).dashed ∧ ((s.patchedRecord r).mark.isSome = true → (s.patchedRecord r).reason ≠ .none) ∧
      (s.checker.latch = true → (s.patchedRecord r).reason ≠ .none) := by
  unfold State.patchedRecord
  cases hp : s.patchReason r with
  | none =>
    obtain ⟨hm, hl⟩ := State.patchReason_none hp
    refine ⟨hr, fun h => ?_, fun h e => ?_⟩
    · simp [hm] at h
    · simp [hl e] at h
  | some why => exact ⟨fun _ => rfl, fun _ => State.patchReason_ne_none hp, fun _ => State.patchReason_ne_none hp⟩

theorem State.drawPatch_glass (s : State) (r : ShownRecord) : (s.drawPatch r).glass = s.glass := by
  unfold State.drawPatch
  dsimp only
  repeat' split
  all_goals rfl

theorem State.patchAt_shown {i : Nat} {r : ShownRecord} (hi : s.engine.shown[i]? = some r) :
    (s.patchAt i r).engine.shown = s.engine.shown.set i (s.patchedRecord r) := by
  unfold State.patchAt State.patchedRecord
  cases s.patchReason r with
  | none =>
    obtain ⟨hlt, rfl⟩ := List.getElem?_eq_some_iff.1 hi
    exact (List.set_getElem_self hlt).symm
  | some why =>
    obtain ⟨hshown, -, -⟩ := State.glass_eq_iff.1 (s.drawPatch_glass r)
    exact congrArg (fun l => l.set i (r.patched why)) hshown

theorem State.patchAt_latch (i : Nat) (r : ShownRecord) : (s.patchAt i r).checker.latch = s.checker.latch := by
  obtain ⟨-, -, hlatch⟩ := State.glass_eq_iff.1 (s.drawPatch_glass r)
  unfold State.patchAt
  split
  · rfl
  · exact hlatch

/-- The records passed at `i + 1` are those passed at `i` and the one patched. -/
theorem mem_take_set_succ {α : Type} {l : List α} {i : Nat} {a x : α} (h : x ∈ (l.set i a).take (i + 1)) :
    x ∈ l.take i ∨ x = a := by
  rw [List.take_add_one, List.take_set_of_le (Nat.le_refl i)] at h
  rcases List.mem_append.1 h with h | h
  · exact .inl h
  · refine .inr ?_
    rw [Option.mem_toList, List.getElem?_set_self'] at h
    obtain ⟨y, -, rfl⟩ := Option.map_eq_some_iff.1 h
    rfl

theorem GlassSound.patchAt (h : GlassSound s) {i : Nat} (hj : s.engine.job = .patch i) {r : ShownRecord}
    (hi : s.engine.shown[i]? = some r) : GlassSound ((s.patchAt i r).setJob (.patch (i + 1))) := by
  have hshown := State.patchAt_shown hi
  obtain ⟨hdash, hmark, hlatch⟩ := s.patchedRecord_sound (h.digits r (List.mem_of_getElem? hi))
  have hbefore : s.engine.passed = s.engine.shown.take i := by simp [FrameEngine.passed, hj]
  have hpassed : ∀ x ∈ ((s.patchAt i r).setJob (.patch (i + 1))).engine.passed,
      x ∈ s.engine.passed ∨ x = s.patchedRecord r := fun x hx => by
    rw [hbefore]
    exact mem_take_set_succ (hshown ▸ hx)
  refine ⟨fun x hx => ?_, fun x hx => ?_, fun hl x hx => ?_⟩
  · rcases List.mem_or_eq_of_mem_set (hshown ▸ hx : x ∈ s.engine.shown.set i (s.patchedRecord r)) with hx | rfl
    · exact h.digits x hx
    · exact hdash
  · rcases hpassed x hx with hx | rfl
    · exact h.rejected x hx
    · exact hmark
  · have hl' : s.checker.latch = true := (s.patchAt_latch i r).symm.trans hl
    rcases hpassed x hx with hx | rfl
    · exact h.latched hl' x hx
    · exact hlatch hl'

theorem GlassSound.endJob (h : GlassSound s) {i : Nat} (hj : s.engine.job = .patch i) (hi : s.engine.shown.length ≤ i) :
    GlassSound (s.setJob .idle) := by
  have hpassed : s.engine.passed = (s.setJob .idle).engine.passed := by
    simp [FrameEngine.passed, hj, List.take_of_length_le hi]
  exact ⟨h.digits, hpassed ▸ h.rejected, hpassed ▸ h.latched⟩

/-! ### Every step -/

/-- A POS request leaves the glass alone. -/
theorem request_glass {t : State} {c : Instr} {k : Nat} {a : Addressing} {l : List Byte} (hr : requestRow k a l = some c)
    (e : exec c s = .next t) : t.glass = s.glass := by
  obtain ⟨r, hrow⟩ := requestRow_request hr
  rw [hrow.row] at e
  cases e
  exact s.onFrame_glass fun t => t.take_glass a (owner_glass t hrow.request)

/-- A content command leaves the glass alone. -/
theorem command_glass {t : State} {c : Instr} {r : CommandRow} (hr : commandRow c = some r) (e : exec c s = .next t) :
    t.glass = s.glass := by
  have keeps : ∀ {owner : State → CommandResult} (_ : ∀ t, (owner t).state.glass = t.glass) (l : List (Nat × List Byte))
      (code : Byte) (go : BitVec 32), ((s.writeRecord l).takeCommand code go owner).glass = s.glass := fun ho l code go =>
    State.takeCommand_glass ho (s.writeRecord l) code go
  unfold commandRow at hr
  split at hr
  case h_17 => cases e; exact keeps (fun _ => rfl) _ _ _
  case h_19 => cases hr
  all_goals
    cases e
    exact keeps (fun t => by simp) _ _ _

/-- Every command keeps the promises on the glass: those of the frame job by its stages, the others leave the glass alone. -/
theorem GlassSound.exec {t : State} (h : GlassSound s) {c : Instr} (e : exec c s = .next t) : GlassSound t := by
  cases c
  case powerOnReset straps large =>
    cases e
    exact (afterReset_glass_sound straps large s.arrayAtReset s.nva.journal s.assets.memory).congr rfl
  case frameStart first =>
    cases e
    split
    · exact GlassSound.engineStart (s := s.startPeriod.panelStart) (h.congr rfl)
    · exact (GlassSound.engineStart (s := s.startPeriod) (h.congr rfl)).congr rfl
  case composePanelFill =>
    cases e
    split
    · exact .of_unpassed h.digits rfl
    all_goals exact h
  case composeLayer u =>
    cases e
    split
    · exact GlassSound.composeAt (h.congr (s.upsets_glass _)) _ _ _ _
    all_goals exact h
  case composeStageEnd =>
    cases e
    split
    · exact h.beginCheck
    all_goals exact h
  case checkRecord l stuck =>
    cases e
    split
    · split
      · rename_i hi
        obtain ⟨hshown, -, -⟩ := State.glass_eq_iff.1 (s.upsets_glass l)
        exact GlassSound.checkAt (h.congr (s.upsets_glass l)) _ _ (hshown ▸ hi)
      · exact h
    all_goals exact h
  case checkStageEnd =>
    cases e
    split
    · split
      · exact .of_unpassed h.digits rfl
      · exact h
    all_goals exact h
  case patchRecord =>
    cases e
    split
    · rename_i hj
      split
      · rename_i hi
        exact h.patchAt hj hi
      · exact h
    all_goals exact h
  case jobCompletion =>
    cases e
    split
    · rename_i hj
      split
      · rename_i hi
        exact h.endJob hj hi
      · exact h
    all_goals exact h
  -- Every other row leaves the glass alone.
  case pcieLinkReset =>
    cases e
    exact h.congr (State.discardAllBuilding_glass _)
  case loadCompletion slots journal =>
    rw [Machine.exec, execLoadCompletion_eq] at e
    cases e
    split
    · exact h.congr (s.load_glass slots journal)
    · exact h
  case lineByte b fe =>
    cases e
    split
    · exact h
    · exact h.congr (s.receiveByte_glass b fe)
  case frameDropped frame => cases e; exact h.congr (s.onFrame_glass fun t => t.acceptFrame_glass frame)
  case unknownKind a kind l => cases e; exact h.congr (s.onFrame_glass fun t => t.takeKind_glass a kind l)
  case status a l => exact h.congr (request_glass (k := 0x01) (a := a) (l := l) rfl e)
  case itemStage a l => exact h.congr (request_glass (k := 0x02) (a := a) (l := l) rfl e)
  case itemRemove a l => exact h.congr (request_glass (k := 0x03) (a := a) (l := l) rfl e)
  case promoStage a l => exact h.congr (request_glass (k := 0x04) (a := a) (l := l) rfl e)
  case rulesStage a l => exact h.congr (request_glass (k := 0x05) (a := a) (l := l) rfl e)
  case stageAbort a l => exact h.congr (request_glass (k := 0x06) (a := a) (l := l) rfl e)
  case commit a l => exact h.congr (request_glass (k := 0x07) (a := a) (l := l) rfl e)
  case apply a l => exact h.congr (request_glass (k := 0x08) (a := a) (l := l) rfl e)
  case commitCancel a l => exact h.congr (request_glass (k := 0x09) (a := a) (l := l) rfl e)
  case availSet a l => exact h.congr (request_glass (k := 0x0A) (a := a) (l := l) rfl e)
  case scheduleSet a l => exact h.congr (request_glass (k := 0x0B) (a := a) (l := l) rfl e)
  case daypartForce a l => exact h.congr (request_glass (k := 0x0C) (a := a) (l := l) rfl e)
  case timeSet a l => exact h.congr (request_glass (k := 0x0D) (a := a) (l := l) rfl e)
  case itemRead a l => exact h.congr (request_glass (k := 0x0E) (a := a) (l := l) rfl e)
  case suspendedList a l => exact h.congr (request_glass (k := 0x0F) (a := a) (l := l) rfl e)
  case suspendClear a l => exact h.congr (request_glass (k := 0x10) (a := a) (l := l) rfl e)
  case nvaReport a l => exact h.congr (request_glass (k := 0x11) (a := a) (l := l) rfl e)
  case checkTest path =>
    cases path with
    | posLink a l => exact h.congr (request_glass (k := 0x12) (a := a) (l := l) rfl e)
    | contentPort go => exact h.congr (command_glass rfl e)
  case commitCheckCompletion l =>
    cases e
    repeat' split
    · exact h
    · exact h.congr ((State.finishCheck_glass _ _).trans ((State.walkBodies_glass _).trans (s.upsets_glass l)))
    · exact h
  case slotWriteBegin l =>
    cases e
    split
    · exact h.congr ((State.beginWrite_glass _ _ _).trans (s.upsets_glass l))
    · exact h
  case slotWriteCompletion found =>
    cases e
    split
    · exact h.congr (s.completeWrite_glass _ _)
    all_goals exact h
  case repairReadCompletion found =>
    cases e
    split
    · exact h.congr (s.completeRepair_glass _ _)
    all_goals exact h
  case sensorConversionCompletion code =>
    cases e
    split
    · exact h
    · dsimp only
      repeat' split
      · exact h.congr rfl
      · exact h.congr (State.thermistorRead_glass _ _ _)
      · exact h.congr rfl
  case apertureWrite o l => cases e; exact h.congr (s.apertureWrite_glass _ _)
  case registerWrite o l => cases e; exact h.congr (s.windowWrite_glass _ _)
  case unknownCommand go code => cases e; exact h.congr (State.runRecord_glass (s.writeRecord _) go)
  case idlePeriodExpiry | frameGapExpiry | answerBegin | answerEnd | holdExpiry | repairReadStart =>
    cases e
    repeat' split
    all_goals exact h.congr rfl
  case secondTick | summaryWordRead | loadFaultRecordRead | messageEnable => cases e; exact h.congr rfl
  case assetOpen | assetClose | assetAbort | assetFree | assetQuery | sceneBegin | layerAdd | sceneSubmit | sceneDiscard
      | styleSet | panelSet | curveSet | thermalSet | backlightRestart | frameRateSet | itemQuery | statusQuery =>
    exact h.congr (command_glass rfl e)

end

/-- Settles O59: only the stages of a frame job touch the shown list, the job state and the latch, and a record is passed by
the patch stage alone, which leaves no digits in one that is rejected or under the latch. -/
theorem stepKeepsRejectedDigitsOffGlass : Obligations.StepKeepsRejectedDigitsOffGlass := by
  unfold Obligations.StepKeepsRejectedDigitsOffGlass
  intro s t h e
  unfold step at e
  split at e
  · cases e
    exact h
  · exact GlassSound.exec (s := s.popped) (h.congr rfl) e

end Sys2Proof.Machine
end

section
/-! PROOF. PlacementInsideTile: where a string stands in a tile. -/

namespace Sys2Proof.Machine

/-- R75: a string fits a tile when its cells do. -/
def Style.fits (st : Style) (n : Nat) (tile : Box) : Prop := n * st.cw ≤ tile.w ∧ st.ch ≤ tile.h

/-- R75: the column at which a string of `n` cells begins in a tile. -/
def Style.column (st : Style) (n : Nat) (tile : Box) : Nat :=
  match st.alignment with
  | .left => tile.x
  | .right => tile.x + tile.w - n * st.cw
  | .center => tile.x + (tile.w - n * st.cw) / 2

theorem placeOrigin_none {st : Style} {n : Nat} {tile : Box} (h : ¬ st.fits n tile) : placeOrigin st n tile = none := if_neg h

theorem placeOrigin_some {st : Style} {n : Nat} {tile : Box} (h : st.fits n tile) :
    placeOrigin st n tile = some (st.column n tile, tile.y + (tile.h - st.ch) / 2) := if_pos h

/-- A string that fits begins within its tile and ends within it, whatever its alignment. -/
theorem Style.column_bounds {st : Style} {n : Nat} {tile : Box} (h : n * st.cw ≤ tile.w) :
    tile.x ≤ st.column n tile ∧ st.column n tile + n * st.cw ≤ tile.x + tile.w := by
  unfold Style.column
  split <;> omega

/-- Settles O29: the box of a string that fits, at the origin of its alignment, and its bounds. -/
theorem placementInsideTile : Obligations.PlacementInsideTile := by
  unfold Obligations.PlacementInsideTile
  refine fun st n tile => ⟨placeOrigin_none, fun hw hh => ⟨_, placeOrigin_some ⟨hw, hh⟩, rfl, rfl, rfl, rfl, ?_⟩⟩
  obtain ⟨hleft, hright⟩ := Style.column_bounds hw
  exact ⟨hleft, hright, by dsimp only [stringBox]; omega, by dsimp only [stringBox]; omega⟩

end Sys2Proof.Machine
end

section
/-! SUPPORT. PriceStringAndTile: the digits of a number, their groups, and the parts of a price string. -/

namespace Sys2Proof.Machine

/-! ### Decimal digits (R72) -/

/-- The number that a list of digits spells. -/
def spelled (l : List Nat) : Nat := l.foldl (fun n g => n * 10 + g) 0

theorem spelled_append_one (l : List Nat) (g : Nat) : spelled (l ++ [g]) = spelled l * 10 + g := by
  simp [spelled]

theorem spelled_digitsWithin {k n : Nat} (h : n < k) : spelled (digitsWithin k n) = n := by
  induction k generalizing n with
  | zero => omega
  | succ k ih =>
    rw [digitsWithin]
    split
    · simp [spelled]
    · rw [spelled_append_one, ih (by omega)]
      omega

theorem length_digitsWithin {k m n : Nat} (hk : m < k) (hlo : m = 0 ∨ 10 ^ m ≤ n) (hhi : n < 10 ^ (m + 1)) :
    (digitsWithin k n).length = m + 1 := by
  induction m generalizing k n with
  | zero =>
    obtain ⟨k, rfl⟩ := Nat.exists_eq_add_of_lt hk
    rw [digitsWithin, if_pos (by omega)]
    rfl
  | succ m ih =>
    obtain ⟨k, rfl⟩ : ∃ j, k = j + 1 := ⟨k - 1, by omega⟩
    have hpow : 10 ^ m ≤ n / 10 := (Nat.le_div_iff_mul_le (by decide)).2 (by rw [← Nat.pow_succ]; simpa using hlo)
    have hten : 1 ≤ 10 ^ m := Nat.one_le_pow _ _ (by decide)
    have hdiv : n / 10 < 10 ^ (m + 1) := Nat.div_lt_of_lt_mul (by rw [Nat.mul_comm, ← Nat.pow_succ]; exact hhi)
    rw [digitsWithin, if_neg (by omega), List.length_append, ih (by omega) (.inr hpow) hdiv]
    rfl

/-- The number of decimal digits of a number below a million. -/
def decimals (n : Nat) : Nat :=
  if n < 10 then 1 else if n < 100 then 2 else if n < 1000 then 3 else if n < 10000 then 4 else if n < 100000 then 5 else 6

theorem length_majorDigits {n : Nat} (h : n ≤ 999999) : (majorDigits n).length = decimals n := by
  have count : ∀ m, (m = 0 ∨ 10 ^ m ≤ n) → n < 10 ^ (m + 1) → (majorDigits n).length = m + 1 := fun m hlo hhi =>
    length_digitsWithin (by
      rcases hlo with rfl | hlo
      · omega
      · have hself : m < 10 ^ m := Nat.lt_pow_self (by decide)
        omega) hlo hhi
  unfold decimals
  split_ifs with h1 h2 h3 h4 h5
  · exact count 0 (.inl rfl) h1
  · exact count 1 (.inr (not_lt.1 h1)) h2
  · exact count 2 (.inr (not_lt.1 h2)) h3
  · exact count 3 (.inr (not_lt.1 h3)) h4
  · exact count 4 (.inr (not_lt.1 h4)) h5
  · exact count 5 (.inr (not_lt.1 h5)) (by omega)

theorem spelled_majorDigits (n : Nat) : spelled (majorDigits n) = n := spelled_digitsWithin (Nat.lt_succ_self n)

theorem majorDigits_lt (n : Nat) : ∀ g ∈ majorDigits n, g < 10 := digitsWithin_lt _ n

theorem decimals_le (n : Nat) : 1 ≤ decimals n ∧ decimals n ≤ 6 := by
  unfold decimals
  split_ifs <;> decide

theorem decimals_le_four {n : Nat} (h : n < 10000) : decimals n ≤ 4 := by
  unfold decimals
  split_ifs <;> omega

/-! ### Groups of three digits (R72) -/

theorem grouped_short (sep : Nat) {l : List Nat} (h : l.length ≤ 3) : grouped sep l = l := by
  induction l with
  | nil => rfl
  | cons d rest ih =>
    rw [List.length_cons] at h
    rw [grouped, if_neg (by omega), ih (by omega)]

/-- Four to six digits hold one separator, before the last three. -/
theorem grouped_long (sep : Nat) {l : List Nat} (hlo : 3 < l.length) (hhi : l.length ≤ 6) :
    grouped sep l = l.take (l.length - 3) ++ sep :: l.drop (l.length - 3) := by
  induction l with
  | nil => simp at hlo
  | cons d rest ih =>
    rw [List.length_cons] at hlo hhi
    rw [grouped, List.length_cons]
    by_cases h : rest.length = 3
    · rw [if_pos (by omega), grouped_short sep (by omega), h]
      rfl
    · obtain ⟨k, hk⟩ : ∃ k, rest.length = k + 3 := ⟨rest.length - 3, by omega⟩
      rw [if_neg (by omega), ih (by omega) (by omega), hk]
      rfl

/-! ### The parts of a price string (R72, R73) -/

/-- The separator glyph of a grouping. -/
def Grouping.glyph (g : Grouping) : Nat := if g = .comma then glyphComma else glyphPoint

theorem majorString_plain {st : Style} (h : st.grouping = .none) (n : Nat) : majorString st n = majorDigits n := by
  rw [majorString, h]

theorem majorString_grouped {st : Style} (h : st.grouping ≠ .none) (n : Nat) :
    majorString st n = grouped st.grouping.glyph (majorDigits n) := by
  unfold majorString
  cases hg : st.grouping with
  | none => exact absurd hg h
  | comma => rfl
  | point => rfl

theorem majorString_short {st : Style} {n : Nat} (hn : n ≤ 999999) (h : st.grouping = .none ∨ decimals n ≤ 3) :
    majorString st n = majorDigits n := by
  by_cases hg : st.grouping = .none
  · exact majorString_plain hg n
  · rw [majorString_grouped hg, grouped_short _ ((length_majorDigits hn).trans_le (h.resolve_left hg))]

/-- R72: more than three digits are written in two parts, with the separator between them. -/
theorem majorString_long {st : Style} {n : Nat} (hn : n ≤ 999999) (hg : st.grouping ≠ .none) (hd : 3 < decimals n) :
    majorString st n =
      (majorDigits n).take (decimals n - 3) ++ st.grouping.glyph :: (majorDigits n).drop (decimals n - 3) := by
  have hlen := length_majorDigits hn
  rw [majorString_grouped hg, grouped_long _ (hlen ▸ hd) (hlen ▸ (decimals_le n).2), hlen]

/-- The symbol before the digits. -/
def Style.front (st : Style) : List Nat := if st.symbol = .before then [glyphSymbol] else []

/-- The symbol after the digits. -/
def Style.back (st : Style) : List Nat := if st.symbol = .after then [glyphSymbol] else []

/-- R73: whether the minor digits of a price are written. -/
def Style.showsMinor (st : Style) (two : Bool) (q : Nat) : Bool :=
  two && !(decide (st.minor = .trimZero) && decide (q % 100 = 0))

/-- The major part of a price. -/
def majorPart (two : Bool) (q : Nat) : Nat := if two then q / 100 else q

/-- The mark and the minor digits of a price, or nothing. -/
def Style.minorPart (st : Style) (two : Bool) (q : Nat) : List Nat :=
  if st.showsMinor two q then [st.mark.glyph, q % 100 / 10, q % 10] else []

/-- A price string without its symbol. -/
def Style.body (st : Style) (two : Bool) (q : Nat) : List Nat := majorString st (majorPart two q) ++ st.minorPart two q

section
variable (st : Style) (two : Bool) (q : Nat)

theorem priceString_parts : priceString st two q = st.front ++ st.body two q ++ st.back := by
  have hmajor : q / (if two then 100 else 1) = majorPart two q := by cases two <;> simp [majorPart]
  have hminor : minorString st two (q % (if two then 100 else 1)) = st.minorPart two q := by
    cases two
    · rfl
    · have hmod : q % 100 % 10 = q % 10 := Nat.mod_mod_of_dvd q (by decide)
      rw [minorString, Style.minorPart, if_pos rfl, hmod, Bool.not_true, Bool.false_or]
      by_cases h : (decide (st.minor = .trimZero) && decide (q % 100 = 0)) = true
      · rw [if_pos h, if_neg (by simp [Style.showsMinor, h])]
      · rw [if_neg h, if_pos (by simp [Style.showsMinor, h])]
  unfold priceString Style.front Style.back
  dsimp only
  rw [hmajor, hminor]
  cases st.symbol <;> simp [Style.body]

theorem majorString_length {n : Nat} (h : n ≤ 999999) : (majorString st n).length =
    decimals n + (if st.grouping = .none then 0 else (decimals n - 1) / 3) := by
  obtain ⟨-, hsix⟩ := decimals_le n
  have hlen := length_majorDigits h
  by_cases hs : st.grouping = .none ∨ decimals n ≤ 3
  · rw [majorString_short h hs, hlen]
    split_ifs with hg
    · rfl
    · have hshort := hs.resolve_left hg
      omega
  · rw [not_or, not_le] at hs
    rw [majorString_long h hs.1 hs.2, if_neg hs.1, List.length_append, List.length_cons, List.length_take, List.length_drop,
      hlen]
    omega

theorem mark_glyph_bounds (m : DecimalMark) : 10 ≤ m.glyph ∧ m.glyph ≤ 11 := by cases m <;> decide

theorem grouping_glyph_bounds (g : Grouping) : 10 ≤ g.glyph ∧ g.glyph ≤ 11 := by cases g <;> decide

/-- The glyphs of a price string but its symbol are digits, points and commas. -/
theorem mem_body_le : ∀ g ∈ st.body two q, g ≤ 11 := by
  intro g hg
  rcases List.mem_append.1 hg with hg | hg
  · by_cases hn : st.grouping = .none
    · rw [majorString_plain hn] at hg
      exact (majorDigits_lt _ g hg).le.trans (by decide)
    · rw [majorString_grouped hn] at hg
      rcases mem_grouped hg with rfl | hg
      · exact (grouping_glyph_bounds _).2
      · exact (majorDigits_lt _ g hg).le.trans (by decide)
  · unfold Style.minorPart at hg
    split_ifs at hg
    · have hm := mark_glyph_bounds st.mark
      simp only [List.mem_cons, List.not_mem_nil, or_false] at hg
      rcases hg with rfl | rfl | rfl <;> omega
    · simp at hg

theorem mem_front_back : ∀ g ∈ st.front ++ st.back, g = 12 := by
  unfold Style.front Style.back
  cases st.symbol <;> simp [glyphSymbol]

/-- What a filter that drops the symbol leaves of a price string. -/
theorem filter_priceString {p : Nat → Bool} (hp : p 12 = false) :
    (priceString st two q).filter p = (st.body two q).filter p := by
  have hnone : ∀ {l : List Nat}, (∀ g ∈ l, g = 12) → l.filter p = [] := fun h =>
    List.filter_eq_nil_iff.2 fun g hg => by simp [h g hg, hp]
  have hsym := mem_front_back st
  rw [priceString_parts, List.filter_append, List.filter_append,
    hnone fun g hg => hsym g (List.mem_append_left _ hg), hnone fun g hg => hsym g (List.mem_append_right _ hg),
    List.nil_append, List.append_nil]

/-- A price string without its symbol. -/
theorem priceString_body : (priceString st two q).filter (fun g => !decide (g = 12)) = st.body two q := by
  rw [filter_priceString st two q (by decide), List.filter_eq_self]
  intro g hg
  have := mem_body_le st two q g hg
  simp only [Bool.not_eq_true', decide_eq_false_iff_not]
  omega

theorem filter_digits_eq_self {l : List Nat} (h : ∀ g ∈ l, g < 10) : l.filter isDigitGlyph = l :=
  List.filter_eq_self.2 fun g hg => decide_eq_true (Nat.le_of_lt_succ (h g hg))

theorem isDigitGlyph_eq_false {g : Nat} (h : 10 ≤ g) : isDigitGlyph g = false := decide_eq_false (by omega)

theorem majorString_digits {n : Nat} (h : n ≤ 999999) : (majorString st n).filter isDigitGlyph = majorDigits n := by
  have hlt := majorDigits_lt n
  by_cases hs : st.grouping = .none ∨ decimals n ≤ 3
  · rw [majorString_short h hs, filter_digits_eq_self hlt]
  · rw [not_or, not_le] at hs
    have hsep := isDigitGlyph_eq_false (grouping_glyph_bounds st.grouping).1
    have htake := filter_digits_eq_self fun g hg => hlt g (List.mem_of_mem_take (i := decimals n - 3) hg)
    have hdrop := filter_digits_eq_self fun g hg => hlt g (List.mem_of_mem_drop (i := decimals n - 3) hg)
    rw [majorString_long h hs.1 hs.2, List.filter_append, List.filter_cons_of_neg (by simp [hsep]), htake, hdrop,
      List.take_append_drop]

/-- The minor digits of a price, or nothing. -/
def Style.minorDigits (st : Style) (two : Bool) (q : Nat) : List Nat :=
  if st.showsMinor two q then [q % 100 / 10, q % 10] else []

theorem minorPart_digits : (st.minorPart two q).filter isDigitGlyph = st.minorDigits two q := by
  unfold Style.minorPart Style.minorDigits
  split_ifs
  · rw [List.filter_cons_of_neg (by simp [isDigitGlyph_eq_false (mark_glyph_bounds st.mark).1])]
    refine filter_digits_eq_self fun g hg => ?_
    simp only [List.mem_cons, List.not_mem_nil, or_false] at hg
    omega
  · rfl

theorem majorPart_le (h : q ≤ 999999) : majorPart two q ≤ 999999 := by
  unfold majorPart
  split_ifs <;> omega

theorem priceString_digits (h : q ≤ 999999) :
    (priceString st two q).filter isDigitGlyph = majorDigits (majorPart two q) ++ st.minorDigits two q := by
  rw [filter_priceString st two q rfl, Style.body, List.filter_append, majorString_digits st (majorPart_le two q h),
    minorPart_digits]

/-- R72, R73: the digits of a price string spell the price, or its major part where the minor digits are not written. -/
theorem spelled_priceString (h : q ≤ 999999) :
    spelled ((priceString st two q).filter isDigitGlyph) = if st.showsMinor two q then q else majorPart two q := by
  rw [priceString_digits st two q h, Style.minorDigits]
  split_ifs with hm
  · have htwo : two = true := (Bool.and_eq_true_iff.1 hm).1
    rw [List.append_cons, spelled_append_one, spelled_append_one, spelled_majorDigits, majorPart, if_pos htwo]
    omega
  · rw [List.append_nil, spelled_majorDigits]

theorem front_back_length : st.front.length + st.back.length = if st.symbol = .none then 0 else 1 := by
  unfold Style.front Style.back
  cases st.symbol <;> rfl

theorem priceString_length (h : q ≤ 999999) : (priceString st two q).length =
    (if st.symbol = .none then 0 else 1) + decimals (majorPart two q) +
      (if st.grouping = .none then 0 else (decimals (majorPart two q) - 1) / 3) +
      (if st.showsMinor two q then 3 else 0) := by
  have hminor : (st.minorPart two q).length = if st.showsMinor two q then 3 else 0 := by
    unfold Style.minorPart
    split_ifs <;> rfl
  rw [priceString_parts, List.length_append, List.length_append, Style.body, List.length_append,
    majorString_length st (majorPart_le two q h), hminor, ← front_back_length]
  omega

/-- R75: no price string is longer than nine cells. -/
theorem priceString_length_le (h : q ≤ 999999) : (priceString st two q).length ≤ 9 := by
  have hd := decimals_le (majorPart two q)
  have hminor : st.showsMinor two q = true → decimals (majorPart two q) ≤ 4 := fun hm => by
    have htwo : two = true := (Bool.and_eq_true_iff.1 hm).1
    rw [majorPart, if_pos htwo]
    exact decimals_le_four (by omega)
  rw [priceString_length st two q h]
  by_cases hm : st.showsMinor two q = true
  · have hfour := hminor hm
    rw [if_pos hm]
    split_ifs <;> omega
  · rw [if_neg hm]
    split_ifs <;> omega

end

end Sys2Proof.Machine
end

section
/-! PROOF. PriceStringAndTile: where the symbol, the separator and the mark of a price string stand, and the outcomes of a tile. -/

namespace Sys2Proof.Machine

/-! ### The places of the symbol, the separator and the mark (R72, R73) -/

section
variable {st : Style} (two : Bool) (q : Nat)

theorem priceString_head (h : st.symbol = .before) : (priceString st two q).head? = some 12 := by
  rw [priceString_parts, Style.front, if_pos h]
  rfl

theorem priceString_last (h : st.symbol = .after) : (priceString st two q).getLast? = some 12 := by
  rw [priceString_parts, Style.back, if_pos h]
  exact List.getLast?_concat

theorem priceString_no_symbol (h : st.symbol = .none) : 12 ∉ priceString st two q := by
  intro hg
  rw [priceString_parts, Style.front, Style.back, h, if_neg (by simp), if_neg (by simp), List.nil_append,
    List.append_nil] at hg
  exact absurd (mem_body_le st two q 12 hg) (by decide)

theorem priceString_le (st : Style) (two : Bool) (q : Nat) : ∀ g ∈ priceString st two q, g ≤ 12 := by
  intro g hg
  have hsym := mem_front_back st
  rw [priceString_parts, List.append_assoc, List.mem_append, List.mem_append] at hg
  rcases hg with hg | hg | hg
  · exact (hsym g (List.mem_append_left _ hg)).le
  · exact (mem_body_le st two q g hg).trans (by decide)
  · exact (hsym g (List.mem_append_right _ hg)).le

variable {two} {q}

/-- R72: digits without a separator. -/
theorem body_take_plain (hq : q ≤ 999999) (h : st.grouping = .none ∨ decimals (majorPart two q) ≤ 3) :
    (st.body two q).take (decimals (majorPart two q)) =
      (majorDigits (majorPart two q) ++ st.minorDigits two q).take (decimals (majorPart two q)) := by
  have hlen := length_majorDigits (majorPart_le two q hq)
  rw [Style.body, majorString_short (majorPart_le two q hq) h, List.take_left' hlen, List.take_left' hlen]

/-- R72: the separator before the last three of more than three major digits. -/
theorem body_take_grouped (hq : q ≤ 999999) (hg : st.grouping ≠ .none) (hd : 3 < decimals (majorPart two q)) :
    let digits := majorDigits (majorPart two q) ++ st.minorDigits two q
    (st.body two q).take (decimals (majorPart two q) + 1) = digits.take (decimals (majorPart two q) - 3) ++
      st.grouping.glyph :: (digits.drop (decimals (majorPart two q) - 3)).take 3 := by
  have hlen := length_majorDigits (majorPart_le two q hq)
  have hmajor := majorString_long (majorPart_le two q hq) hg hd
  intro digits
  have htake : digits.take (decimals (majorPart two q) - 3) =
      (majorDigits (majorPart two q)).take (decimals (majorPart two q) - 3) := List.take_append_of_le_length (by omega)
  have hdrop : (digits.drop (decimals (majorPart two q) - 3)).take 3 =
      (majorDigits (majorPart two q)).drop (decimals (majorPart two q) - 3) := by
    rw [List.drop_append_of_le_length (by omega), List.take_left' (by rw [List.length_drop]; omega)]
  rw [htake, hdrop, ← hmajor, Style.body, List.take_left']
  rw [hmajor, List.length_append, List.length_cons, List.length_take, List.length_drop, hlen]
  omega

/-- R73: the mark and the minor digits end the string. -/
theorem body_drop_minor (h : st.showsMinor two q = true) :
    (st.body two q).drop (st.body two q).length.pred.pred.pred = [st.mark.glyph, q % 100 / 10, q % 10] := by
  have hminor : st.minorPart two q = [st.mark.glyph, q % 100 / 10, q % 10] := if_pos h
  refine List.drop_left' ?_ |>.trans hminor
  rw [Style.body, hminor, List.length_append]
  rfl

end

/-! ### The outcomes of a tile (R74 to R76) -/

/-- R76: a tile in which nothing is drawn. -/
def Formed.nothing (tile : Box) (why : DashReason) (overflow : Bool) : Formed :=
  { glyphs := [], box := emptyBox tile, reason := why, overflow := overflow }

/-- R75: the origin of a string that fits. -/
def Style.origin (st : Style) (n : Nat) (tile : Box) : Nat × Nat := (st.column n tile, tile.y + (tile.h - st.ch) / 2)

section
variable {st : Style} {tile : Box}

theorem formDashes_nothing (h : st.font = none ∨ ¬ st.fits 3 tile) (why : DashReason) (flag : Bool) :
    formDashes st tile why flag = .nothing tile why flag := by
  unfold formDashes
  rcases h with h | h
  · rw [h]
    rfl
  · rw [placeOrigin_none h]
    cases st.font <;> rfl

theorem formDashes_placed (hf : st.font ≠ none) (h : st.fits 3 tile) (why : DashReason) (flag : Bool) :
    formDashes st tile why flag = 
      { glyphs := [13, 13, 13], box := stringBox st 3 (st.origin 3 tile), reason := why, overflow := flag } := by
  obtain ⟨f, hf⟩ := Option.ne_none_iff_exists'.1 hf
  rw [formDashes, hf, placeOrigin_some h]
  rfl

theorem formDashes_overflow (st : Style) (tile : Box) (why : DashReason) (flag : Bool) :
    formDashes st tile why flag = { formDashes st tile why false with overflow := flag } := by
  unfold formDashes
  split <;> rfl

variable {str : List Nat}

theorem formString_fontless (h : st.font = none) : formString st tile str = .nothing tile .overflow true := by
  rw [formString, h]
  exact formDashes_nothing (.inl h) ..

theorem formString_placed (hf : st.font ≠ none) (h : st.fits str.length tile) : formString st tile str =
    { glyphs := str, box := stringBox st str.length (st.origin str.length tile), reason := .none, overflow := false } := by
  obtain ⟨f, hf⟩ := Option.ne_none_iff_exists'.1 hf
  rw [formString, hf, placeOrigin_some h]
  rfl

theorem formString_dashes (h : ¬ st.fits str.length tile) : formString st tile str = formDashes st tile .overflow true := by
  rw [formString, placeOrigin_none h]
  cases st.font <;> rfl

end

/-- Settles O30: the string by its parts, and the tile by whether the style has a font and what fits. -/
theorem priceStringAndTile : Obligations.PriceStringAndTile := by
  unfold Obligations.PriceStringAndTile
  refine ⟨fun st two q hq => ?_, fun st two tile => ?_⟩
  · intro str digits value major minor d
    have hbody : str.filter (fun g => !decide (g = 12)) = st.body two q := priceString_body st two q
    have hdigits : digits = majorDigits (majorPart two q) ++ st.minorDigits two q := priceString_digits st two q hq
    rw [hbody]
    refine ⟨spelled_priceString st two q hq, ?_, priceString_length st two q hq, priceString_length_le st two q hq,
      priceString_le st two q, priceString_head two q, priceString_last two q, priceString_no_symbol two q, fun h => ?_,
      fun hg hd => ?_, fun hm => ?_⟩
    · rw [hdigits, List.length_append, length_majorDigits (majorPart_le two q hq), Style.minorDigits, apply_ite List.length]
      rfl
    · rw [hdigits]
      exact body_take_plain hq h
    · rw [hdigits]
      exact body_take_grouped hq hg hd
    · exact (body_drop_minor hm).trans (by cases st.mark <;> rfl)
  · refine ⟨fun why => ⟨fun h => ?_, fun hf h => ?_⟩, fun q => ⟨formString_fontless, fun hf h => ?_, fun hf h h3 => ?_,
      fun h h3 => ?_⟩, formTileUpset_none st two tile, fun why changed => rfl, fun q str => ⟨formString_fontless,
      fun hf h => ?_, fun _ h => ?_⟩⟩
    · exact formDashes_nothing h why false
    · exact ⟨_, placeOrigin_some h, formDashes_placed hf h why false⟩
    · exact ⟨_, placeOrigin_some h, formString_placed hf h⟩
    · exact ⟨_, placeOrigin_some h3, (formString_dashes h).trans (formDashes_placed hf h3 .overflow true)⟩
    · exact (formString_dashes h).trans (formDashes_nothing (.inr h3) .overflow true)
    · exact ⟨_, placeOrigin_some h, formString_placed hf h⟩
    · exact (formString_dashes h).trans (formDashes_overflow st tile .overflow true)

end Sys2Proof.Machine
end

section
/-! PROOF. StyleSetWritesPendingCopy: the record that a STYLE_SET describes, its font, and the command. -/

namespace Sys2Proof.Machine

/-! ### The codes of Table 12-6 -/

/-- The code of a grouping (Table 12-6). -/
def Grouping.code : Grouping → Nat
  | .none => 0
  | .comma => 1
  | .point => 2

/-- The code of a decimal mark (Table 12-6). -/
def DecimalMark.code : DecimalMark → Nat
  | .point => 0
  | .comma => 1

theorem groupingOf_eq_some {n : Nat} {g : Grouping} : groupingOf n = some g ↔ n = g.code := by
  unfold groupingOf
  split <;> cases g <;> simp_all [Grouping.code]

theorem markOf_eq_some {n : Nat} {m : DecimalMark} : markOf n = some m ↔ n = m.code := by
  unfold markOf
  split <;> cases m <;> simp_all [DecimalMark.code]

theorem symbolOf_isSome {n : Nat} : (symbolOf n).isSome = true ↔ n ≤ 2 := by
  rcases n with _ | _ | _ | n <;> simp [symbolOf]

theorem markOf_isSome {n : Nat} : (markOf n).isSome = true ↔ n ≤ 1 := by
  rcases n with _ | _ | n <;> simp [markOf]

theorem groupingOf_isSome {n : Nat} : (groupingOf n).isSome = true ↔ n ≤ 2 := by
  rcases n with _ | _ | _ | n <;> simp [groupingOf]

theorem minorOf_isSome {n : Nat} : (minorOf n).isSome = true ↔ n ≤ 1 := by
  rcases n with _ | _ | n <;> simp [minorOf]

theorem alignmentOf_isSome {n : Nat} : (alignmentOf n).isSome = true ↔ n ≤ 2 := by
  rcases n with _ | _ | _ | n <;> simp [alignmentOf]

theorem handleOf_number {n : Nat} (h : n < 256) : ((handleOf n).map fun g => g.val + 1).getD 0 = n := by
  unfold handleOf
  split
  · simp only [Option.map_some, Option.getD_some]
    omega
  · simp only [Option.map_none, Option.getD_none]
    omega

theorem handleOf_eq_some {n : Nat} {h : Handle} : handleOf n = some h ↔ n = h.val + 1 := by
  unfold handleOf
  split
  · rw [Option.some_inj, Fin.ext_iff]
    dsimp only
    omega
  · have := h.isLt
    simp only [reduceCtorEq, false_iff]
    omega

/-! ### The record a form describes (R68, checks 2 and 3) -/

/-- R68, checks 2 and 3: the fields are in range and the separator is not the decimal mark. -/
def StyleForm.legal (f : StyleForm) : Prop :=
  4 ≤ f.cw.toNat ∧ f.cw.toNat ≤ 128 ∧ 8 ≤ f.ch.toNat ∧ f.ch.toNat ≤ 256 ∧ f.symbol.toNat ≤ 2 ∧ f.mark.toNat ≤ 1 ∧
    f.grouping.toNat ≤ 2 ∧ f.minor.toNat ≤ 1 ∧ f.alignment.toNat ≤ 2 ∧ ¬ (f.grouping = 1 ∧ f.mark = 1) ∧
    ¬ (f.grouping = 2 ∧ f.mark = 0)

/-- R68: whether a separator differs from a decimal mark. -/
def Grouping.differs (g : Grouping) (m : DecimalMark) : Bool :=
  match g, m with
  | .comma, .comma => false
  | .point, .point => false
  | _, _ => true

theorem Grouping.differs_iff {g : Grouping} {m : DecimalMark} :
    g.differs m = true ↔ ¬ (g = .comma ∧ m = .comma) ∧ ¬ (g = .point ∧ m = .point) := by
  cases g <;> cases m <;> decide

section
variable {f : StyleForm} {sy : SymbolPosition} {ma : DecimalMark} {gr : Grouping} {mi : MinorDisplay} {al : Alignment}

/-- The record of a form whose codes are these. -/
def StyleForm.record (f : StyleForm) (sy : SymbolPosition) (ma : DecimalMark) (gr : Grouping) (mi : MinorDisplay)
    (al : Alignment) : Style :=
  { font := handleOf f.font.toNat, cw := f.cw.toNat, ch := f.ch.toNat,
    colour := { red := f.red, green := f.green, blue := f.blue }, alpha := f.alpha, symbol := sy, mark := ma,
    grouping := gr, minor := mi, alignment := al }

/-- The five codes of a form name these values. -/
structure StyleForm.Coded (f : StyleForm) (sy : SymbolPosition) (ma : DecimalMark) (gr : Grouping) (mi : MinorDisplay)
    (al : Alignment) : Prop where
  symbol : symbolOf f.symbol.toNat = some sy
  mark : markOf f.mark.toNat = some ma
  grouping : groupingOf f.grouping.toNat = some gr
  minor : minorOf f.minor.toNat = some mi
  alignment : alignmentOf f.alignment.toNat = some al

theorem StyleForm.Coded.style (h : f.Coded sy ma gr mi al) : f.style =
    if decide (4 ≤ f.cw.toNat) && decide (f.cw.toNat ≤ 128) && decide (8 ≤ f.ch.toNat) && decide (f.ch.toNat ≤ 256)
      && gr.differs ma then some (f.record sy ma gr mi al) else none := by
  unfold StyleForm.style
  rw [h.symbol, h.mark, h.grouping, h.minor, h.alignment]
  rfl

theorem StyleForm.Coded.differs_iff (h : f.Coded sy ma gr mi al) :
    gr.differs ma = true ↔ ¬ (f.grouping = 1 ∧ f.mark = 1) ∧ ¬ (f.grouping = 2 ∧ f.mark = 0) := by
  have hgrouping : ∀ g : Grouping, gr = g ↔ f.grouping.toNat = g.code := fun g => by
    rw [← groupingOf_eq_some, h.grouping, Option.some_inj]
  have hmark : ∀ m : DecimalMark, ma = m ↔ f.mark.toNat = m.code := fun m => by
    rw [← markOf_eq_some, h.mark, Option.some_inj]
  rw [Grouping.differs_iff, hgrouping, hgrouping, hmark, hmark, ← BitVec.toNat_inj, ← BitVec.toNat_inj, ← BitVec.toNat_inj,
    ← BitVec.toNat_inj]
  rfl

/-- A form is legal when its codes name values and the record they describe passes its checks. -/
theorem StyleForm.legal_iff : f.legal ↔ ∃ sy ma gr mi al, f.Coded sy ma gr mi al ∧ f.style = some (f.record sy ma gr mi al) := by
  constructor
  · rintro ⟨hcw, hcw', hch, hch', hsymbol, hmark, hgrouping, hminor, halignment, hdiffers⟩
    obtain ⟨sy, hsy⟩ := Option.isSome_iff_exists.1 (symbolOf_isSome.2 hsymbol)
    obtain ⟨ma, hma⟩ := Option.isSome_iff_exists.1 (markOf_isSome.2 hmark)
    obtain ⟨gr, hgr⟩ := Option.isSome_iff_exists.1 (groupingOf_isSome.2 hgrouping)
    obtain ⟨mi, hmi⟩ := Option.isSome_iff_exists.1 (minorOf_isSome.2 hminor)
    obtain ⟨al, hal⟩ := Option.isSome_iff_exists.1 (alignmentOf_isSome.2 halignment)
    have hcoded : f.Coded sy ma gr mi al := ⟨hsy, hma, hgr, hmi, hal⟩
    refine ⟨sy, ma, gr, mi, al, hcoded, ?_⟩
    rw [hcoded.style, if_pos]
    simp [hcw, hcw', hch, hch', hcoded.differs_iff.2 hdiffers]
  · rintro ⟨sy, ma, gr, mi, al, hcoded, hstyle⟩
    have hdiffers := hcoded.differs_iff
    have hsymbol := symbolOf_isSome.1 (Option.isSome_of_eq_some hcoded.symbol)
    have hmark := markOf_isSome.1 (Option.isSome_of_eq_some hcoded.mark)
    have hgrouping := groupingOf_isSome.1 (Option.isSome_of_eq_some hcoded.grouping)
    have hminor := minorOf_isSome.1 (Option.isSome_of_eq_some hcoded.minor)
    have halignment := alignmentOf_isSome.1 (Option.isSome_of_eq_some hcoded.alignment)
    rw [hcoded.style, Option.ite_none_right_eq_some] at hstyle
    simp only [Bool.and_eq_true, decide_eq_true_eq, hdiffers] at hstyle
    obtain ⟨⟨⟨⟨⟨hcw, hcw'⟩, hch⟩, hch'⟩, hd⟩, -⟩ := hstyle
    exact ⟨hcw, hcw', hch, hch', hsymbol, hmark, hgrouping, hminor, halignment, hd⟩

theorem StyleForm.exists_coded {st : Style} (h : f.style = some st) : ∃ sy ma gr mi al, f.Coded sy ma gr mi al := by
  unfold StyleForm.style at h
  split at h
  · rename_i hsy hma hgr hmi hal
    exact ⟨_, _, _, _, _, hsy, hma, hgr, hmi, hal⟩
  · cases h

theorem StyleForm.style_of_not_legal (h : ¬ f.legal) : f.style = none := by
  refine Option.eq_none_iff_forall_ne_some.2 fun st hst => h ?_
  obtain ⟨sy, ma, gr, mi, al, hcoded⟩ := StyleForm.exists_coded hst
  rw [hcoded.style, Option.ite_none_right_eq_some] at hst
  exact StyleForm.legal_iff.2 ⟨sy, ma, gr, mi, al, hcoded, by rw [hcoded.style, if_pos hst.1]⟩

end

/-! ### The font (R68, checks 4 and 5) -/

section
variable {m : AssetMap} {st : Style} {h : Handle}

theorem fontStatus_not_ready (hf : st.font = some h) (hno : ∀ g pages n, m.entry h ≠ .ready g pages n) :
    fontStatus m st = some .notReady := by
  unfold fontStatus
  rw [hf]
  dsimp only
  split
  · rename_i g pages n e
    exact absurd e (hno g pages n)
  all_goals rfl

theorem fontStatus_ready (hf : st.font = some h) {g : Geometry} {pages : List Nat} {n : Nat} (e : m.entry h = .ready g pages n) :
    fontStatus m st = if g.format = .a8 ∧ g.width = 14 * st.cw ∧ g.height = st.ch then none else some .badValue := by
  unfold fontStatus
  rw [hf]
  dsimp only
  rw [e]

theorem fontStatus_none (hf : st.font = none) : fontStatus m st = none := by
  unfold fontStatus
  rw [hf]

end

/-! ### The command (R68, R69) -/

/-- What STYLE_SET writes (Table 12-6). -/
def styleSetRow (go : BitVec 32) (f : StyleForm) : CommandRow := ⟨0x20, go, f.fields⟩

/-- R69: the pending copy written and the font references moved, by the styles of a state with the same string former. -/
theorem State.setPendingStyle_of_former {s t : State} (h : t.former = s.former) (i : Fin 16) (st : Style) :
    t.setPendingStyle i st = { t with
      former := { t.former with styles := t.former.styles.set i { t.former.styles[i] with pending := some st } },
      assets := (t.assets.acquireFont st.font).releaseFont (s.former.styles[i].pending.bind (·.font)) } := by
  rw [State.setPendingStyle, h]

section
variable {s : State} {go : BitVec 32} {f : StyleForm}

/-- STYLE_SET ends as its owner decides (R167). -/
theorem styleSet_completes (hl : s.nva.loading = false) {effect : State → State} {st : ContentStatus} {answer : List Byte}
    (ho : styleSetOwner f (s.taken (styleSetRow go f)) = ⟨effect (s.taken (styleSetRow go f)), st, answer⟩) :
    s.Completes (.styleSet go f) effect st answer := by
  refine ⟨styleSetRow go f, rfl, congrArg Host.Outcome.next ?_⟩
  have hlive : (s.writeRecord ((0, [0x20]) :: f.fields)).nva.loading = false := by rw [State.writeRecord_nva, hl]
  have htaken : (s.writeRecord ((0, [0x20]) :: f.fields)).tagged go = s.taken (styleSetRow go f) := rfl
  rw [takeStyleSet, State.takeCommand_owner (.inl hlive), htaken, ho]
  rfl

theorem styleSetOwner_bad (h : 16 ≤ f.index.toNat ∨ f.style = none) : styleSetOwner f s = refuse s .badValue := by
  unfold styleSetOwner
  split
  · rw [h.resolve_left (by omega)]
  · rfl

section
variable {st : Style} {i : Fin 16} (hi : f.index.toNat = i.val) (hst : f.style = some st)
include hi hst

theorem styleSetOwner_refused {e : ContentStatus} (h : fontStatus s.assets st = some e) : styleSetOwner f s = refuse s e := by
  have hlt : f.index.toNat < 16 := hi ▸ i.isLt
  unfold styleSetOwner
  rw [dif_pos hlt, hst]
  dsimp only
  rw [h]

theorem styleSetOwner_taken (h : fontStatus s.assets st = none) :
    styleSetOwner f s = { state := s.setPendingStyle i st, status := .ok, answer := [] } := by
  have hlt : f.index.toNat < 16 := hi ▸ i.isLt
  obtain rfl : ⟨f.index.toNat, hlt⟩ = i := Fin.ext hi
  unfold styleSetOwner
  rw [dif_pos hlt, hst]
  dsimp only
  rw [h]

end

end

/-- Settles O50: the checks by the record that the form describes and by its font's entry, then the pending copy. -/
theorem styleSetWritesPendingCopy : Obligations.StyleSetWritesPendingCopy := by
  unfold Obligations.StyleSetWritesPendingCopy
  intro s go f hl valid
  have hassets := State.taken_assets s (styleSetRow go f)
  have hformer := State.taken_former s (styleSetRow go f)
  have run := fun effect st => styleSet_completes (go := go) (f := f) hl (effect := effect) (st := st) (answer := [])
  generalize s.taken (styleSetRow go f) = t at *
  refine ⟨fun hbad => run id _ (styleSetOwner_bad (hbad.imp_right StyleForm.style_of_not_legal)), fun i hi hvalid => ?_⟩
  obtain ⟨sy, ma, gr, mi, al, hcoded, hstyle⟩ := StyleForm.legal_iff.1 hvalid
  have hfont : ∀ h : Handle, f.font.toNat = h.val + 1 ↔ (f.record sy ma gr mi al).font = some h := fun h =>
    handleOf_eq_some.symm
  rw [← hassets]
  refine ⟨fun h hh hno => ?_, fun h g pages n hh he hbad => ?_, fun hgood => ?_⟩
  · exact run id _ (styleSetOwner_refused hi hstyle (fontStatus_not_ready ((hfont h).1 hh) hno))
  · exact run id _ (styleSetOwner_refused hi hstyle ((fontStatus_ready ((hfont h).1 hh) he).trans (if_neg hbad)))
  · have hstatus : fontStatus t.assets (f.record sy ma gr mi al) = none := by
      cases hf : (f.record sy ma gr mi al).font with
      | none => exact fontStatus_none hf
      | some h =>
        obtain ⟨g, pages, n, he, hcells⟩ := hgood h ((hfont h).2 hf)
        exact (fontStatus_ready hf he).trans (if_pos hcells)
    refine ⟨f.record sy ma gr mi al, ⟨rfl, rfl, rfl, rfl, handleOf_number f.font.isLt, hcoded.symbol, hcoded.mark,
      hcoded.grouping, hcoded.minor, hcoded.alignment⟩, run _ _ ?_⟩
    rw [styleSetOwner_taken hi hstyle hstatus, State.setPendingStyle_of_former hformer]

end Sys2Proof.Machine
end

section
/-! PROOF. PixelBlendedIntoBuffer: the arithmetic of channels, the pixels of an asset, and the cells of a drawn glyph string. -/

namespace Sys2Proof.Machine

/-! ### Channels (R124 to R126) -/

theorem byte_le (b : Byte) : b.toNat ≤ 255 := Nat.le_of_lt_succ b.isLt

/-- The product of two 8-bit fractions is an 8-bit fraction. -/
theorem scale255_lt {x y : Nat} (hx : x ≤ 255) (hy : y ≤ 255) : scale255 x y < 256 := by
  have hxy : x * y ≤ 255 * 255 := Nat.mul_le_mul hx hy
  unfold scale255
  omega

theorem scale255_full (x : Nat) : scale255 x 255 = x := by
  unfold scale255
  omega

theorem blendChannel_toNat (src dst : Byte) {a : Nat} (ha : a ≤ 255) :
    (blendChannel src dst a).toNat = (src.toNat * a + dst.toNat * (255 - a) + 127) / 255 := by
  have hsrc : src.toNat * a ≤ 255 * a := Nat.mul_le_mul_right _ (byte_le src)
  have hdst : dst.toNat * (255 - a) ≤ 255 * (255 - a) := Nat.mul_le_mul_right _ (byte_le dst)
  rw [blendChannel, byteOf_toNat, Nat.mod_eq_of_lt (by omega)]

theorem blendChannel_full (src dst : Byte) : blendChannel src dst 255 = src := by
  apply BitVec.eq_of_toNat_eq
  rw [blendChannel_toNat src dst (Nat.le_refl 255)]
  omega

theorem blendChannel_zero (src dst : Byte) : blendChannel src dst 0 = dst := by
  apply BitVec.eq_of_toNat_eq
  rw [blendChannel_toNat src dst (Nat.zero_le 255)]
  omega

theorem byteOf_scale255 (x y : Byte) : (byteOf (scale255 x.toNat y.toNat)).toNat = (x.toNat * y.toNat + 127) / 255 := by
  rw [byteOf_toNat, Nat.mod_eq_of_lt (scale255_lt (byte_le x) (byte_le y)), scale255]

theorem dimColour_full (c : Rgb) : dimColour c 255 = c := by
  have full : ∀ b : Byte, byteOf (scale255 b.toNat (255 : Byte).toNat) = b := fun b => by
    rw [show (255 : Byte).toNat = 255 from rfl, scale255_full, byteOf_toNat_self]
  rw [dimColour, full, full, full]

theorem widen5_toNat {e : Nat} (h : e < 32) : (widen5 e).toNat = e * 8 + e / 4 := by
  rw [widen5, byteOf_toNat, Nat.mod_eq_of_lt (by omega)]

theorem widen6_toNat {g : Nat} (h : g < 64) : (widen6 g).toNat = g * 4 + g / 16 := by
  rw [widen6, byteOf_toNat, Nat.mod_eq_of_lt (by omega)]

/-! ### Bytes and pixels of an asset (R81, R124) -/

section
variable (m : AssetMap) {g : Geometry} (pages : List Nat) (c r : Nat)

theorem AssetMap.byte_of_page {q i : Nat} {pages : List Nat} (h : pages[i / 65536]? = some q) :
    m.byte pages i = Memory.read m.memory (q * 65536 + i % 65536) := by
  rw [AssetMap.byte, pageSize, h]

theorem AssetMap.pixel_argb8888 (h : g.format = .argb8888) : m.pixel g pages c r =
    let at0 := r * g.stride + c * 4
    { colour := { blue := m.byte pages at0, green := m.byte pages (at0 + 1), red := m.byte pages (at0 + 2) },
      alpha := m.byte pages (at0 + 3) } := by
  rw [AssetMap.pixel, h]
  rfl

theorem AssetMap.pixel_rgb565 (h : g.format = .rgb565) : m.pixel g pages c r =
    let at0 := r * g.stride + c * 2
    let v := (m.byte pages at0).toNat + 256 * (m.byte pages (at0 + 1)).toNat
    { colour := { red := widen5 (v / 2048), green := widen6 (v / 32 % 64), blue := widen5 (v % 32) }, alpha := 255 } := by
  rw [AssetMap.pixel, h]
  rfl

theorem AssetMap.pixel_a8 (h : g.format = .a8) : (m.pixel g pages c r).alpha = m.byte pages (r * g.stride + c) := by
  rw [AssetMap.pixel, h]
  exact congrArg (fun k => m.byte pages (r * g.stride + k)) (Nat.mul_one c)

theorem photoSource_argb8888 (h : g.format = .argb8888) (l : Layer) (dimmed : Bool) (dim : Byte) :
    (photoSource m g pages l dimmed dim c r).2 = scale255 (m.pixel g pages c r).alpha.toNat l.alpha.toNat := by
  rw [photoSource, h]

theorem photoSource_rgb565 (h : g.format = .rgb565) (l : Layer) (dimmed : Bool) (dim : Byte) :
    (photoSource m g pages l dimmed dim c r).2 = l.alpha.toNat := by
  rw [photoSource, h]

theorem glyphMask_a8 (h : g.format = .a8) (cw glyph : Nat) :
    glyphMask m g pages cw glyph c r = (m.byte pages (r * g.stride + (glyph * cw + c))).toNat := by
  rw [glyphMask, AssetMap.pixel_a8 m pages _ r h]

end

/-! ### Pixels written by a rectangle (R126) -/

section
variable {clip : Clip} {u v : Nat}

theorem FrameBuffer.read_write_same (b : FrameBuffer) (x y : Nat) (c : Rgb) : (b.write x y c).read x y = c := by
  simp [FrameBuffer.read, FrameBuffer.write, Sparse.getD_setD]

theorem FrameBuffer.read_blendAt_same (b : FrameBuffer) {x y : Nat} (hx : x < clip.width) (hy : y < clip.height) (src : Rgb)
    (a : Nat) : (b.blendAt clip x y src a).read x y = blend src (b.read x y) a := by
  rw [FrameBuffer.blendAt, if_pos ⟨hx, hy⟩, FrameBuffer.read_write_same]

/-- A fold one of whose steps changes a pixel, and no other does, changes it once. -/
theorem FrameBuffer.read_foldl_once {ι : Type} {l : List ι} (hl : l.Nodup) {f : FrameBuffer → ι → FrameBuffer} {i : ι}
    (hi : i ∈ l) {change : Rgb → Rgb} (hother : ∀ b, ∀ j ≠ i, (f b j).read u v = b.read u v)
    (hchange : ∀ b, (f b i).read u v = change (b.read u v)) (b : FrameBuffer) :
    (l.foldl f b).read u v = change (b.read u v) := by
  induction l generalizing b with
  | nil => cases hi
  | cons j l ih =>
    rw [List.nodup_cons] at hl
    rw [List.foldl_cons]
    rcases List.mem_cons.1 hi with rfl | hi
    · have hrest : (l.foldl f (f b i)).read u v = (f b i).read u v :=
        List.foldlRecOn l f (motive := fun a => a.read u v = (f b i).read u v) rfl fun a ha k hk =>
          (hother a k fun e => hl.1 (e ▸ hk)).trans ha
      rw [hrest, hchange]
    · rw [ih hl.2 hi, hother b j fun e => hl.1 (e ▸ hi)]

section
variable (hc : clip.width ≤ 4096) (hu : u < 4096)
include hc hu

/-- R101: pixels past the panel edge are left. -/
theorem FrameBuffer.read_blendRect_clipped (hout : clip.width ≤ u ∨ clip.height ≤ v) (x y w h : Nat)
    (src : Nat → Nat → Rgb × Nat) (b : FrameBuffer) : (b.blendRect clip x y w h src).read u v = b.read u v := by
  refine List.foldlRecOn (List.range h) _ (motive := fun a : FrameBuffer => a.read u v = b.read u v) rfl fun a ha r _ => ?_
  refine List.foldlRecOn (List.range w) _ (motive := fun a : FrameBuffer => a.read u v = b.read u v) ha fun a ha c _ => ?_
  rw [FrameBuffer.read_blendAt _ _ _ _ _ _ _ _ hc hu, if_neg (by omega), ha]

/-- R126: a pixel of the rectangle within the panel is blended once. -/
theorem FrameBuffer.read_blendRect_inside {x y w h c r : Nat} (hx : u = x + c) (hy : v = y + r) (hcol : c < w) (hrow : r < h)
    (hin : u < clip.width ∧ v < clip.height) (src : Nat → Nat → Rgb × Nat) (b : FrameBuffer) :
    (b.blendRect clip x y w h src).read u v = blend (src c r).1 (b.read u v) (src c r).2 := by
  refine FrameBuffer.read_foldl_once List.nodup_range (List.mem_range.2 hrow) (change := fun p => blend (src c r).1 p (src c r).2)
    (fun a j hj => ?_) (fun a => ?_) b
  · refine List.foldlRecOn (List.range w) _ (motive := fun t : FrameBuffer => t.read u v = a.read u v) rfl fun t ht k _ => ?_
    rw [FrameBuffer.read_blendAt _ _ _ _ _ _ _ _ hc hu, if_neg (by omega), ht]
  · refine FrameBuffer.read_foldl_once List.nodup_range (List.mem_range.2 hcol)
      (change := fun p => blend (src c r).1 p (src c r).2) (fun a j hj => ?_) (fun a => ?_) a
    · rw [FrameBuffer.read_blendAt _ _ _ _ _ _ _ _ hc hu, if_neg (by omega)]
    · rw [← hx, ← hy, FrameBuffer.read_blendAt_same a hin.1 hin.2]

/-! ### The cells of a glyph string (R71, R77, R78) -/

variable {m : AssetMap} {st : Style} (colour : Rgb) (alpha : Byte)

theorem FrameBuffer.read_drawGlyphs_clipped (hout : clip.width ≤ u ∨ clip.height ≤ v) (gs : List Nat) (x y : Nat)
    (b : FrameBuffer) : (drawGlyphs m st clip colour alpha gs x y b).read u v = b.read u v := by
  induction gs generalizing x b with
  | nil => rfl
  | cons glyph rest ih =>
    rw [drawGlyphs]
    split
    · rfl
    · rw [ih, FrameBuffer.read_blendRect_clipped hc hu hout]

/-- R77, R78: a pixel of cell `k` takes the blend of the cell's glyph; the other cells leave it. -/
theorem FrameBuffer.read_drawGlyphs_cell {g : Geometry} {pages : List Nat}
    (hfont : (st.font.bind fun h => (m.entry h).drawable) = some (g, pages)) {gs : List Nat} {k glyph c r x y : Nat}
    (hk : gs[k]? = some glyph) (hx : u = x + k * st.cw + c) (hy : v = y + r) (hcol : c < st.cw) (hrow : r < st.ch)
    (hin : u < clip.width ∧ v < clip.height) (b : FrameBuffer) :
    (drawGlyphs m st clip colour alpha gs x y b).read u v =
      blend colour (b.read u v) (glyphAlpha st.alpha.toNat (glyphMask m g pages st.cw glyph c r) alpha.toNat) := by
  induction gs generalizing k x b with
  | nil => cases hk
  | cons first rest ih =>
    rw [drawGlyphs, hfont]
    dsimp only
    cases k with
    | zero =>
      cases hk
      rw [Nat.zero_mul, Nat.add_zero] at hx
      rw [FrameBuffer.read_drawGlyphs_outside hc colour alpha hu rest (by omega),
        FrameBuffer.read_blendRect_inside hc hu hx hy hcol hrow hin]
    | succ k =>
      rw [Nat.succ_mul] at hx
      rw [ih hk (by omega), FrameBuffer.read_blendRect_outside hc hu (by omega)]

end

theorem drawGlyphs_fontless {m : AssetMap} {st : Style} (h : st.font = none) (clip : Clip) (colour : Rgb) (alpha : Byte)
    (gs : List Nat) (x y : Nat) (b : FrameBuffer) : drawGlyphs m st clip colour alpha gs x y b = b := by
  cases gs with
  | nil => rfl
  | cons g rest => rw [drawGlyphs, h, Option.bind_none]

end

/-- R95: a READY or RETIRING asset may be drawn. -/
theorem AssetEntry.drawable_of_held {e : AssetEntry} {g : Geometry} {pages : List Nat} {n : Nat}
    (h : e = .ready g pages n ∨ e = .retiring g pages n) : e.drawable = some (g, pages) := by
  rcases h with rfl | rfl <;> rfl

/-- Settles O31: each clause by the lemma on its own function. -/
theorem pixelBlendedIntoBuffer : Obligations.PixelBlendedIntoBuffer := by
  unfold Obligations.PixelBlendedIntoBuffer
  refine ⟨fun src dst a ha => ⟨blendChannel_toNat src dst ha, ?_, ?_⟩, fun b clip x y src a hx hy =>
    b.read_blendAt_same hx hy src a, by decide, fun m pages i q hq => m.byte_of_page hq, fun m g pages c r => ?_,
    fun dimmed dim c => ⟨?_, ?_, ?_⟩, fun m g pages l dimmed dim c r => ⟨rfl, ?_, ?_⟩,
    fun m st clip colour alpha glyphs x0 y0 b hc => ⟨fun hf => drawGlyphs_fontless hf .., ?_⟩⟩
  · rintro rfl
    exact blendChannel_full src dst
  · rintro rfl
    exact blendChannel_zero src dst
  · intro px
    refine ⟨fun h => ?_, fun h => ?_, m.pixel_a8 pages c r⟩
    · rw [show px = _ from m.pixel_argb8888 pages c r h]
      exact ⟨rfl, rfl, rfl, rfl⟩
    · rw [show px = _ from m.pixel_rgb565 pages c r h]
      intro at0 v
      have hv : v < 65536 := by
        have h0 := byte_le (m.byte pages at0)
        have h1 := byte_le (m.byte pages (at0 + 1))
        omega
      exact ⟨widen5_toNat (by omega), widen6_toNat (by omega), widen5_toNat (by omega)⟩
  · rintro rfl
    rfl
  · rintro rfl
    exact ⟨byteOf_scale255 .., byteOf_scale255 .., byteOf_scale255 ..⟩
  · rintro rfl
    cases dimmed
    · rfl
    · exact dimColour_full c
  · exact fun h => photoSource_argb8888 m pages c r h l dimmed dim
  · exact fun h => photoSource_rgb565 m pages c r h l dimmed dim
  · intro h g pages n hf he ha8 x y hx p
    have hfont : (st.font.bind fun h => (m.entry h).drawable) = some (g, pages) := by
      rw [hf, Option.bind_some, AssetEntry.drawable_of_held he]
    refine ⟨fun k glyph hk hx0 hx1 hy0 hy1 hcw hch => ?_, fun hout => ?_⟩
    · have hcell := FrameBuffer.read_drawGlyphs_cell hc hx colour alpha hfont hk
        (x := x0) (y := y0) (c := x - (x0 + k * st.cw)) (r := y - y0) (by omega) (by omega) (by omega) (by omega) ⟨hcw, hch⟩ b
      rw [glyphMask_a8 m pages _ _ ha8] at hcell
      exact hcell
    · by_cases hclip : clip.width ≤ x ∨ clip.height ≤ y
      · exact FrameBuffer.read_drawGlyphs_clipped hc hx colour alpha hclip glyphs x0 y0 b
      · exact FrameBuffer.read_drawGlyphs_outside hc colour alpha hx glyphs (by omega) b

end Sys2Proof.Machine
end

section
/-! SUPPORT. The asset map entry by entry: what its listed entries, its used pages and its windows are to one handle. -/

namespace Sys2Proof.Machine

/-! ### Listed entries -/

section
variable {κ α : Type} [LinearOrder κ] [DecidableEq α] {d : α} {m : List (κ × α)}

/-- In the canonical form an entry is listed exactly when a read finds it and it is not the default. -/
theorem Sparse.mem_iff_getD (h : Sparse.canonical d m = true) {k : κ} {v : α} :
    (k, v) ∈ m ↔ Sparse.getD d m k = v ∧ v ≠ d := by
  obtain ⟨hrising, hlisted⟩ := Bool.and_eq_true_iff.1 h
  constructor
  · intro hv
    exact ⟨by rw [Sparse.getD, Sparse.find_of_mem hrising hv, Option.getD_some], by simpa using List.all_eq_true.1 hlisted _ hv⟩
  · rintro ⟨rfl, hne⟩
    unfold Sparse.getD at hne ⊢
    cases hf : Sparse.find m k with
    | none => exact absurd (by rw [hf, Option.getD_none]) hne
    | some v => exact Sparse.mem_of_find hf

end

/-! ### Used pages (R83) -/

section
variable {m : AssetMap} (hc : Sparse.canonical AssetEntry.empty m.entries = true)
include hc

theorem AssetMap.mem_usedPages {p : Nat} : p ∈ m.usedPages ↔ ∃ h, p ∈ (m.entry h).pageList := by
  rw [AssetMap.usedPages, List.mem_flatMap]
  constructor
  · rintro ⟨⟨h, e⟩, he, hp⟩
    obtain ⟨rfl, -⟩ := (Sparse.mem_iff_getD hc).1 he
    exact ⟨h, hp⟩
  · rintro ⟨h, hp⟩
    refine ⟨(h, m.entry h), (Sparse.mem_iff_getD hc).2 ⟨rfl, fun he => ?_⟩, hp⟩
    rw [he] at hp
    cases hp

/-- No page is used twice when no asset lists one twice and no two assets share one. -/
theorem AssetMap.usedPages_nodup_iff : m.usedPages.Nodup ↔ (∀ h, (m.entry h).pageList.Nodup) ∧
    ∀ h k p, p ∈ (m.entry h).pageList → p ∈ (m.entry k).pageList → h = k := by
  have listed : ∀ {h p}, p ∈ (m.entry h).pageList → (h, m.entry h) ∈ m.entries := fun {h p} hp =>
    (Sparse.mem_iff_getD hc).2 ⟨rfl, fun he => by
      rw [show m.entry h = .empty from he] at hp
      cases hp⟩
  have hrising := (Sparse.rising_iff m.entries).1 (Bool.and_eq_true_iff.1 hc).1
  rw [AssetMap.usedPages, List.nodup_flatMap]
  have : Std.Symm (Function.onFun List.Disjoint fun e : Handle × AssetEntry => e.2.pageList) := ⟨fun _ _ hd => hd.symm⟩
  constructor
  · rintro ⟨hone, hpair⟩
    refine ⟨fun h => ?_, fun h k p hp hk => ?_⟩
    · by_cases he : m.entry h = .empty
      · rw [he]
        exact List.nodup_nil
      · exact hone _ ((Sparse.mem_iff_getD hc).2 ⟨rfl, he⟩)
    · by_contra hne
      exact hpair.forall (listed hp) (listed hk) (fun e => hne (Prod.mk.inj e).1) hp hk
  · rintro ⟨hone, hapart⟩
    refine ⟨fun e he => ?_, hrising.imp_of_mem fun {a b} ha hb hlt p hp hq => ?_⟩
    · obtain ⟨he, -⟩ := (Sparse.mem_iff_getD hc).1 he
      exact he ▸ hone e.1
    · obtain ⟨ha, -⟩ := (Sparse.mem_iff_getD hc).1 ha
      obtain ⟨hb, -⟩ := (Sparse.mem_iff_getD hc).1 hb
      exact hlt.ne (hapart a.1 b.1 p (by rwa [AssetMap.entry, ha]) (by rwa [AssetMap.entry, hb]))

end

theorem AssetMap.canonical_setEntry {m : AssetMap} (hc : Sparse.canonical AssetEntry.empty m.entries = true) (h : Handle)
    (e : AssetEntry) : Sparse.canonical AssetEntry.empty (m.setEntry h e).entries = true := Sparse.canonical_setD hc h e

/-- The pages of an entry that was EMPTY come beside those in use. -/
theorem AssetMap.usedPages_setEntry_length {m : AssetMap} (hc : Sparse.canonical AssetEntry.empty m.entries = true)
    {h : Handle} (he : m.entry h = .empty) {e : AssetEntry} (hne : e ≠ .empty) :
    (m.setEntry h e).usedPages.length = m.usedPages.length + e.pageList.length := by
  have hfree : Sparse.drop m.entries h = m.entries := Sparse.drop_eq_self fun x hx hk => by
    obtain ⟨hv, hx⟩ := (Sparse.mem_iff_getD hc).1 hx
    exact hx (hv.symm.trans (hk ▸ he))
  have hperm := (Sparse.put_perm (Bool.and_eq_true_iff.1 hc).1 h e).flatMap_right (fun x => x.2.pageList)
  rw [hfree] at hperm
  have hentries : (m.setEntry h e).entries = Sparse.put m.entries h e := if_neg hne
  rw [AssetMap.usedPages, hentries, hperm.length_eq, List.flatMap_cons, List.length_append, Nat.add_comm]
  rfl

/-! ### Sound entries and windows (R80 to R84) -/

/-- What makes a map's entries sound, handle by handle. -/
structure AssetMap.EntriesSound (m : AssetMap) : Prop where
  canonical : Sparse.canonical AssetEntry.empty m.entries = true
  sound : ∀ h, (m.entry h).sound = true
  once : ∀ h, (m.entry h).pageList.Nodup
  apart : ∀ h k p, p ∈ (m.entry h).pageList → p ∈ (m.entry k).pageList → h = k
  inPool : ∀ h, ∀ p ∈ (m.entry h).pageList, m.inPool p = true

/-- What makes a map's windows sound (R84). -/
structure AssetMap.WindowsSound (m : AssetMap) : Prop where
  windowLoading : ∀ n : Fin 4, ∀ h, m.windows[n] = some h → (m.entry h).isLoading = true
  loadingWindow : ∀ h, (m.entry h).isLoading = true → ∃ n : Fin 4, m.windows[n] = some h
  oneWindow : ∀ n k : Fin 4, ∀ h, m.windows[n] = some h → m.windows[k] = some h → n = k

theorem assetsSound_iff {m : AssetMap} : AssetsSound m ↔ m.EntriesSound ∧ m.WindowsSound := by
  constructor
  · intro h
    obtain ⟨honce, hapart⟩ := (AssetMap.usedPages_nodup_iff h.entries).1 h.pagesOnce
    refine ⟨⟨h.entries, fun k => ?_, honce, hapart, fun k p hp => h.pagesInPool p ((AssetMap.mem_usedPages h.entries).2 ⟨k, hp⟩)⟩,
      h.windowLoading, h.loadingWindow, h.oneWindow⟩
    by_cases he : m.entry k = .empty
    · rw [he]
      rfl
    · exact h.each (k, m.entry k) ((Sparse.mem_iff_getD h.entries).2 ⟨rfl, he⟩)
  · rintro ⟨he, hw⟩
    refine ⟨he.canonical, fun e hmem => ?_, (AssetMap.usedPages_nodup_iff he.canonical).2 ⟨he.once, he.apart⟩, fun p hp => ?_,
      hw.windowLoading, hw.loadingWindow, hw.oneWindow⟩
    · obtain ⟨hentry, -⟩ := (Sparse.mem_iff_getD he.canonical).1 hmem
      exact hentry ▸ he.sound e.1
    · obtain ⟨k, hk⟩ := (AssetMap.mem_usedPages he.canonical).1 hp
      exact he.inPool k p hk

section
variable {m n : AssetMap}

/-- Sound entries stay so when none gains a page. -/
theorem AssetMap.EntriesSound.shrink (h : m.EntriesSound) (hlarge : n.large = m.large)
    (hc : Sparse.canonical AssetEntry.empty n.entries = true) (hsound : ∀ k, (n.entry k).sound = true)
    (hpages : ∀ k, (n.entry k).pageList.Sublist (m.entry k).pageList) : n.EntriesSound where
  canonical := hc
  sound := hsound
  once k := (h.once k).sublist (hpages k)
  apart j k p hj hk := h.apart j k p ((hpages j).subset hj) ((hpages k).subset hk)
  inPool k p hk := by
    have hp := h.inPool k p ((hpages k).subset hk)
    rwa [AssetMap.inPool, AssetMap.poolSize, hlarge]

theorem AssetMap.WindowsSound.congr (h : m.WindowsSound) (hw : n.windows = m.windows)
    (hl : ∀ k, (n.entry k).isLoading = (m.entry k).isLoading) : n.WindowsSound where
  windowLoading j k hk := (hl k).trans (h.windowLoading j k (hw ▸ hk))
  loadingWindow k hk := hw ▸ h.loadingWindow k ((hl k).symm.trans hk)
  oneWindow := hw ▸ h.oneWindow

/-- A map stays sound when no entry gains a page and the LOADING entries stay the same. -/
theorem AssetsSound.shrink (h : AssetsSound m) (hlarge : n.large = m.large) (hw : n.windows = m.windows)
    (hc : Sparse.canonical AssetEntry.empty n.entries = true) (hsound : ∀ k, (n.entry k).sound = true)
    (hpages : ∀ k, (n.entry k).pageList.Sublist (m.entry k).pageList)
    (hl : ∀ k, (n.entry k).isLoading = (m.entry k).isLoading) : AssetsSound n := by
  obtain ⟨he, hwin⟩ := assetsSound_iff.1 h
  exact assetsSound_iff.2 ⟨he.shrink hlarge hc hsound hpages, hwin.congr hw hl⟩

theorem AssetsSound.entry_sound (h : AssetsSound m) (k : Handle) : (m.entry k).sound = true := (assetsSound_iff.1 h).1.sound k

end

/-! ### Windows bound and unbound (R84) -/

section
variable {m : AssetMap} {g : Handle}

theorem AssetMap.windowOf_eq_some {n : Fin 4} (h : m.windowOf g = some n) : m.windows[n] = some g := by
  simpa using List.find?_some h

theorem AssetMap.windowOf_eq_none (h : m.windowOf g = none) (n : Fin 4) : m.windows[n] ≠ some g := by
  simpa using List.find?_eq_none.1 h n (List.mem_finRange n)

@[simp] theorem AssetMap.unbind_entry (k : Handle) : (m.unbind g).entry k = m.entry k := by
  unfold AssetMap.unbind
  split <;> rfl

@[simp] theorem AssetMap.unbind_entries : (m.unbind g).entries = m.entries := by
  unfold AssetMap.unbind
  split <;> rfl

@[simp] theorem AssetMap.unbind_large : (m.unbind g).large = m.large := by
  unfold AssetMap.unbind
  split <;> rfl

@[simp] theorem AssetMap.unbind_memory : (m.unbind g).memory = m.memory := by
  unfold AssetMap.unbind
  split <;> rfl

/-- Unbinding the window of a handle leaves the windows of all others. -/
theorem AssetMap.WindowsSound.windows_unbind (h : m.WindowsSound) (k : Fin 4) :
    (m.unbind g).windows[k] = if m.windows[k] = some g then none else m.windows[k] := by
  unfold AssetMap.unbind
  split
  · rename_i n hn
    have hbound := AssetMap.windowOf_eq_some hn
    by_cases hk : k = n
    · subst hk
      rw [if_pos hbound]
      exact Vector.getElem_set_self k.isLt
    · rw [if_neg fun e => hk (h.oneWindow k n g e hbound)]
      exact Vector.getElem_set_ne n.isLt k.isLt fun e => hk (Fin.ext e.symm)
  · rename_i hn
    rw [if_neg (AssetMap.windowOf_eq_none hn k)]

/-- Windows stay sound when a handle loses its window and its entry is LOADING no more. -/
theorem AssetMap.WindowsSound.unbindSet (h : m.WindowsSound) {e : AssetEntry} (he : e.isLoading = false) :
    ((m.unbind g).setEntry g e).WindowsSound := by
  have hbound : ∀ (n : Fin 4) k, ((m.unbind g).setEntry g e).windows[n] = some k ↔ m.windows[n] = some k ∧ k ≠ g := by
    intro n k
    refine Eq.to_iff (congrArg (· = some k) (h.windows_unbind n)) |>.trans ?_
    split
    · rename_i hg
      rw [hg]
      simp [eq_comm]
    · rename_i hg
      exact ⟨fun hk => ⟨hk, fun e => hg (e ▸ hk)⟩, fun hk => hk.1⟩
  have hentry : ∀ k, (((m.unbind g).setEntry g e).entry k).isLoading = true ↔ (m.entry k).isLoading = true ∧ k ≠ g := by
    intro k
    rw [AssetMap.entry_setEntry, AssetMap.unbind_entry]
    split
    · rename_i hk
      simp [he, hk]
    · rename_i hk
      simp [hk]
  refine ⟨fun n k hk => ?_, fun k hk => ?_, fun n j k hn hj => ?_⟩
  · obtain ⟨hk, hne⟩ := (hbound n k).1 hk
    exact (hentry k).2 ⟨h.windowLoading n k hk, hne⟩
  · obtain ⟨hk, hne⟩ := (hentry k).1 hk
    obtain ⟨n, hn⟩ := h.loadingWindow k hk
    exact ⟨n, (hbound n k).2 ⟨hn, hne⟩⟩
  · exact h.oneWindow n j k ((hbound n k).1 hn).1 ((hbound j k).1 hj).1

/-- Windows stay sound when an unbound one is bound to a handle whose entry becomes LOADING. -/
theorem AssetMap.WindowsSound.bindSet (h : m.WindowsSound) {n : Fin 4} (hn : m.windows[n] = none)
    (hg : (m.entry g).isLoading = false) {e : AssetEntry} (he : e.isLoading = true) :
    ({ m.setEntry g e with windows := m.windows.set n (some g) } : AssetMap).WindowsSound := by
  have hunbound : ∀ k : Fin 4, m.windows[k] ≠ some g := fun k hk => by simp [h.windowLoading k g hk] at hg
  have hself : (m.windows.set n (some g))[n] = some g := Vector.getElem_set_self n.isLt
  have hother : ∀ k : Fin 4, k ≠ n → (m.windows.set n (some g))[k] = m.windows[k] := fun k hk =>
    Vector.getElem_set_ne n.isLt k.isLt fun e => hk (Fin.ext e.symm)
  have hbound : ∀ (k : Fin 4) j, (m.windows.set n (some g))[k] = some j ↔ (k = n ∧ j = g) ∨ m.windows[k] = some j := by
    intro k j
    by_cases hk : k = n
    · subst hk
      rw [hself, hn]
      simp [eq_comm]
    · rw [hother k hk]
      simp [hk]
  have hentry : ∀ k, ((m.setEntry g e).entry k).isLoading = true ↔ k = g ∨ (m.entry k).isLoading = true := by
    intro k
    rw [AssetMap.entry_setEntry]
    split
    · rename_i hk
      simp [he, hk]
    · rename_i hk
      simp [hk]
  refine ⟨fun k j hj => (hentry j).2 ?_, fun j hj => ?_, fun i k j hi hk => ?_⟩
  · exact ((hbound k j).1 hj).imp (·.2) (h.windowLoading k j)
  · rcases (hentry j).1 hj with rfl | hj
    · exact ⟨n, hself⟩
    · obtain ⟨k, hk⟩ := h.loadingWindow j hj
      exact ⟨k, (hbound k j).2 (.inr hk)⟩
  · rcases (hbound i j).1 hi with ⟨rfl, rfl⟩ | hold
    · exact (((hbound k _).1 hk).resolve_right (hunbound k)).1.symm
    · rcases (hbound k j).1 hk with ⟨rfl, rfl⟩ | hkept
      · exact absurd hold (hunbound i)
      · exact h.oneWindow i k j hold hkept

end

end Sys2Proof.Machine
end

section
/-! SUPPORT. The page pool: the pages an ASSET_OPEN takes are the lowest free ones (R83), and the taken asset leaves the map
sound. -/

namespace Sys2Proof.Machine

/-! ### The lowest free pages -/

/-- The free pages of the pool, lowest first. -/
def AssetMap.freePages (m : AssetMap) : List Nat := (List.range' poolStart m.poolSize).filter (fun x => !m.usedPages.contains x)

theorem lowestPages_eq_take (used : List Nat) (fuel page want : Nat) :
    lowestPages used fuel page want = ((List.range' page fuel).filter (fun x => !used.contains x)).take want := by
  induction fuel generalizing page want with
  | zero => simp [lowestPages]
  | succ fuel ih =>
    cases want with
    | zero => simp [lowestPages]
    | succ want =>
      rw [lowestPages, List.range'_succ, List.filter_cons]
      cases used.contains page <;> simp [ih]

section
variable (m : AssetMap) {n : Nat}

theorem AssetMap.takePages_eq (n : Nat) : m.takePages n = m.freePages.take n := lowestPages_eq_take ..

theorem AssetMap.mem_freePages {x : Nat} : x ∈ m.freePages ↔ m.inPool x = true ∧ x ∉ m.usedPages := by
  simp only [AssetMap.freePages, List.mem_filter, List.mem_range'_1, AssetMap.inPool, Bool.and_eq_true, decide_eq_true_eq,
    Bool.not_eq_true', List.contains_eq_mem, decide_eq_false_iff_not]

theorem AssetMap.freePages_rising : m.freePages.Pairwise (· < ·) := (List.pairwise_lt_range' ..).sublist List.filter_sublist

/-- A pool page is free or used, so the free pages are at least as many as R83 counts. -/
theorem AssetMap.freeCount_le_length : m.freeCount ≤ m.freePages.length := by
  have hused : ((List.range' poolStart m.poolSize).filter (fun x => m.usedPages.contains x)).length ≤ m.usedPages.length :=
    ((List.nodup_range' ..).filter _).subperm (fun x hx => by simpa using (List.mem_filter.1 hx).2) |>.length_le
  have hsplit := (List.range' poolStart m.poolSize).length_eq_length_filter_add (fun x => m.usedPages.contains x)
  rw [List.length_range'] at hsplit
  unfold AssetMap.freeCount AssetMap.freePages
  omega

theorem AssetMap.takePages_mem {x : Nat} (h : x ∈ m.takePages n) : m.inPool x = true ∧ x ∉ m.usedPages := by
  rw [AssetMap.takePages_eq] at h
  exact m.mem_freePages.1 (List.mem_of_mem_take h)

theorem AssetMap.takePages_nodup : (m.takePages n).Nodup := by
  rw [AssetMap.takePages_eq]
  exact (m.freePages_rising.imp (fun h => Nat.ne_of_lt h)).sublist (List.take_sublist ..)

theorem AssetMap.takePages_length (h : n ≤ m.freeCount) : (m.takePages n).length = n := by
  rw [AssetMap.takePages_eq, List.length_take, Nat.min_eq_left (h.trans m.freeCount_le_length)]

/-- R83: a pool page below a page taken is used or taken too. -/
theorem AssetMap.takePages_lowest {x y : Nat} (hx : x ∈ m.takePages n) (hy : m.inPool y = true) (hlt : y < x) :
    y ∈ m.usedPages ∨ y ∈ m.takePages n := by
  rw [AssetMap.takePages_eq] at hx ⊢
  refine Classical.or_iff_not_imp_left.2 fun hused => ?_
  have hrising := m.freePages_rising
  have hfree := m.mem_freePages.2 ⟨hy, hused⟩
  rw [← List.take_append_drop n m.freePages] at hrising hfree
  refine (List.mem_append.1 hfree).resolve_right fun hdrop => ?_
  exact Nat.lt_asymm hlt ((List.pairwise_append.1 hrising).2.2 x hx y hdrop)

end

/-! ### The asset opened (R90) -/

/-- A page of an asset just opened (R86). -/
def LoadPage.fresh (page : Nat) : LoadPage := { page := page, touched := false }

/-- R90: the entry of an asset just opened. -/
def AssetMap.opened (m : AssetMap) (g : Geometry) : AssetEntry := .loading g ((m.takePages g.pageCount).map LoadPage.fresh)

theorem AssetMap.opened_pageList (m : AssetMap) (g : Geometry) : (m.opened g).pageList = m.takePages g.pageCount := by
  simp [AssetMap.opened, AssetEntry.pageList, LoadPage.fresh, Function.comp_def]

theorem AssetMap.opened_ne_empty (m : AssetMap) (g : Geometry) : m.opened g ≠ .empty := by simp [AssetMap.opened]

theorem AssetMap.opened_sound {m : AssetMap} {g : Geometry} (hf : g.fieldsValid = true) (hs : g.size ≤ maxAssetSize)
    (hroom : g.pageCount ≤ m.freeCount) : (m.opened g).sound = true := by
  simp [AssetMap.opened, AssetEntry.sound, hf, hs, m.takePages_length hroom]

/-- R90: the map of an asset just opened in a window. -/
def AssetMap.openIn (m : AssetMap) (h : Handle) (g : Geometry) (n : Fin 4) : AssetMap :=
  { m.setEntry h (m.opened g) with windows := m.windows.set n (some h) }

section
variable {m : AssetMap} {h : Handle} {g : Geometry} {n : Fin 4}

theorem AssetMap.openIn_entry (k : Handle) : (m.openIn h g n).entry k = if k = h then m.opened g else m.entry k :=
  m.entry_setEntry h k (m.opened g)

theorem AssetMap.openIn_freeCount (hs : AssetsSound m) (he : m.entry h = .empty) (hroom : g.pageCount ≤ m.freeCount) :
    (m.openIn h g n).freeCount = m.freeCount - g.pageCount := by
  have hlen : (m.openIn h g n).usedPages.length = m.usedPages.length + g.pageCount := by
    rw [← m.takePages_length hroom, ← AssetMap.opened_pageList]
    exact AssetMap.usedPages_setEntry_length hs.entries he (AssetMap.opened_ne_empty m g)
  rw [AssetMap.freeCount, hlen, ← Nat.sub_sub]
  rfl

/-- R83, R84, R90: an asset opened takes free pages and an unbound window. -/
theorem AssetsSound.openIn (hs : AssetsSound m) (he : m.entry h = .empty) (hn : m.windows[n] = none)
    (hf : g.fieldsValid = true) (hsize : g.size ≤ maxAssetSize) (hroom : g.pageCount ≤ m.freeCount) :
    AssetsSound (m.openIn h g n) := by
  obtain ⟨hent, hwin⟩ := assetsSound_iff.1 hs
  have hfree : ∀ k p, p ∈ m.takePages g.pageCount → p ∉ (m.entry k).pageList := fun k p hp hk =>
    (m.takePages_mem hp).2 ((AssetMap.mem_usedPages hent.canonical).2 ⟨k, hk⟩)
  refine assetsSound_iff.2 ⟨⟨AssetMap.canonical_setEntry hent.canonical h (m.opened g), fun k => ?_, fun k => ?_, fun j k p hj hk => ?_,
    fun k p hk => ?_⟩, hwin.bindSet hn (he ▸ rfl) rfl⟩
  · rw [AssetMap.openIn_entry]
    split
    · exact AssetMap.opened_sound hf hsize hroom
    · exact hent.sound k
  · rw [AssetMap.openIn_entry]
    split
    · exact m.opened_pageList g ▸ m.takePages_nodup
    · exact hent.once k
  · rw [AssetMap.openIn_entry] at hj hk
    rw [apply_ite AssetEntry.pageList, m.opened_pageList] at hj hk
    split at hj <;> rename_i hjh <;> split at hk <;> rename_i hkh
    · rw [hjh, hkh]
    · exact absurd hk (hfree k p hj)
    · exact absurd hj (hfree j p hk)
    · exact hent.apart j k p hj hk
  · rw [AssetMap.openIn_entry] at hk
    split at hk
    · exact (m.takePages_mem (m.opened_pageList g ▸ hk)).1
    · exact hent.inPool k p hk

end

end Sys2Proof.Machine
end

section
/-! SUPPORT. StepKeepsAssetsAndReferences: reference counts under acquisitions and releases, and the names that scenes and
styles give. -/

namespace Sys2Proof.Machine

/-! ### An entry under releases (R94) -/

theorem AssetEntry.afterReleases_refs (e : AssetEntry) (k : Nat) : (e.afterReleases k).refs = e.refs - k := by
  cases e with
  | empty | loading => simp [AssetEntry.afterReleases, AssetEntry.refs]
  | ready => rfl
  | retiring g pages n =>
    simp only [AssetEntry.afterReleases]
    split
    · rfl
    · show 0 = n - k
      omega

theorem AssetEntry.afterReleases_isLoading (e : AssetEntry) (k : Nat) : (e.afterReleases k).isLoading = e.isLoading := by
  cases e with
  | retiring =>
    simp only [AssetEntry.afterReleases]
    split <;> rfl
  | _ => rfl

theorem AssetEntry.afterReleases_pageList (e : AssetEntry) (k : Nat) : (e.afterReleases k).pageList.Sublist e.pageList := by
  cases e with
  | retiring =>
    simp only [AssetEntry.afterReleases]
    split
    · exact .refl _
    · exact List.nil_sublist _
  | _ => exact .refl _

theorem AssetEntry.afterReleases_sound {e : AssetEntry} (h : e.sound = true) (k : Nat) : (e.afterReleases k).sound = true := by
  cases e with
  | retiring g pages n =>
    simp only [AssetEntry.afterReleases]
    split
    · simp only [AssetEntry.sound, Bool.and_eq_true, decide_eq_true_eq] at h ⊢
      exact ⟨h.1, by omega⟩
    · rfl
  | _ => exact h

theorem AssetMap.canonical_release {m : AssetMap} (h : Sparse.canonical AssetEntry.empty m.entries = true) (k : Handle) :
    Sparse.canonical AssetEntry.empty (m.release k).entries = true := by
  unfold AssetMap.release
  split
  · exact AssetMap.canonical_setEntry h _ _
  · split <;> exact AssetMap.canonical_setEntry h _ _
  · exact h
  · exact h

/-- Releases keep the map sound, whatever its counts. -/
theorem AssetsSound.releases {m : AssetMap} (h : AssetsSound m) (l : List Handle) : AssetsSound (l.foldl AssetMap.release m) := by
  have heq := AssetMap.releases_eq l m
  refine h.shrink (by rw [heq]) (by rw [heq]) ?_ (fun k => ?_) (fun k => ?_) (fun k => ?_)
  · exact List.foldlRecOn l AssetMap.release (motive := fun t => Sparse.canonical AssetEntry.empty t.entries = true) h.entries
      fun _ ht k _ => AssetMap.canonical_release ht k
  · rw [AssetMap.entry_releases]
    exact AssetEntry.afterReleases_sound (h.entry_sound k) _
  · rw [AssetMap.entry_releases]
    exact AssetEntry.afterReleases_pageList ..
  · rw [AssetMap.entry_releases]
    exact AssetEntry.afterReleases_isLoading ..

/-! ### A map whose counts are these -/

/-- A sound map in which the reference counts are `c` and asset memory is in its canonical form. -/
structure AssetMap.Counted (m : AssetMap) (c : Handle → Nat) : Prop where
  sound : AssetsSound m
  refs : ∀ h, (m.entry h).refs = c h
  memory : Memory.wf m.memory = true

section
variable {m : AssetMap} {c d : Handle → Nat}

/-- R94: releases take from each count what they release. -/
theorem AssetMap.Counted.releases (h : m.Counted c) {l : List Handle} (hl : ∀ k, c k = l.count k + d k) :
    (l.foldl AssetMap.release m).Counted d where
  sound := h.sound.releases l
  refs k := by rw [AssetMap.entry_releases, AssetEntry.afterReleases_refs, h.refs, hl, Nat.add_sub_cancel_left]
  memory := by
    rw [AssetMap.releases_eq]
    exact h.memory

/-- An entry that changes with no page gained and is LOADING no more and no less keeps the map sound. -/
theorem AssetMap.Counted.setEntry (h : m.Counted c) {g : Handle} {e : AssetEntry} (hsound : e.sound = true)
    (hpages : e.pageList.Sublist (m.entry g).pageList) (hl : e.isLoading = (m.entry g).isLoading)
    (hd : ∀ k, d k = if k = g then e.refs else c k) : (m.setEntry g e).Counted d where
  sound := by
    refine h.sound.shrink rfl rfl (AssetMap.canonical_setEntry h.sound.entries g e) (fun k => ?_) (fun k => ?_) (fun k => ?_)
    all_goals rw [AssetMap.entry_setEntry]
    all_goals split
    · exact hsound
    · exact h.sound.entry_sound k
    · rename_i hk
      exact hk ▸ hpages
    · exact .refl _
    · rename_i hk
      exact hk ▸ hl
    · rfl
  refs k := by
    rw [AssetMap.entry_setEntry, hd, apply_ite AssetEntry.refs, h.refs]
  memory := h.memory

/-- R94: an acquisition of a READY asset counts one more. -/
theorem AssetMap.Counted.acquire (h : m.Counted c) {g : Handle} {geo : Geometry} {pages : List Nat} {n : Nat}
    (he : m.entry g = .ready geo pages n) (hd : ∀ k, d k = [g].count k + c k) : (m.acquire g).Counted d := by
  have hacq : m.acquire g = m.setEntry g (.ready geo pages (n + 1)) := by
    unfold AssetMap.acquire
    rw [he]
  have hs := h.sound.entry_sound g
  have hr := h.refs g
  rw [hacq]
  rw [he] at hs hr
  refine h.setEntry hs (he ▸ .refl _) (he ▸ rfl) fun k => ?_
  rw [hd]
  split
  · rename_i hk
    rw [hk, ← hr, List.count_singleton_self, Nat.add_comm]
    rfl
  · rename_i hk
    rw [List.count_eq_zero_of_not_mem (by simpa using hk), Nat.zero_add]

/-- R91, R92: an asset that leaves LOADING with no page gained and no reference, its window unbound. -/
theorem AssetMap.Counted.unbindSet (h : m.Counted c) {g : Handle} (hg : (m.entry g).isLoading = true) {e : AssetEntry}
    (hsound : e.sound = true) (hpages : e.pageList.Sublist (m.entry g).pageList) (he : e.isLoading = false)
    (hr : e.refs = 0) : ((m.unbind g).setEntry g e).Counted c := by
  have hzero : (m.entry g).refs = 0 := by
    cases hm : m.entry g with
    | loading => rfl
    | _ =>
      rw [hm] at hg
      cases hg
  obtain ⟨hent, hwin⟩ := assetsSound_iff.1 h.sound
  have hcanon : Sparse.canonical AssetEntry.empty (m.unbind g).entries = true := by
    rw [AssetMap.unbind_entries]
    exact hent.canonical
  refine ⟨assetsSound_iff.2 ⟨hent.shrink AssetMap.unbind_large (AssetMap.canonical_setEntry hcanon g e) (fun k => ?_)
    (fun k => ?_), hwin.unbindSet he⟩, fun k => ?_, ?_⟩
  · rw [AssetMap.entry_setEntry, AssetMap.unbind_entry]
    split
    · exact hsound
    · exact hent.sound k
  · rw [AssetMap.entry_setEntry, AssetMap.unbind_entry]
    split
    · rename_i hk
      exact hk ▸ hpages
    · exact .refl _
  · rw [AssetMap.entry_setEntry, AssetMap.unbind_entry, ← h.refs]
    split
    · rename_i hk
      rw [hk, hzero, hr]
    · rfl
  · exact AssetMap.unbind_memory (m := m) ▸ h.memory

/-- The load-fault record is no part of the promise. -/
theorem AssetMap.Counted.withLoadFault (h : m.Counted c) (f : Option LoadFault) :
    ({ m with loadFault := f } : AssetMap).Counted c :=
  ⟨h.sound.shrink rfl rfl h.sound.entries h.sound.entry_sound (fun _ => .refl _) (fun _ => rfl), h.refs, h.memory⟩

theorem AssetMap.Counted.withMemory (h : m.Counted c) {l : List Host.Cell} (hl : Memory.wf l = true) :
    ({ m with memory := l } : AssetMap).Counted c :=
  ⟨h.sound.shrink rfl rfl h.sound.entries h.sound.entry_sound (fun _ => .refl _) (fun _ => rfl), h.refs, hl⟩

end

/-! ### The names that scenes and styles give (R94) -/

/-- How often a list names a handle, when one of its members changes. -/
theorem count_flatMap_set {α : Type} (f : α → List Handle) {l : List α} {i : Nat} {v : α} (hi : l[i]? = some v) (w : α)
    (h : Handle) : ((l.set i w).flatMap f).count h + (f v).count h = (l.flatMap f).count h + (f w).count h := by
  induction l generalizing i with
  | nil => cases hi
  | cons a l ih =>
    cases i with
    | zero =>
      cases hi
      simp only [List.set_cons_zero, List.flatMap_cons, List.count_append]
      omega
    | succ i =>
      simp only [List.set_cons_succ, List.flatMap_cons, List.count_append]
      have := ih hi
      omega

/-- The scenes of a panel written change what the state names by what they name. -/
theorem State.names_setScenes (s : State) (p : Fin 4) (v : PanelScenes) (h : Handle) :
    (s.setScenes p v).names.count h + (s.scenes.panels[p]).names.count h = s.names.count h + v.names.count h := by
  have hget : s.scenes.panels.toList[p.val]? = some s.scenes.panels[p] := by simp
  have hset : (s.setScenes p v).scenes.panels.toList = s.scenes.panels.toList.set p.val v :=
    Vector.toList_set p.isLt
  have hcount := count_flatMap_set PanelScenes.names hget v h
  rw [← hset] at hcount
  simp only [State.names, List.count_append, State.setScenes_former]
  omega

/-- A style written changes what the state names by what it names. -/
theorem State.names_setStyle (s : State) (i : Fin 16) (v : StyleSlot) (h : Handle) :
    ({ s with former := { s.former with styles := s.former.styles.set i v } } : State).names.count h +
      (s.former.styles[i]).names.count h = s.names.count h + v.names.count h := by
  have hget : s.former.styles.toList[i.val]? = some s.former.styles[i] := by simp
  have hset : (s.former.styles.set i v).toList = s.former.styles.toList.set i.val v := Vector.toList_set i.isLt
  have hcount := count_flatMap_set StyleSlot.names hget v h
  rw [← hset] at hcount
  simp only [State.names, List.count_append]
  omega

end Sys2Proof.Machine
end

section
/-! SUPPORT. StepKeepsAssetsAndReferences: the requests, commands and events that leave the asset map, the scenes and the styles
alone. -/

namespace Sys2Proof.Machine

/-! ### Content -/

/-- What the promises on assets speak of: the asset map, and the scenes and styles that name its handles. -/
def State.content (s : State) : AssetMap × SceneUnit × StringFormer := (s.assets, s.scenes, s.former)

theorem State.content_eq_iff {s t : State} : t.content = s.content ↔
    t.assets = s.assets ∧ t.scenes = s.scenes ∧ t.former = s.former := by
  simp [State.content]

theorem ReadsBodies.content {s t : State} (h : ReadsBodies s t) : t.content = s.content := by
  rw [h.eq]
  rfl

theorem Reports.content {s t : State} (h : Reports s t) : t.content = s.content := h.readsBodies.content

theorem Checks.content {s t : State} (h : Checks s t) : t.content = s.content := by
  rw [h.eq]
  rfl

theorem Commits.content {s t : State} (h : Commits s t) : t.content = s.content := by
  rw [h.eq]
  rfl

/-! ### Owners of requests -/

section
variable (s : State)

theorem stageEntry_content (e : StagedEntry) : (stageEntry e s).1.content = s.content := by
  unfold stageEntry
  dsimp only
  repeat' split
  all_goals rfl

theorem itemStageOwner_content (l : List Byte) : (itemStageOwner l s).1.content = s.content := by
  unfold itemStageOwner
  split
  · exact stageEntry_content ..
  · rfl

theorem itemRemoveOwner_content (l : List Byte) : (itemRemoveOwner l s).1.content = s.content := by
  unfold itemRemoveOwner
  split
  · exact stageEntry_content ..
  · rfl

theorem promoStageOwner_content (l : List Byte) : (promoStageOwner l s).1.content = s.content := by
  unfold promoStageOwner
  split
  · split
    · exact stageEntry_content ..
    · rfl
  · rfl

theorem rulesStageOwner_content (l : List Byte) : (rulesStageOwner l s).1.content = s.content := by
  unfold rulesStageOwner
  split
  · exact stageEntry_content ..
  · rfl

theorem commitOwner_content (l : List Byte) : (commitOwner l s).1.content = s.content := by
  unfold commitOwner
  repeat' split
  all_goals rfl

theorem applyOwner_content : (applyOwner s).1.content = s.content := by
  unfold applyOwner
  repeat' split
  all_goals rfl

theorem commitCancelOwner_content : (commitCancelOwner s).1.content = s.content := by
  unfold commitCancelOwner
  repeat' split
  all_goals rfl

theorem availSetOwner_content (l : List Byte) : (availSetOwner l s).1.content = s.content := by
  unfold availSetOwner
  split <;> rfl

theorem scheduleSetOwner_content (l : List Byte) : (scheduleSetOwner l s).1.content = s.content := by
  unfold scheduleSetOwner
  split <;> rfl

theorem daypartForceOwner_content (l : List Byte) : (daypartForceOwner l s).1.content = s.content := by
  unfold daypartForceOwner
  split <;> rfl

theorem timeSetOwner_content (l : List Byte) : (timeSetOwner l s).1.content = s.content := by
  unfold timeSetOwner
  split <;> rfl

theorem itemReadOwner_content (l : List Byte) : (itemReadOwner l s).1.content = s.content := by
  unfold itemReadOwner
  dsimp only
  split
  · rfl
  · split
    · rfl
    · split
      · exact (s.readBody_reads _).content
      · split <;> exact (s.readBody_reads _).content

theorem suspendClearOwner_content (l : List Byte) : (suspendClearOwner l s).1.content = s.content := by
  unfold suspendClearOwner
  dsimp only
  repeat' split
  case h_4 => exact (s.unsuspend_reports _).content
  all_goals rfl

theorem checkTestOwner_content : (checkTestOwner s).1.content = s.content := by
  unfold checkTestOwner
  split <;> rfl

/-- No owner of a request reaches assets, scenes or styles. -/
theorem owner_content {kind : Byte} {l : List Byte} {r : Request} (hr : requestOf kind l = some r) :
    (r.owner s).1.content = s.content := by
  unfold requestOf at hr
  split at hr
  case h_2 => cases hr; exact itemStageOwner_content s l
  case h_3 => cases hr; exact itemRemoveOwner_content s l
  case h_4 => cases hr; exact promoStageOwner_content s l
  case h_5 => cases hr; exact rulesStageOwner_content s l
  case h_7 => cases hr; exact commitOwner_content s l
  case h_8 => cases hr; exact applyOwner_content s
  case h_9 => cases hr; exact commitCancelOwner_content s
  case h_10 => cases hr; exact availSetOwner_content s l
  case h_11 => cases hr; exact scheduleSetOwner_content s l
  case h_12 => cases hr; exact daypartForceOwner_content s l
  case h_13 => cases hr; exact timeSetOwner_content s l
  case h_14 => cases hr; exact itemReadOwner_content s l
  case h_16 => cases hr; exact suspendClearOwner_content s l
  case h_18 => cases hr; exact checkTestOwner_content s
  case h_19 => cases hr
  case h_1 | h_6 | h_15 | h_17 => cases hr; rfl

/-! ### Frames on the POS link -/

theorem State.take_content (a : Addressing) {r : Request} (hr : (r.owner s).1.content = s.content) :
    (s.take a r).content = s.content := by
  unfold State.take
  cases a with
  | addressed =>
    dsimp only
    repeat' split
    case h_1 | h_2 => exact hr
    all_goals rfl
  | broadcast =>
    dsimp only
    split
    · rfl
    · exact hr

theorem State.takeKind_content (a : Addressing) (kind : Byte) (l : List Byte) : (s.takeKind a kind l).content = s.content := by
  unfold State.takeKind
  split
  · rename_i r hr
    exact s.take_content a (owner_content s hr)
  · unfold State.takeUnknown
    repeat' split
    all_goals rfl

theorem State.acceptFrame_content (frame : List Byte) : (s.acceptFrame frame).content = s.content := by
  unfold State.acceptFrame
  split
  · exact s.takeKind_content _ _ _
  · rfl

theorem State.withdrawAnswer_content : s.withdrawAnswer.content = s.content :=
  State.content_eq_iff.2 ⟨s.withdrawAnswer_assets, s.withdrawAnswer_scenes, s.withdrawAnswer_former⟩

theorem State.onFrame_content {f : State → State} (hf : ∀ t, (f t).content = t.content) : (s.onFrame f).content = s.content := by
  unfold State.onFrame
  split
  · rfl
  · exact (hf _).trans s.withdrawAnswer_content

theorem State.receiveByte_content (b : Byte) (fe : Bool) : (s.receiveByte b fe).content = s.content := by
  unfold State.receiveByte
  split
  · rfl
  · split
    · exact s.withdrawAnswer_content
    · rfl
  · split
    · rfl
    · unfold State.assembleByte
      split
      · rfl
      · split
        · exact s.onFrame_content fun t => t.acceptFrame_content _
        · rfl

/-! ### Owners of content commands -/

@[simp] theorem assetQueryOwner_content (h : Nat) : (assetQueryOwner h s).state.content = s.content := by
  unfold assetQueryOwner
  repeat' split
  all_goals rfl

@[simp] theorem panelSetOwner_content (p e r : Byte) : (panelSetOwner p e r s).state.content = s.content := by
  unfold panelSetOwner
  split <;> rfl

@[simp] theorem curveSetOwner_content (f : CurveForm) : (curveSetOwner f s).state.content = s.content := by
  unfold curveSetOwner
  repeat' split
  all_goals rfl

@[simp] theorem thermalSetOwner_content (f : ThermalForm) : (thermalSetOwner f s).state.content = s.content := by
  unfold thermalSetOwner
  dsimp only
  repeat' split
  all_goals rfl

@[simp] theorem backlightRestartOwner_content (p : Byte) : (backlightRestartOwner p s).state.content = s.content := by
  unfold backlightRestartOwner
  repeat' split
  all_goals rfl

@[simp] theorem frameRateSetOwner_content (r : Byte) : (frameRateSetOwner r s).state.content = s.content := by
  unfold frameRateSetOwner
  split <;> rfl

@[simp] theorem itemQueryOwner_content (c : Nat) : (itemQueryOwner c s).state.content = s.content := by
  unfold itemQueryOwner
  dsimp only
  split
  · rfl
  · split
    · rfl
    · split <;> exact (s.readBody_reads _).content

@[simp] theorem checkTestCommand_content : (checkTestCommand s).state.content = s.content := by
  unfold checkTestCommand
  split <;> rfl

/-! ### The frame job -/

theorem State.visibility_content (l : Layer) : (s.visibility l).1.content = s.content := by
  unfold State.visibility
  repeat' split
  case h_2 => exact (s.readBody_reads _).content
  all_goals rfl

theorem State.drawTile_content (p : Fin 4) (k : Nat) (l : Layer) (code : Nat) (style : Fin 16) (dimmed : Bool) (dim : Byte)
    (d : PriceDecision) (glyphs : Option (List Nat)) :
    (s.drawTile p k l code style dimmed dim d glyphs).content = s.content := by
  unfold State.drawTile
  dsimp only
  repeat' split
  all_goals rfl

theorem State.drawPrice_content (p : Fin 4) (k : Nat) (l : Layer) (style : Fin 16) (dimmed : Bool) (dim : Byte)
    (u : ComposeUpset) : (s.drawPrice p k l style dimmed dim u).content = s.content := by
  unfold State.drawPrice
  repeat' split
  case h_2 => exact s.drawTile_content ..
  all_goals rfl

theorem State.drawLayer_content (p : Fin 4) (k : Nat) (l : Layer) (dimmed : Bool) (dim : Byte) (u : ComposeUpset) :
    (s.drawLayer p k l dimmed dim u).content = s.content := by
  unfold State.drawLayer
  split
  · rfl
  · rfl
  · exact s.drawPrice_content ..

theorem State.drawFault_content (p : Fin 4) (k : Nat) (l : Layer) (dimmed : Bool) (dim : Byte) :
    (s.drawFault p k l dimmed dim).content = s.content := by
  unfold State.drawFault
  split
  · exact s.drawTile_content ..
  all_goals rfl

theorem State.composeAt_content (p : Fin 4) (k : Nat) (u : ComposeUpset) : (s.composeAt p k u).content = s.content := by
  unfold State.composeAt
  split
  · rfl
  · rename_i l dim _
    have hv := s.visibility_content l
    unfold State.composeLayer
    split <;> rename_i e <;> rw [e] at hv
    · exact hv
    · exact (State.drawLayer_content ..).trans hv
    · exact (State.drawFault_content ..).trans hv

theorem State.patchAt_content (i : Nat) (r : ShownRecord) : (s.patchAt i r).content = s.content := by
  unfold State.patchAt State.drawPatch
  dsimp only
  repeat' split
  all_goals rfl

/-! ### The array and the sensors -/

theorem State.walkBodies_content : s.walkBodies.content = s.content := (s.readBodies_reads _).content

theorem State.finishCheck_content (c : CommitRecord) : (s.finishCheck c).content = s.content := by
  unfold State.finishCheck State.commitAnswer
  dsimp only
  generalize (s.link.answer.isSome || _) = newer
  cases newer <;> rfl

theorem State.beginWrite_content (k : SlotId) (rest : List SlotId) : (s.beginWrite k rest).content = s.content := by
  unfold State.beginWrite
  split
  · dsimp only
    split
    · exact (State.readBody_reads _ _).content
    all_goals rfl
  · rfl

theorem State.completeWrite_content (w : SlotWrite) (v : NvSlot) : (s.completeWrite w v).content = s.content := by
  unfold State.completeWrite
  dsimp only
  generalize Nva.afterWrite _ w _ = n
  have hu : (if w.verifies v then { s with nva := n } else
      ({ s with nva := n } : State).logFault { slot := w.slot.val, kind := .ded, origin := .write }).content = s.content := by
    split <;> rfl
  split
  · split
    · exact (State.requestRepair_reads _ _).content.trans hu
    all_goals exact hu
  · exact hu

theorem State.restore_content (i : ItemIndex) (code : Nat) (body : ItemBody) : (s.restore i code body).content = s.content := by
  unfold State.restore
  repeat' split
  case isTrue => exact (State.unsuspendRestored_reports _ code).content
  case isFalse => exact (s.markUnrepairable_reports i).content
  all_goals rfl

theorem State.completeRepair_content (i : ItemIndex) (v : NvSlot) : (s.completeRepair i v).content = s.content := by
  unfold State.completeRepair
  dsimp only
  split
  · repeat' split
    all_goals rfl
  · split
    · rename_i c code body _
      have hres : ((s.repairRead i v).restore i code body).content = s.content := State.restore_content _ i code body
      split <;> exact hres
    · exact (State.markUnrepairable_reports _ i).content

theorem State.thermistorRead_content (p : Fin 4) (c : Nat) : (s.thermistorRead p c).content = s.content := by
  have raised : ∀ (t : State) (b : Bool) (f : ContentFlag), (t.raiseIf b f).content = t.content := fun t b f => by
    cases b <;> rfl
  unfold State.thermistorRead
  dsimp only
  rw [raised, raised]
  rfl

theorem State.load_content (slots : List (SlotId × NvSlot)) (journal : Option Journal) :
    (s.loadStart slots journal).loadFold.endLoad.content = s.content := by
  obtain ⟨-, -, hformer, hassets, hscenes, -⟩ := s.load_frame slots journal
  exact State.content_eq_iff.2 ⟨hassets, hscenes, hformer⟩

end

end Sys2Proof.Machine
end

section
/-! SUPPORT. StepKeepsAssetsAndReferences: the promises on assets under scenes, styles, asset commands and aperture writes. -/

namespace Sys2Proof.Machine

/-! ### The promises together -/

/-- The asset map is sound, counts what scenes and styles name, and has its memory in the canonical form. -/
abbrev ContentSound (s : State) : Prop := s.assets.Counted (fun h => s.names.count h)

theorem contentSound_iff {s : State} :
    ContentSound s ↔ AssetsSound s.assets ∧ RefsSound s ∧ Memory.wf s.assets.memory = true :=
  ⟨fun h => ⟨h.sound, h.refs, h.memory⟩, fun ⟨hs, hr, hm⟩ => ⟨hs, hr, hm⟩⟩

section
variable {s : State}

theorem ContentSound.congr {t : State} (h : ContentSound s) (e : t.content = s.content) : ContentSound t := by
  obtain ⟨hassets, hscenes, hformer⟩ := State.content_eq_iff.1 e
  unfold ContentSound State.names
  rw [hassets, hscenes, hformer]
  exact h

theorem ContentSound.withAssets {m : AssetMap} (hm : m.Counted (fun k => s.names.count k)) :
    ContentSound { s with assets := m } := hm

/-! ### Scenes (R102 to R108) -/

/-- The scenes of a panel are written, and the references that they name no more are released. -/
theorem AssetMap.Counted.setScenes {m : AssetMap} {c : Handle → Nat} (hm : m.Counted c) (p : Fin 4) {v : PanelScenes}
    {l : List Handle}
    (hl : ∀ k, c k + (s.scenes.panels[p]).names.count k = l.count k + (s.names.count k + v.names.count k)) :
    ContentSound (({ s with assets := l.foldl AssetMap.release m } : State).setScenes p v) := by
  have hcount : ∀ k, c k = l.count k + (s.setScenes p v).names.count k := fun k => by
    have hnames := s.names_setScenes p v k
    have hk := hl k
    omega
  exact hm.releases hcount

theorem ContentSound.discardBuilding (h : ContentSound s) (p : Fin 4) : ContentSound (s.discardBuilding p) := by
  unfold State.discardBuilding
  dsimp only
  rw [AssetMap.releaseScene_eq]
  refine h.setScenes p fun k => ?_
  simp only [PanelScenes.names, sceneNames, List.count_append, List.count_nil]
  omega

theorem ContentSound.exchangeScene (h : ContentSound s) (p : Fin 4) : ContentSound (s.exchangeScene p) := by
  unfold State.exchangeScene
  dsimp only
  split
  · exact h
  · rename_i sc hsc
    rw [AssetMap.releaseScene_eq]
    refine h.setScenes p fun k => ?_
    simp only [PanelScenes.names, hsc, List.count_append]
    simp only [sceneNames, List.count_nil]
    omega

theorem ContentSound.sceneBeginOwner (h : ContentSound s) (f : SceneForm) : ContentSound (sceneBeginOwner f s).state := by
  unfold Machine.sceneBeginOwner
  split
  · dsimp only
    rw [AssetMap.releaseScene_eq]
    refine h.setScenes _ fun k => ?_
    simp only [PanelScenes.names, List.count_append]
    simp only [sceneNames, List.filterMap_nil, List.count_nil]
    omega
  · exact h

theorem ContentSound.sceneSubmitOwner (h : ContentSound s) (b : Byte) : ContentSound (sceneSubmitOwner b s).state := by
  unfold Machine.sceneSubmitOwner
  dsimp only
  split
  · exact h
  · split
    · exact h
    · rename_i sc hsc
      dsimp only
      rw [AssetMap.releaseScene_eq]
      refine h.setScenes _ fun k => ?_
      simp only [PanelScenes.names, hsc, List.count_append]
      simp only [sceneNames, List.count_nil]
      omega

theorem ContentSound.sceneDiscardOwner (h : ContentSound s) (b : Byte) : ContentSound (sceneDiscardOwner b s).state := by
  unfold Machine.sceneDiscardOwner
  split
  · exact h
  · split
    · exact h
    · exact h.discardBuilding _

/-- A reference is acquired on a handle, where there is one. -/
theorem AssetMap.Counted.acquireFont {m : AssetMap} {c : Handle → Nat} (h : m.Counted c) {f : Option Handle}
    (hf : ∀ g, f = some g → ∃ geo pages n, m.entry g = .ready geo pages n) :
    (m.acquireFont f).Counted (fun k => f.toList.count k + c k) := by
  cases f with
  | none => simpa [AssetMap.acquireFont] using h
  | some g =>
    obtain ⟨geo, pages, n, he⟩ := hf g rfl
    exact h.acquire he fun _ => rfl

theorem AssetMap.releaseFont_eq (m : AssetMap) (f : Option Handle) : m.releaseFont f = f.toList.foldl AssetMap.release m := by
  cases f <;> rfl

/-- R103: the asset of a PHOTO layer that passes is READY. -/
theorem photoStatus_ready {m : AssetMap} {l : Layer} (h : photoStatus m l = none) {g : Handle} (hg : l.asset = some g) :
    ∃ geo pages n, m.entry g = .ready geo pages n := by
  unfold photoStatus at h
  unfold Layer.asset at hg
  split at h
  · rename_i hc
    rw [hc] at hg
    cases hg
  · rename_i hc
    rw [hc] at hg
    cases hg
  · rename_i hc
    rw [hc] at hg
    cases hg
    split at h
    · exact ⟨_, _, _, ‹_›⟩
    all_goals cases h

theorem ContentSound.addLayer (h : ContentSound s) {p : Fin 4} {sc : Scene} (hsc : s.scenes.panels[p].building = some sc)
    {l : Layer} (hl : photoStatus s.assets l = none) : ContentSound (addLayer s p sc l).state := by
  have hacq := h.acquireFont (fun g hg => photoStatus_ready hl hg)
  have hlayers : sceneNames (some (sc.add l)) = sceneNames (some sc) ++ l.asset.toList := by
    cases ha : l.asset <;> simp [sceneNames, Scene.add, ha]
  refine hacq.setScenes (l := []) p fun k => ?_
  simp only [PanelScenes.names, hsc, hlayers, List.count_append, List.count_nil]
  omega

theorem ContentSound.layerAddOwner (h : ContentSound s) (f : LayerForm) : ContentSound (layerAddOwner f s).state := by
  unfold Machine.layerAddOwner
  split
  · split
    · exact h
    · rename_i hsc
      split
      · exact h
      · rename_i hl
        split
        · exact h
        · split
          · exact h
          · exact h.addLayer hsc hl
  · exact h

/-! ### Styles (R69, R70) -/

/-- R68: the font of a style that passes is READY. -/
theorem fontStatus_none_ready {m : AssetMap} {st : Style} (h : fontStatus m st = none) {g : Handle} (hg : st.font = some g) :
    ∃ geo pages n, m.entry g = .ready geo pages n := by
  unfold fontStatus at h
  rw [hg] at h
  dsimp only at h
  split at h
  · exact ⟨_, _, _, ‹_›⟩
  all_goals cases h

/-- A style is written, and the references that it names no more are released. -/
theorem AssetMap.Counted.setStyle {m : AssetMap} {c : Handle → Nat} (hm : m.Counted c) (i : Fin 16) {v : StyleSlot}
    {l : List Handle}
    (hl : ∀ k, c k + (s.former.styles[i]).names.count k = l.count k + (s.names.count k + v.names.count k)) :
    ContentSound { s with former := { s.former with styles := s.former.styles.set i v },
                          assets := l.foldl AssetMap.release m } := by
  have hcount : ∀ k, c k = l.count k +
      ({ s with former := { s.former with styles := s.former.styles.set i v } } : State).names.count k := fun k => by
    have hnames := s.names_setStyle i v k
    have hk := hl k
    omega
  exact hm.releases hcount

theorem ContentSound.setPendingStyle (h : ContentSound s) (i : Fin 16) {st : Style} (hf : fontStatus s.assets st = none) :
    ContentSound (s.setPendingStyle i st) := by
  have hacq := h.acquireFont (fun g hg => fontStatus_none_ready hf hg)
  unfold State.setPendingStyle
  dsimp only
  rw [AssetMap.releaseFont_eq]
  refine hacq.setStyle i fun k => ?_
  simp only [StyleSlot.names, List.count_append, Option.bind_some]
  omega

theorem ContentSound.styleSetOwner (h : ContentSound s) (f : StyleForm) : ContentSound (styleSetOwner f s).state := by
  unfold Machine.styleSetOwner
  split
  · split
    · exact h
    · split
      · exact h
      · exact h.setPendingStyle _ ‹_›
  · exact h

theorem ContentSound.installStyle (h : ContentSound s) (i : Fin 16) : ContentSound (s.installStyle i) := by
  unfold State.installStyle
  dsimp only
  split
  · exact h
  · rename_i st hst
    rw [AssetMap.releaseFont_eq]
    refine h.setStyle i fun k => ?_
    simp only [StyleSlot.names, hst, List.count_append, Option.bind_some, Option.bind_none, Option.toList_none,
      List.count_nil]
    omega

/-! ### Asset commands (R90 to R93) -/

theorem AssetMap.freeWindow_unbound {m : AssetMap} {n : Fin 4} (h : m.freeWindow = some n) : m.windows[n] = none := by
  simpa using List.find?_some h

theorem ContentSound.openAsset (h : ContentSound s) {k : Handle} (he : s.assets.entry k = .empty) {g : Geometry}
    (hf : g.fieldsValid = true) (hsize : g.size ≤ maxAssetSize) {n : Fin 4} (hn : s.assets.windows[n] = none)
    (hroom : g.pageCount ≤ s.assets.freeCount) : ContentSound (openAsset s k g n).state := by
  refine ⟨h.sound.openIn he hn hf hsize hroom, fun j => ?_, h.memory⟩
  have hj := h.refs j
  show ((s.assets.openIn k g n).entry j).refs = s.names.count j
  rw [← hj, AssetMap.openIn_entry]
  split
  · rename_i hjk
    rw [hjk, he]
    rfl
  · rfl

theorem ContentSound.assetOpenOwner (h : ContentSound s) (f : OpenForm) : ContentSound (assetOpenOwner f s).state := by
  unfold Machine.assetOpenOwner
  split
  · exact h
  · split
    · exact h
    · split
      · exact h
      · rename_i hf
        split
        · exact h
        · rename_i hsize
          split
          · exact h
          · rename_i he
            split
            · exact h
            · rename_i hn
              split
              · exact h
              · rename_i hroom
                exact h.openAsset (not_not.1 he) (by simpa using hf) (Nat.le_of_not_lt hsize)
                  (AssetMap.freeWindow_unbound hn) (Nat.le_of_not_lt hroom)

theorem ContentSound.assetCloseOwner (h : ContentSound s) (n : Nat) : ContentSound (assetCloseOwner n s).state := by
  unfold Machine.assetCloseOwner
  split
  · exact h
  · rename_i k _
    split
    · rename_i g pages he
      split
      · exact h
      · have hs := h.sound.entry_sound k
        rw [he] at hs
        refine ContentSound.withAssets (h.unbindSet (he ▸ rfl) ?_ (he ▸ .refl _) rfl rfl)
        simpa [AssetEntry.sound] using hs
    all_goals exact h

theorem ContentSound.assetAbortOwner (h : ContentSound s) (n : Nat) : ContentSound (assetAbortOwner n s).state := by
  unfold Machine.assetAbortOwner
  split
  · exact h
  · split
    · rename_i he
      exact ContentSound.withAssets (h.unbindSet (he ▸ rfl) rfl (List.nil_sublist _) rfl rfl)
    all_goals exact h

theorem AssetEntry.freed_refs (e : AssetEntry) : e.freed.refs = e.refs := by
  cases e with
  | ready g pages n => cases n <;> rfl
  | _ => rfl

theorem AssetEntry.freed_sound {e : AssetEntry} (h : e.sound = true) : e.freed.sound = true := by
  cases e with
  | ready g pages n =>
    cases n with
    | zero => rfl
    | succ n => simpa [AssetEntry.freed, AssetEntry.sound] using h
  | _ => exact h

theorem AssetEntry.freed_pageList (e : AssetEntry) : e.freed.pageList.Sublist e.pageList := by
  cases e with
  | ready g pages n =>
    cases n with
    | zero => exact List.nil_sublist _
    | succ n => exact .refl _
  | _ => exact .refl _

theorem AssetEntry.freed_isLoading (e : AssetEntry) : e.freed.isLoading = e.isLoading := by
  cases e with
  | ready g pages n => cases n <;> rfl
  | _ => rfl

theorem ContentSound.assetFreeOwner (h : ContentSound s) (n : Nat) : ContentSound (assetFreeOwner n s).state := by
  unfold Machine.assetFreeOwner
  split
  · exact h
  · rename_i k _
    split
    · exact h
    · refine ContentSound.withAssets (h.setEntry (AssetEntry.freed_sound (h.sound.entry_sound k)) (AssetEntry.freed_pageList _)
        (AssetEntry.freed_isLoading _) fun j => ?_)
      rw [AssetEntry.freed_refs, h.refs]
      split
      · rename_i hj
        rw [hj]
      · rfl

/-! ### Aperture writes (R85 to R88) -/

theorem AssetMap.boundAsset_entry {m : AssetMap} {n : Fin 4} {h : Handle} {g : Geometry} {pages : List LoadPage}
    (hb : m.boundAsset n = some (h, g, pages)) : m.entry h = .loading g pages := by
  unfold AssetMap.boundAsset at hb
  split at hb
  · cases hb
  · split at hb
    · cases hb
      assumption
    all_goals cases hb

theorem touchPage_pages (memory : List Host.Cell) (pages : List LoadPage) (k : Nat) :
    (touchPage memory pages k).2.map (·.page) = pages.map (·.page) := by
  unfold touchPage
  split
  · rfl
  · rename_i p hp
    split
    · rfl
    · have hpage : (pages.map (·.page))[k]? = some p.page := by rw [List.getElem?_map, hp, Option.map_some]
      obtain ⟨hk, hpk⟩ := List.getElem?_eq_some_iff.1 hpage
      rw [List.map_set]
      exact hpk ▸ List.set_getElem_self hk

/-- R86: stores touch pages and exchange none. -/
theorem storeAsset_pages (memory : List Host.Cell) (pages : List LoadPage) (o : Nat) (data : List Byte) :
    (storeAsset memory pages o data).2.map (·.page) = pages.map (·.page) := by
  induction data generalizing memory pages o with
  | nil => rfl
  | cons b rest ih => exact (ih ..).trans (touchPage_pages ..)

theorem ContentSound.apertureWrite (h : ContentSound s) (o : Nat) (data : List Byte) : ContentSound (s.apertureWrite o data) := by
  unfold State.apertureWrite
  dsimp only
  split
  · refine ContentSound.withAssets (m := s.assets.recordFault _ _ _) ?_
    unfold AssetMap.recordFault
    split <;> exact h.withLoadFault _
  · split
    · exact h
    · rename_i k g pages hb
      have he := AssetMap.boundAsset_entry hb
      have hs := h.sound.entry_sound k
      have hr := h.refs k
      have hpages := storeAsset_pages s.assets.memory pages (o % windowSize) data
      have hlen := congrArg List.length hpages
      rw [List.length_map, List.length_map] at hlen
      rw [he] at hs hr
      refine ContentSound.withAssets (AssetMap.Counted.withMemory (h.setEntry ?_ ?_ ?_ fun j => ?_) (storeAsset_wf h.memory ..))
      · simpa only [AssetEntry.sound, hlen] using hs
      · rw [he, AssetEntry.pageList, hpages]
        exact .refl _
      · rw [he]
        rfl
      · split
        · rename_i hj
          rw [hj]
          exact hr.symm
        · rfl

end

end Sys2Proof.Machine
end

section
/-! PROOF. StepKeepsAssetsAndReferences: the go word, the frame start and the resets, and the theorem over every step. -/

namespace Sys2Proof.Machine

section
variable {s : State}

/-! ### Commands that a go word takes (R167) -/

theorem ContentSound.takeCommand (h : ContentSound s) {owner : State → CommandResult}
    (ho : ∀ t, ContentSound t → ContentSound (owner t).state) (code : Byte) (go : BitVec 32) :
    ContentSound (s.takeCommand code go owner) := by
  unfold State.takeCommand CommandResult.complete
  dsimp only
  split
  · exact h.congr rfl
  · exact (ho (s.tagged go) (h.congr rfl)).congr rfl

theorem ContentSound.runRecord (h : ContentSound s) (go : BitVec 32) : ContentSound (s.runRecord go) := by
  unfold State.runRecord
  dsimp only
  split
  case h_1 => exact h.takeCommand (fun _ ht => ht.assetOpenOwner _) _ _
  case h_2 => exact h.takeCommand (fun _ ht => ht.assetCloseOwner _) _ _
  case h_3 => exact h.takeCommand (fun _ ht => ht.assetAbortOwner _) _ _
  case h_4 => exact h.takeCommand (fun _ ht => ht.assetFreeOwner _) _ _
  case h_6 => exact h.takeCommand (fun _ ht => ht.sceneBeginOwner _) _ _
  case h_7 => exact h.takeCommand (fun _ ht => ht.layerAddOwner _) _ _
  case h_8 => exact h.takeCommand (fun _ ht => ht.sceneSubmitOwner _) _ _
  case h_9 => exact h.takeCommand (fun _ ht => ht.sceneDiscardOwner _) _ _
  case h_10 => exact h.takeCommand (fun _ ht => ht.styleSetOwner _) _ _
  case h_17 | h_19 => exact h.takeCommand (fun _ ht => ht) _ _
  all_goals exact h.takeCommand (fun _ ht => ht.congr (by simp)) _ _

theorem ContentSound.windowWrite (h : ContentSound s) (o : Nat) (l : List Byte) : ContentSound (s.windowWrite o l) := by
  unfold State.windowWrite
  split
  · exact h.apertureWrite o l
  · split
    · unfold State.controlWrite
      split
      · exact h.runRecord _
      · split <;> exact h.congr rfl
    · exact h

theorem ContentSound.windowRead (h : ContentSound s) (o n : Nat) : ContentSound (s.windowRead o n) := by
  unfold State.windowRead
  dsimp only
  split
  · exact h.withLoadFault none
  · exact h

/-! ### Frame start (R70, R108, R121) -/

theorem ContentSound.installStyles (h : ContentSound s) : ContentSound s.installStyles :=
  List.foldlRecOn _ State.installStyle (motive := ContentSound) h fun _ ht i _ => ht.installStyle i

theorem ContentSound.exchangeScenes (h : ContentSound s) : ContentSound s.exchangeScenes :=
  List.foldlRecOn _ State.exchangeScene (motive := ContentSound) h fun _ ht p _ => ht.exchangeScene p

theorem ContentSound.renderBegin (h : ContentSound s) : ContentSound s.renderBegin := by
  have hdata : ContentSound s.applyCommit.applyPendingAvail.fixDaypart := by
    rw [State.fixDaypart_eq]
    exact h.congr s.applyCommit_commits.content
  have hscenes := hdata.installStyles.exchangeScenes
  unfold State.renderBegin
  generalize s.applyCommit.applyPendingAvail.fixDaypart.installStyles.exchangeScenes = u at hscenes ⊢
  refine hscenes.congr ?_
  rw [State.installAllSettings_eq]
  rfl

theorem ContentSound.engineStart (h : ContentSound s) : ContentSound s.engineStart := by
  unfold State.engineStart
  split
  · exact h
  · split
    · exact ContentSound.renderBegin (s := s.exchange) (h.congr rfl)
    all_goals exact h.congr rfl

end

/-! ### The resets (R82, R97, R110) -/

theorem afterReset_contentSound (straps : BitVec 5) (large : Bool) (array : List (SlotId × NvSlot)) (journal : Journal)
    {memory : List Host.Cell} (hm : Memory.wf memory = true) :
    ContentSound (State.afterReset straps large array journal memory) :=
  ⟨afterReset_assets_sound .., fun _ => afterReset_refs_sound .., hm⟩

/-- R97: the link reset empties the LOADING entries and leaves the others. -/
theorem AssetMap.linkReset_entry {m : AssetMap} (hm : Sparse.rising m.entries = true) (k : Handle) :
    m.linkReset.entry k = if (m.entry k).isLoading then .empty else m.entry k := by
  have hkept : Sparse.rising m.linkReset.entries = true := Sparse.rising_filter hm _
  have hread : ∀ {n : AssetMap}, Sparse.rising n.entries = true → ∀ {e}, (k, e) ∈ n.entries → n.entry k = e := fun hn e he => by
    rw [AssetMap.entry, Sparse.getD, Sparse.find_of_mem hn he, Option.getD_some]
  have hmem : ∀ e, (k, e) ∈ m.linkReset.entries ↔ (k, e) ∈ m.entries ∧ e.isLoading = false := fun e => by
    simp [AssetMap.linkReset, List.mem_filter]
  cases hf : Sparse.find m.linkReset.entries k with
  | some e =>
    have he := Sparse.mem_of_find hf
    obtain ⟨hold, hl⟩ := (hmem e).1 he
    rw [hread hkept he, hread hm hold, hl]
    rfl
  | none =>
    have hnone : m.linkReset.entry k = .empty := by rw [AssetMap.entry, Sparse.getD, hf, Option.getD_none]
    rw [hnone]
    split
    · rfl
    · rename_i hl
      cases hg : Sparse.find m.entries k with
      | none => rw [AssetMap.entry, Sparse.getD, hg, Option.getD_none]
      | some e =>
        have hold := Sparse.mem_of_find hg
        rw [hread hm hold] at hl
        exact absurd rfl (Sparse.find_eq_none_iff.1 hf _ ((hmem e).2 ⟨hold, by simpa using hl⟩))

theorem AssetMap.linkReset_windows (m : AssetMap) (n : Fin 4) : m.linkReset.windows[n] = none := by
  simp [AssetMap.linkReset]

theorem AssetEntry.unloaded_isLoading (e : AssetEntry) : (if e.isLoading then .empty else e : AssetEntry).isLoading = false := by
  cases e <;> rfl

theorem AssetEntry.unloaded_refs (e : AssetEntry) : (if e.isLoading then .empty else e : AssetEntry).refs = e.refs := by
  cases e <;> rfl

/-- R97: the link reset leaves a sound map with no asset LOADING. -/
theorem AssetsSound.linkReset {m : AssetMap} (h : AssetsSound m) : AssetsSound m.linkReset := by
  have hentry := AssetMap.linkReset_entry (Bool.and_eq_true_iff.1 h.entries).1
  obtain ⟨hent, -⟩ := assetsSound_iff.1 h
  refine assetsSound_iff.2 ⟨hent.shrink rfl (Sparse.canonical_filter h.entries _) (fun k => ?_) (fun k => ?_),
    fun n k hk => ?_, fun k hk => ?_, fun n j k hn => ?_⟩
  · rw [hentry]
    split
    · rfl
    · exact hent.sound k
  · rw [hentry]
    split
    · exact List.nil_sublist _
    · exact .refl _
  · rw [AssetMap.linkReset_windows] at hk
    cases hk
  · rw [hentry, AssetEntry.unloaded_isLoading] at hk
    cases hk
  · rw [AssetMap.linkReset_windows] at hn
    cases hn

theorem AssetMap.Counted.linkReset {m : AssetMap} {c : Handle → Nat} (h : m.Counted c) : m.linkReset.Counted c where
  sound := h.sound.linkReset
  refs k := by
    rw [AssetMap.linkReset_entry (Bool.and_eq_true_iff.1 h.sound.entries).1, AssetEntry.unloaded_refs, h.refs]
  memory := h.memory

theorem ContentSound.discardAllBuilding {s : State} (h : ContentSound s) : ContentSound s.discardAllBuilding :=
  List.foldlRecOn _ State.discardBuilding (motive := ContentSound) h fun _ ht p _ => ht.discardBuilding p

/-! ### Every step -/

/-- A POS request leaves assets, scenes and styles alone. -/
theorem request_content {s t : State} {c : Instr} {k : Nat} {a : Addressing} {l : List Byte}
    (hr : requestRow k a l = some c) (e : exec c s = .next t) : t.content = s.content := by
  obtain ⟨r, hrow⟩ := requestRow_request hr
  rw [hrow.row] at e
  cases e
  exact s.onFrame_content fun t => t.take_content a (owner_content t hrow.request)

/-- A content command whose owner keeps the promises keeps them. -/
theorem ContentSound.command {s : State} (h : ContentSound s) {owner : State → CommandResult}
    (ho : ∀ t, ContentSound t → ContentSound (owner t).state) (l : List (Nat × List Byte)) (code : Byte) (go : BitVec 32) :
    ContentSound ((s.writeRecord l).takeCommand code go owner) :=
  ContentSound.takeCommand (s := s.writeRecord l) (h.congr rfl) ho code go

/-- Every command keeps the promises on assets. -/
theorem ContentSound.exec {s t : State} (h : ContentSound s) {c : Instr} (e : exec c s = .next t) : ContentSound t := by
  cases c
  case powerOnReset straps large =>
    cases e
    exact (afterReset_contentSound straps large s.arrayAtReset s.nva.journal h.memory).congr rfl
  case pcieLinkReset =>
    cases e
    exact (ContentSound.discardAllBuilding (s := { s with assets := s.assets.linkReset }) h.linkReset).congr rfl
  case frameStart first =>
    cases e
    split
    · exact ContentSound.engineStart (s := s.startPeriod.panelStart) (h.congr rfl)
    · exact (ContentSound.engineStart (s := s.startPeriod) (h.congr rfl)).congr rfl
  case apertureWrite o l => cases e; exact h.apertureWrite _ _
  case summaryWordRead o n => cases e; exact h.windowRead _ _
  case loadFaultRecordRead o n => cases e; exact h.windowRead _ _
  case registerWrite o l => cases e; exact h.windowWrite _ _
  case unknownCommand go code => cases e; exact ContentSound.runRecord (s := s.writeRecord _) (h.congr rfl) go
  case assetOpen => cases e; exact h.command (fun _ ht => ht.assetOpenOwner _) _ _ _
  case assetClose => cases e; exact h.command (fun _ ht => ht.assetCloseOwner _) _ _ _
  case assetAbort => cases e; exact h.command (fun _ ht => ht.assetAbortOwner _) _ _ _
  case assetFree => cases e; exact h.command (fun _ ht => ht.assetFreeOwner _) _ _ _
  case sceneBegin => cases e; exact h.command (fun _ ht => ht.sceneBeginOwner _) _ _ _
  case layerAdd => cases e; exact h.command (fun _ ht => ht.layerAddOwner _) _ _ _
  case sceneSubmit => cases e; exact h.command (fun _ ht => ht.sceneSubmitOwner _) _ _ _
  case sceneDiscard => cases e; exact h.command (fun _ ht => ht.sceneDiscardOwner _) _ _ _
  case styleSet => cases e; exact h.command (fun _ ht => ht.styleSetOwner _) _ _ _
  -- Every other row leaves assets, scenes and styles alone.
  case assetQuery | panelSet | curveSet | thermalSet | backlightRestart | frameRateSet | itemQuery =>
    cases e
    exact h.command (fun _ ht => ht.congr (by simp)) _ _ _
  case statusQuery => cases e; exact h.command (fun _ ht => ht) _ _ _
  case loadCompletion slots journal =>
    rw [Machine.exec, execLoadCompletion_eq] at e
    cases e
    split
    · exact h.congr (s.load_content slots journal)
    · exact h
  case lineByte b fe =>
    cases e
    split
    · exact h
    · exact h.congr (s.receiveByte_content b fe)
  case frameDropped frame => cases e; exact h.congr (s.onFrame_content fun t => t.acceptFrame_content frame)
  case unknownKind a kind l => cases e; exact h.congr (s.onFrame_content fun t => t.takeKind_content a kind l)
  case status a l => exact h.congr (request_content (k := 0x01) (a := a) (l := l) rfl e)
  case itemStage a l => exact h.congr (request_content (k := 0x02) (a := a) (l := l) rfl e)
  case itemRemove a l => exact h.congr (request_content (k := 0x03) (a := a) (l := l) rfl e)
  case promoStage a l => exact h.congr (request_content (k := 0x04) (a := a) (l := l) rfl e)
  case rulesStage a l => exact h.congr (request_content (k := 0x05) (a := a) (l := l) rfl e)
  case stageAbort a l => exact h.congr (request_content (k := 0x06) (a := a) (l := l) rfl e)
  case commit a l => exact h.congr (request_content (k := 0x07) (a := a) (l := l) rfl e)
  case apply a l => exact h.congr (request_content (k := 0x08) (a := a) (l := l) rfl e)
  case commitCancel a l => exact h.congr (request_content (k := 0x09) (a := a) (l := l) rfl e)
  case availSet a l => exact h.congr (request_content (k := 0x0A) (a := a) (l := l) rfl e)
  case scheduleSet a l => exact h.congr (request_content (k := 0x0B) (a := a) (l := l) rfl e)
  case daypartForce a l => exact h.congr (request_content (k := 0x0C) (a := a) (l := l) rfl e)
  case timeSet a l => exact h.congr (request_content (k := 0x0D) (a := a) (l := l) rfl e)
  case itemRead a l => exact h.congr (request_content (k := 0x0E) (a := a) (l := l) rfl e)
  case suspendedList a l => exact h.congr (request_content (k := 0x0F) (a := a) (l := l) rfl e)
  case suspendClear a l => exact h.congr (request_content (k := 0x10) (a := a) (l := l) rfl e)
  case nvaReport a l => exact h.congr (request_content (k := 0x11) (a := a) (l := l) rfl e)
  case checkTest path =>
    cases path with
    | posLink a l => exact h.congr (request_content (k := 0x12) (a := a) (l := l) rfl e)
    | contentPort go =>
      cases e
      exact h.command (fun _ ht => ht.congr (by simp)) _ _ _
  case commitCheckCompletion l =>
    cases e
    split
    · exact h
    · split
      · exact h.congr ((State.finishCheck_content _ _).trans ((State.walkBodies_content _).trans (State.upsets_reads l s).content))
      · exact h
  case composeLayer u =>
    cases e
    split
    · exact h.congr ((State.composeAt_content _ _ _ _).trans (State.upsets_reads u.bodies s).content)
    all_goals exact h
  case checkRecord l stuck =>
    cases e
    split
    · split
      · exact h.congr ((State.checkAt_leaves _ _ _ _ _).checks.content.trans (State.upsets_reads l s).content)
      · exact h
    all_goals exact h
  case patchRecord =>
    cases e
    split
    · split
      · exact h.congr (s.patchAt_content _ _)
      · exact h
    all_goals exact h
  case slotWriteBegin l =>
    cases e
    split
    · exact h.congr ((State.beginWrite_content _ _ _).trans (State.upsets_reads l s).content)
    · exact h
  case slotWriteCompletion found =>
    cases e
    split
    · exact h.congr (s.completeWrite_content _ _)
    all_goals exact h
  case repairReadCompletion found =>
    cases e
    split
    · exact h.congr (s.completeRepair_content _ _)
    all_goals exact h
  case sensorConversionCompletion code =>
    cases e
    split
    · exact h
    · dsimp only
      repeat' split
      · exact h.congr rfl
      · exact h.congr (State.thermistorRead_content _ _ _)
      · exact h.congr rfl
  case idlePeriodExpiry | frameGapExpiry | answerBegin | answerEnd | holdExpiry | repairReadStart | composePanelFill
      | composeStageEnd | checkStageEnd | jobCompletion =>
    cases e
    repeat' split
    all_goals exact h.congr rfl
  case secondTick | messageEnable => cases e; exact h.congr rfl

/-- Settles O57: scenes and styles move references as they move names, asset commands and aperture writes change one entry at
a time, and every other row leaves assets, scenes and styles alone. -/
theorem stepKeepsAssetsAndReferences : Obligations.StepKeepsAssetsAndReferences := by
  unfold Obligations.StepKeepsAssetsAndReferences
  intro s t hs hr hm e
  have h := contentSound_iff.2 ⟨hs, hr, hm⟩
  unfold step at e
  split at e
  · cases e
    exact ⟨hs, hr, hm⟩
  · exact contentSound_iff.1 (ContentSound.exec (s := s.popped) (h.congr rfl) e)

end Sys2Proof.Machine
end

section
/-! PROOF. LinkResetClearsContentSideOnly: the building scenes discarded together, and what the link reset leaves of the part. -/

namespace Sys2Proof.Machine

/-! ### Building scenes discarded (R110) -/

/-- R110: the scenes of a panel once its building scene is gone. -/
def PanelScenes.unbuilt (v : PanelScenes) : PanelScenes := { v with building := none }

section
variable (s : State) (p q : Fin 4)

theorem State.scenes_discardBuilding : (s.discardBuilding p).scenes.panels[q] =
    if q = p then (s.scenes.panels[q]).unbuilt else s.scenes.panels[q] := by
  split
  · rename_i h
    subst h
    exact Vector.getElem_set_self q.isLt
  · rename_i h
    exact Vector.getElem_set_ne p.isLt q.isLt fun hv => h (Fin.ext hv.symm)

theorem State.assets_discardBuilding :
    (s.discardBuilding p).assets = (sceneNames s.scenes.panels[p].building).foldl AssetMap.release s.assets :=
  AssetMap.releaseScene_eq ..

end

theorem State.discardBuildingOf_eq (l : List (Fin 4)) (s : State) : l.foldl State.discardBuilding s =
    { s with scenes := (l.foldl State.discardBuilding s).scenes, assets := (l.foldl State.discardBuilding s).assets } :=
  List.foldlRecOn l State.discardBuilding (motive := fun t => t = { s with scenes := t.scenes, assets := t.assets }) rfl
    fun t ht p _ => by
      have hp : t.discardBuilding p = { t with scenes := (t.discardBuilding p).scenes, assets := (t.discardBuilding p).assets } :=
        rfl
      rw [hp]
      generalize (t.discardBuilding p).scenes = v
      generalize (t.discardBuilding p).assets = a
      rw [ht]

theorem State.scenes_discardBuildingOf (l : List (Fin 4)) (s : State) (q : Fin 4) :
    (l.foldl State.discardBuilding s).scenes.panels[q] =
      if q ∈ l then (s.scenes.panels[q]).unbuilt else s.scenes.panels[q] := by
  have htwice : ∀ v : PanelScenes, v.unbuilt.unbuilt = v.unbuilt := fun _ => rfl
  induction l generalizing s with
  | nil => simp
  | cons p l ih =>
    rw [List.foldl_cons, ih, State.scenes_discardBuilding]
    by_cases hq : q = p <;> simp [hq, htwice]

theorem State.assets_discardBuildingOf {l : List (Fin 4)} (hl : l.Nodup) (s : State) :
    (l.foldl State.discardBuilding s).assets =
      (l.flatMap (fun p => sceneNames s.scenes.panels[p].building)).foldl AssetMap.release s.assets := by
  induction l generalizing s with
  | nil => rfl
  | cons p l ih =>
    obtain ⟨hp, hl⟩ := List.nodup_cons.1 hl
    have hrest : l.flatMap (fun q => sceneNames (s.discardBuilding p).scenes.panels[q].building) =
        l.flatMap (fun q => sceneNames s.scenes.panels[q].building) := by
      refine List.flatMap_congr fun q hq => ?_
      rw [State.scenes_discardBuilding, if_neg fun h : q = p => hp (h ▸ hq)]
    rw [List.foldl_cons, ih hl, hrest, State.assets_discardBuilding, List.flatMap_cons, List.foldl_append]

/-- The handles that the building scenes name. -/
def State.buildingNames (s : State) : List Handle := s.scenes.panels.toList.flatMap (fun v => sceneNames v.building)

theorem State.buildingNames_eq (s : State) :
    s.buildingNames = (List.finRange 4).flatMap (fun p => sceneNames s.scenes.panels[p].building) := by
  have hlist : s.scenes.panels.toList = (List.finRange 4).map (fun p => s.scenes.panels[p]) :=
    List.ext_getElem (by simp) (by simp)
  rw [State.buildingNames, hlist, List.flatMap_map]

/-- R110: what the discarding of every building scene leaves. -/
theorem State.discardAllBuilding_leaves (s : State) :
    s.discardAllBuilding = { s with scenes := s.discardAllBuilding.scenes, assets := s.discardAllBuilding.assets } ∧
    (∀ p : Fin 4, s.discardAllBuilding.scenes.panels[p] = { s.scenes.panels[p] with building := none }) ∧
    s.discardAllBuilding.assets = s.buildingNames.foldl AssetMap.release s.assets := by
  refine ⟨State.discardBuildingOf_eq _ s, fun p => ?_, ?_⟩
  · rw [State.discardAllBuilding, State.scenes_discardBuildingOf, if_pos (List.mem_finRange p)]
    rfl
  · rw [State.buildingNames_eq]
    exact State.assets_discardBuildingOf (List.nodup_finRange 4) s

/-! ### Pages given back (R83) -/

/-- The pages of an asset that is EMPTY now are used by none, where no other asset gained a page. -/
theorem AssetsSound.pages_free {m n : AssetMap} (hm : AssetsSound m) (hn : AssetsSound n)
    (hpages : ∀ k, (n.entry k).pageList.Sublist (m.entry k).pageList) {h : Handle} (he : n.entry h = .empty) {x : Nat}
    (hx : x ∈ (m.entry h).pageList) : x ∉ n.usedPages := by
  intro hused
  obtain ⟨k, hk⟩ := (AssetMap.mem_usedPages hn.entries).1 hused
  obtain rfl := (assetsSound_iff.1 hm).1.apart h k x hx ((hpages k).subset hk)
  rw [he] at hk
  cases hk

/-- Settles O4: the LOADING entries go first, then each building scene releases what it names. -/
theorem linkResetClearsContentSideOnly : Obligations.LinkResetClearsContentSideOnly := by
  unfold Obligations.LinkResetClearsContentSideOnly
  intro s hrising
  obtain ⟨heq, hscenes, hassets⟩ := ({ s with assets := s.assets.linkReset } : State).discardAllBuilding_leaves
  have hnames : ({ s with assets := s.assets.linkReset } : State).buildingNames = s.buildingNames := rfl
  have hreset := AssetMap.linkReset_entry hrising
  rw [hnames] at hassets
  refine ⟨_, rfl, ?_⟩
  generalize ({ s with assets := s.assets.linkReset } : State).discardAllBuilding = u at *
  obtain ⟨v, m, rfl⟩ : ∃ v m, u = { s with scenes := v, assets := m } := ⟨_, _, heq⟩
  dsimp only at hscenes hassets ⊢
  have hentry : ∀ h, m.entry h = (s.assets.linkReset.entry h).afterReleases (s.buildingNames.count h) := fun h => by
    rw [hassets, AssetMap.entry_releases]
  have hmap := AssetMap.releases_eq s.buildingNames s.assets.linkReset
  rw [← hassets] at hmap
  have hempty : ∀ h, s.assets.linkReset.entry h = .empty → m.entry h = .empty := fun h he => by
    rw [hentry, he]
    rfl
  refine ⟨rfl, rfl, rfl, rfl, rfl, rfl, rfl, rfl, rfl, rfl, rfl, rfl, hscenes, by rw [hmap]; rfl, by rw [hmap]; rfl,
    by rw [hmap]; rfl, fun n => ?_, fun h hl => ?_, fun h g pages n he => ?_, fun h g pages n he => ?_, fun h he => ?_,
    fun hs h he x hx => ?_⟩
  · rw [hmap]
    exact s.assets.linkReset_windows n
  · exact hempty h (by rw [hreset, if_pos hl])
  · rw [hentry, hreset, he]
    rfl
  · have hret : m.entry h = (AssetEntry.retiring g pages n).afterReleases (s.buildingNames.count h) := by
      rw [hentry, hreset, he]
      rfl
    exact ⟨fun hk => hret.trans (if_pos hk), fun (hk : s.buildingNames.count h ≠ 0) (hn : n ≤ s.buildingNames.count h) =>
      hret.trans (if_neg (by omega))⟩
  · exact hempty h (by rw [hreset, he]; rfl)
  · have hused : AssetsSound m := hassets ▸ hs.linkReset.releases _
    refine hs.pages_free hused (fun k => ?_) he hx
    rw [hentry, hreset]
    refine (AssetEntry.afterReleases_pageList ..).trans ?_
    split
    · exact List.nil_sublist _
    · exact .refl _

end Sys2Proof.Machine
end

section
/-! PROOF. AssetOpenedOrRefused: how a content command ends as its owner decides, the geometry that an ASSET_OPEN asks for, its
checks, and the asset it opens. -/

namespace Sys2Proof.Machine

/-! ### Commands and their answers -/

/-- A content command ends as its owner decides (R167). -/
theorem command_completes {s : State} {i : Instr} {r : CommandRow} {owner : State → CommandResult}
    (hrow : commandRow i = some r)
    (hexec : exec i s = .next ((s.writeRecord ((0, [r.code]) :: r.fields)).takeCommand r.code r.go owner))
    (hl : s.nva.loading = false) {effect : State → State} {st : ContentStatus} {answer : List Byte}
    (ho : owner (s.taken r) = ⟨effect (s.taken r), st, answer⟩) : s.Completes i effect st answer := by
  refine ⟨r, hrow, hexec.trans (congrArg Host.Outcome.next ?_)⟩
  have hlive : (s.writeRecord ((0, [r.code]) :: r.fields)).nva.loading = false := by rw [State.writeRecord_nva, hl]
  have htaken : (s.writeRecord ((0, [r.code]) :: r.fields)).tagged r.go = s.taken r := rfl
  rw [State.takeCommand_owner (.inl hlive), htaken, ho]

/-! ### The geometry of a form (R81, R90) -/

theorem formatOf_eq_some {n : Nat} {p : PixelFormat} : formatOf n = some p ↔ n = p.code.toNat := by
  unfold formatOf
  split <;> cases p <;> simp_all [PixelFormat.code]

theorem formatOf_isSome {n : Nat} : (formatOf n).isSome = true ↔ 1 ≤ n ∧ n ≤ 3 := by
  rcases n with _ | _ | _ | _ | n <;> simp [formatOf]

/-- R81: the fields of an ASSET_OPEN hold listed values. -/
def OpenForm.legal (f : OpenForm) : Prop :=
  1 ≤ f.format.toNat ∧ f.format.toNat ≤ 3 ∧ 1 ≤ f.width.toNat ∧ f.width.toNat ≤ 4096 ∧ 1 ≤ f.height.toNat ∧
    f.height.toNat ≤ 4096 ∧ f.stride.toNat % 8 = 0 ∧ f.stride.toNat ≤ 16384 ∧
    f.width.toNat * (if f.format.toNat = 1 then 4 else if f.format.toNat = 2 then 2 else 1) ≤ f.stride.toNat

/-- The geometry of a form, in the format that its code names. -/
def OpenForm.geometryIn (f : OpenForm) (p : PixelFormat) : Geometry :=
  { format := p, width := f.width.toNat, height := f.height.toNat, stride := f.stride.toNat }

section
variable {f : OpenForm} {p : PixelFormat}

theorem OpenForm.geometry_of_format (h : formatOf f.format.toNat = some p) : f.geometry = some (f.geometryIn p) := by
  rw [OpenForm.geometry, h]
  rfl

theorem OpenForm.code_of_format (h : formatOf f.format.toNat = some p) : p.code = f.format :=
  BitVec.eq_of_toNat_eq (formatOf_eq_some.1 h).symm

theorem OpenForm.fieldsValid_iff (h : formatOf f.format.toNat = some p) : (f.geometryIn p).fieldsValid = true ↔ f.legal := by
  have hbytes : p.bytes = if f.format.toNat = 1 then 4 else if f.format.toNat = 2 then 2 else 1 := by
    rw [formatOf_eq_some.1 h]
    cases p <;> rfl
  have hrange : 1 ≤ f.format.toNat ∧ f.format.toNat ≤ 3 := formatOf_isSome.1 (by rw [h]; rfl)
  have hformat : (f.geometryIn p).format = p := rfl
  simp only [Geometry.fieldsValid, Bool.and_eq_true, decide_eq_true_eq]
  rw [OpenForm.legal, hformat, hbytes]
  exact ⟨fun ⟨⟨⟨⟨⟨⟨hw, hw'⟩, hh⟩, hh'⟩, hstep⟩, hrow⟩, hstride⟩ =>
      ⟨hrange.1, hrange.2, hw, hw', hh, hh', hstep, hstride, hrow⟩,
    fun ⟨_, _, hw, hw', hh, hh', hstep, hstride, hrow⟩ => ⟨⟨⟨⟨⟨⟨hw, hw'⟩, hh⟩, hh'⟩, hstep⟩, hrow⟩, hstride⟩⟩

theorem OpenForm.exists_format (h : f.legal) : ∃ p, formatOf f.format.toNat = some p :=
  Option.isSome_iff_exists.1 (formatOf_isSome.2 ⟨h.1, h.2.1⟩)

end

/-! ### The checks in order (R90) -/

theorem AssetMap.freeWindow_eq_none {m : AssetMap} (h : ∀ n : Fin 4, m.windows[n] ≠ none) : m.freeWindow = none :=
  List.find?_eq_none.2 fun n _ => by simpa [Option.isNone_iff_eq_none] using h n

theorem AssetMap.freeWindow_eq_some {m : AssetMap} {n : Fin 4} (hn : m.windows[n] = none)
    (hlow : ∀ k : Fin 4, k.val < n.val → m.windows[k] ≠ none) : m.freeWindow = some n := by
  refine List.find?_eq_some_iff_getElem.2 ⟨by simp [hn], n.val, by simp, by simp, fun k hk => ?_⟩
  have := hlow ⟨k, hk.trans n.isLt⟩ hk
  simpa [Option.isSome_iff_ne_none] using this

theorem handleOf_eq_none {n : Nat} (h : n = 0 ∨ 256 ≤ n) : handleOf n = none :=
  dif_neg (by omega)

section
variable {f : OpenForm} {s : State}

theorem assetOpenOwner_badHandle (h : f.handle.toNat = 0 ∨ 256 ≤ f.handle.toNat) : assetOpenOwner f s = refuse s .badValue := by
  rw [assetOpenOwner, handleOf_eq_none h]

section
variable {h : Handle} (hh : f.handle.toNat = h.val + 1)
include hh

theorem assetOpenOwner_badFields (hf : ¬ f.legal) : assetOpenOwner f s = refuse s .badValue := by
  rw [assetOpenOwner, handleOf_eq_some.2 hh]
  cases hp : formatOf f.format.toNat with
  | none => simp only [OpenForm.geometry, hp]
  | some p =>
    have hinvalid : (f.geometryIn p).fieldsValid = false := by
      rw [Bool.eq_false_iff, ne_eq, OpenForm.fieldsValid_iff hp]
      exact hf
    simp only [OpenForm.geometry_of_format hp, hinvalid, Bool.not_false, if_true]

section
variable {p : PixelFormat} (hp : formatOf f.format.toNat = some p) (hf : f.legal)
include hp hf

/-- R90: the checks that follow those on the fields. -/
theorem assetOpenOwner_legal : assetOpenOwner f s =
    if maxAssetSize < (f.geometryIn p).size then refuse s .tooLarge
    else if s.assets.entry h ≠ .empty then refuse s .handleInUse
    else s.assets.freeWindow.elim (refuse s .noWindow) fun n =>
      if s.assets.freeCount < (f.geometryIn p).pageCount then refuse s .noSpace else openAsset s h (f.geometryIn p) n := by
  rw [assetOpenOwner, handleOf_eq_some.2 hh]
  simp only [OpenForm.geometry_of_format hp, (OpenForm.fieldsValid_iff hp).2 hf, Bool.not_true, Bool.false_eq_true, if_false]
  cases s.assets.freeWindow <;> rfl

theorem assetOpenOwner_tooLarge (hsize : maxAssetSize < (f.geometryIn p).size) : assetOpenOwner f s = refuse s .tooLarge := by
  rw [assetOpenOwner_legal hh hp hf, if_pos hsize]

section
variable (hsize : (f.geometryIn p).size ≤ maxAssetSize)
include hsize

theorem assetOpenOwner_inUse (he : s.assets.entry h ≠ .empty) : assetOpenOwner f s = refuse s .handleInUse := by
  rw [assetOpenOwner_legal hh hp hf, if_neg (Nat.not_lt.2 hsize), if_pos he]

theorem assetOpenOwner_windowless (he : s.assets.entry h = .empty) (hw : s.assets.freeWindow = none) :
    assetOpenOwner f s = refuse s .noWindow := by
  rw [assetOpenOwner_legal hh hp hf, if_neg (Nat.not_lt.2 hsize), if_neg (not_not.2 he), hw, Option.elim_none]

theorem assetOpenOwner_windowed (he : s.assets.entry h = .empty) {n : Fin 4} (hw : s.assets.freeWindow = some n) :
    assetOpenOwner f s =
      if s.assets.freeCount < (f.geometryIn p).pageCount then refuse s .noSpace else openAsset s h (f.geometryIn p) n := by
  rw [assetOpenOwner_legal hh hp hf, if_neg (Nat.not_lt.2 hsize), if_neg (not_not.2 he), hw, Option.elim_some]

end

end

end

end

/-! ### The answer (Table 12-7) -/

theorem AssetMap.poolSize_le (m : AssetMap) : m.poolSize ≤ 15360 := by
  unfold AssetMap.poolSize
  split <;> decide

theorem AssetMap.freeCount_lt (m : AssetMap) : m.freeCount < 65536 :=
  Nat.lt_of_le_of_lt ((Nat.sub_le ..).trans m.poolSize_le) (by decide)

theorem Geometry.pageCount_le {g : Geometry} (h : g.size ≤ maxAssetSize) : g.pageCount ≤ 256 := by
  unfold maxAssetSize at h
  unfold Geometry.pageCount
  omega

/-- The fields of an ASSET_OPEN answer read back. -/
theorem openReply_read {n a b c d : Nat} (hn : n < 256) (ha : a < 4294967296) (hb : b < 4294967296) (hc : c < 65536)
    (hd : d < 65536) :
    let p := [byteOf n, 0, 0, 0] ++ leBytes 4 a ++ leBytes 4 b ++ leBytes 2 c ++ leBytes 2 d
    byteAt p 0 = n ∧ leAt p 4 4 = a ∧ leAt p 8 4 = b ∧ leAt p 12 2 = c ∧ leAt p 14 2 = d :=
  ⟨byteOf_of_lt hn, (leAt_four _ _).trans (four_bytes ha), (leAt_four _ _).trans (four_bytes hb),
    (leAt_two _ _).trans (two_bytes_le hc), (leAt_two _ _).trans (two_bytes_le hd)⟩

/-- R90: what a taken ASSET_OPEN answers. -/
theorem openAsset_answer (s : State) (h : Handle) {g : Geometry} (hsize : g.size ≤ 16777216) (n : Fin 4) :
    let p := (openAsset s h g n).answer
    byteAt p 0 = n.val ∧ leAt p 4 4 = n.val * 16777216 ∧ leAt p 8 4 = g.size ∧ leAt p 12 2 = g.pageCount ∧
      leAt p 14 2 = (s.assets.openIn h g n).freeCount := by
  have hpages := Geometry.pageCount_le hsize
  have hoffset : n.val * windowSize = n.val * 16777216 := by rw [windowSize]
  rw [← hoffset]
  have hn := n.isLt
  exact openReply_read (by omega) (by omega) (by omega) (by omega) (s.assets.openIn h g n).freeCount_lt

/-- Settles O44: each check by the owner's branch, then the pages and the window of the asset opened. -/
theorem assetOpenedOrRefused : Obligations.AssetOpenedOrRefused := by
  unfold Obligations.AssetOpenedOrRefused
  intro s go f hl
  have hassets := State.taken_assets s ⟨0x01, go, f.fields⟩
  have run := fun effect st answer => command_completes (s := s) (i := .assetOpen go f) (owner := assetOpenOwner f) rfl rfl hl
    (effect := effect) (st := st) (answer := answer)
  generalize s.taken ⟨0x01, go, f.fields⟩ = t at *
  rw [← hassets]
  refine ⟨fun hbad => run id _ _ (assetOpenOwner_badHandle hbad), fun h hh => ?_⟩
  intro fields size pages
  refine ⟨fun hf => run id _ _ (assetOpenOwner_badFields hh hf), fun hf hsize => ?_, fun hf hsize he => ?_,
    fun hf hsize he hw => ?_, fun n hf hsize he hn hlow => ?_⟩
  all_goals obtain ⟨p, hp⟩ := OpenForm.exists_format hf
  · exact run id _ _ (assetOpenOwner_tooLarge hh hp hf hsize)
  · exact run id _ _ (assetOpenOwner_inUse hh hp hf hsize he)
  · exact run id _ _ (assetOpenOwner_windowless hh hp hf hsize he (AssetMap.freeWindow_eq_none hw))
  · have ho := assetOpenOwner_windowed hh hp hf hsize he (AssetMap.freeWindow_eq_some hn hlow)
    refine ⟨fun hroom => run id _ _ (ho.trans (if_pos hroom)), fun hroom hs => ?_⟩
    obtain ⟨hp0, hp4, hp8, hp12, hp14⟩ := openAsset_answer t h (g := f.geometryIn p) hsize n
    refine ⟨f.geometryIn p, t.assets.openIn h (f.geometryIn p) n, _, run _ _ _ (ho.trans (if_neg (Nat.not_lt.2 hroom))),
      ?_, OpenForm.code_of_format hp, rfl, rfl, rfl, t.assets.takePages_length hroom, fun x hx => (t.assets.takePages_mem hx).2,
      fun x hx y hy hlt => t.assets.takePages_lowest hx hy hlt, fun k hk => ?_, rfl, rfl, rfl, rfl,
      AssetMap.openIn_freeCount hs he hroom, hp0, hp4, hp8, hp12, hp14⟩
    · rw [AssetMap.openIn_entry, if_pos rfl]
      rfl
    · rw [AssetMap.openIn_entry, if_neg hk]

end Sys2Proof.Machine
end

section
/-! PROOF. AssetLifeByEntryState: the untouched pages of a LOADING asset, and what ASSET_CLOSE, ASSET_ABORT and ASSET_FREE make
of an entry in each of its states. -/

namespace Sys2Proof.Machine

/-! ### The untouched pages (R91) -/

theorem untouchedPages_cons (q : LoadPage) (qs : List LoadPage) :
    untouchedPages (q :: qs) = (if q.touched then [] else [0]) ++ (untouchedPages qs).map (· + 1) := by
  have hsucc : (fun k => ((q :: qs)[k]?).any fun p => !p.touched) ∘ Nat.succ = fun k => (qs[k]?).any fun p => !p.touched := rfl
  unfold untouchedPages
  rw [List.length_cons, List.range_succ_eq_map, List.filter_cons, List.filter_map, hsucc]
  cases hq : q.touched <;> simp [hq]

theorem untouchedPages_length (pages : List LoadPage) :
    (untouchedPages pages).length = (pages.filter fun q => !q.touched).length := by
  induction pages with
  | nil => rfl
  | cons q qs ih =>
    rw [untouchedPages_cons, List.length_append, List.length_map, ih, List.filter_cons]
    cases q.touched <;> simp [Nat.add_comm]

theorem untouchedPages_eq_nil {pages : List LoadPage} (h : ∀ q ∈ pages, q.touched = true) : untouchedPages pages = [] :=
  List.eq_nil_of_length_eq_zero (by
    rw [untouchedPages_length, List.length_eq_zero_iff, List.filter_eq_nil_iff]
    intro q hq
    simp [h q hq])

/-- The lowest untouched page is the head of the list. -/
theorem untouchedPages_head {pages : List LoadPage} {low : Nat} (hlow : ∃ q, pages[low]? = some q ∧ q.touched = false)
    (hbelow : ∀ k q, k < low → pages[k]? = some q → q.touched = true) : (untouchedPages pages).head? = some low := by
  induction pages generalizing low with
  | nil =>
    obtain ⟨q, hq, _⟩ := hlow
    cases hq
  | cons r rs ih =>
    rw [untouchedPages_cons]
    cases low with
    | zero =>
      obtain ⟨q, hq, hfresh⟩ := hlow
      cases hq
      rw [hfresh]
      rfl
    | succ low =>
      have hr : r.touched = true := hbelow 0 r (Nat.succ_pos _) rfl
      have hrest : (untouchedPages rs).head? = some low := ih hlow fun k p hk hp => hbelow (k + 1) p (Nat.succ_lt_succ hk) hp
      rw [hr, if_pos rfl, List.nil_append, List.head?_map, hrest]
      rfl

/-! ### The owners by the state of the entry (R91 to R93) -/

section
variable {n : Nat} {s : State}

theorem assetLifeOwners_badHandle (h : n = 0 ∨ 256 ≤ n) :
    assetCloseOwner n s = refuse s .badValue ∧ assetAbortOwner n s = refuse s .badValue ∧
      assetFreeOwner n s = refuse s .badValue := by
  rw [assetCloseOwner, assetAbortOwner, assetFreeOwner, handleOf_eq_none h]
  exact ⟨rfl, rfl, rfl⟩

section
variable {h : Handle} (hn : n = h.val + 1)
include hn

theorem assetLifeOwners_notLoading (he : (s.assets.entry h).isLoading = false) :
    assetCloseOwner n s = refuse s .notLoading ∧ assetAbortOwner n s = refuse s .notLoading := by
  rw [assetCloseOwner, assetAbortOwner, handleOf_eq_some.2 hn]
  dsimp only
  cases hentry : s.assets.entry h with
  | loading g pages => rw [hentry] at he; cases he
  | empty => exact ⟨rfl, rfl⟩
  | ready g pages refs => exact ⟨rfl, rfl⟩
  | retiring g pages refs => exact ⟨rfl, rfl⟩

section
variable {g : Geometry} {pages : List LoadPage} (he : s.assets.entry h = .loading g pages)
include he

theorem assetCloseOwner_incomplete {low : Nat} (hlow : (untouchedPages pages).head? = some low) :
    assetCloseOwner n s =
      ⟨s, .incomplete, leBytes 2 (pages.filter fun q => !q.touched).length ++ leBytes 2 low⟩ := by
  obtain ⟨rest, hrest⟩ := List.head?_eq_some_iff.1 hlow
  have hlen : rest.length + 1 = (pages.filter fun q => !q.touched).length := by
    rw [← untouchedPages_length, hrest, List.length_cons]
  rw [assetCloseOwner, handleOf_eq_some.2 hn]
  simp only [he, hrest, hlen]

theorem assetCloseOwner_complete (hall : ∀ q ∈ pages, q.touched = true) :
    assetCloseOwner n s =
      ⟨{ s with assets := (s.assets.unbind h).setEntry h (.ready g (pages.map (·.page)) 0) }, .ok, []⟩ := by
  rw [assetCloseOwner, handleOf_eq_some.2 hn]
  simp only [he, untouchedPages_eq_nil hall]

theorem assetAbortOwner_loading :
    assetAbortOwner n s =
      ⟨{ s with assets := s.assets.discardLoading h }, .ok, leBytes 2 (s.assets.discardLoading h).freeCount⟩ := by
  rw [assetAbortOwner, handleOf_eq_some.2 hn]
  simp only [he]

theorem assetFreeOwner_loading : assetFreeOwner n s = refuse s .notReady := by
  rw [assetFreeOwner, handleOf_eq_some.2 hn]
  simp only [he]

end

theorem assetFreeOwner_settled (he : (s.assets.entry h).isLoading = false) :
    assetFreeOwner n s =
      ⟨{ s with assets := s.assets.setEntry h (s.assets.entry h).freed }, .ok,
        [(s.assets.entry h).freed.code, 0] ++ leBytes 2 (s.assets.entry h).freed.refs⟩ := by
  rw [assetFreeOwner, handleOf_eq_some.2 hn]
  dsimp only
  cases hentry : s.assets.entry h with
  | loading g pages => rw [hentry] at he; cases he
  | empty => rfl
  | ready g pages refs => rfl
  | retiring g pages refs => rfl

end

end

/-- A content command whose owner decides by the asset map alone. -/
theorem command_completes_of_assets {s : State} {i : Instr} {r : CommandRow} {owner : State → CommandResult}
    (hrow : commandRow i = some r)
    (hexec : exec i s = .next ((s.writeRecord ((0, [r.code]) :: r.fields)).takeCommand r.code r.go owner))
    (hl : s.nva.loading = false) {effect : State → State} {st : ContentStatus} {answer : List Byte}
    (ho : ∀ t : State, t.assets = s.assets → owner t = ⟨effect t, st, answer⟩) : s.Completes i effect st answer :=
  command_completes hrow hexec hl (ho _ (State.taken_assets s r))

/-- Settles O45: each answer by the owner's branch for the state of the entry. -/
theorem assetLifeByEntryState : Obligations.AssetLifeByEntryState := by
  unfold Obligations.AssetLifeByEntryState
  intro s go v hl
  refine ⟨fun hbad => ⟨?_, ?_, ?_⟩, fun h hv => ⟨fun he => ⟨?_, ?_⟩,
    fun g pages he => ⟨fun low hlow hbelow => ?_, fun hall => ?_, ?_, ?_⟩, fun he => ?_, fun g pages he => ?_,
    fun g pages n he => ?_⟩⟩
  all_goals refine command_completes_of_assets rfl rfl hl fun t ht => ?_
  · exact (assetLifeOwners_badHandle hbad).1
  · exact (assetLifeOwners_badHandle hbad).2.1
  · exact (assetLifeOwners_badHandle hbad).2.2
  · exact (assetLifeOwners_notLoading hv (ht ▸ he)).1
  · exact (assetLifeOwners_notLoading hv (ht ▸ he)).2
  · exact assetCloseOwner_incomplete hv (ht ▸ he) (untouchedPages_head hlow hbelow)
  · exact assetCloseOwner_complete hv (ht ▸ he) hall
  · rw [← ht]
    exact assetAbortOwner_loading hv (ht ▸ he)
  · exact assetFreeOwner_loading hv (ht ▸ he)
  · have hentry : t.assets.entry h = .empty := ht ▸ he
    rw [assetFreeOwner_settled hv (by rw [hentry]; rfl), hentry]
    rfl
  · have hentry : t.assets.entry h = .ready g pages 0 := ht ▸ he
    have hfreed : (AssetEntry.ready g pages 0).freed = .empty := by simp [AssetEntry.freed]
    rw [assetFreeOwner_settled hv (by rw [hentry]; rfl), hentry, hfreed]
    rfl
  · have hfreed : (t.assets.entry h).freed = .retiring g pages (n + 1) := by
      rw [ht]
      rcases he with he | he <;> exact congrArg AssetEntry.freed he
    have hsettled : (t.assets.entry h).isLoading = false := by
      rw [ht]
      rcases he with he | he <;> exact congrArg AssetEntry.isLoading he
    rw [assetFreeOwner_settled hv hsettled, hfreed]
    rfl

end Sys2Proof.Machine
end

section
/-! PROOF. AssetQueryReports: the numbers of entries in each state, and how the two reports of ASSET_QUERY read back. -/

namespace Sys2Proof.Machine

/-! ### The report of the map (R96) -/

theorem AssetMap.countCode_le (m : AssetMap) (c : Byte) : m.countCode c ≤ 255 :=
  (List.length_filter_le ..).trans_eq List.length_finRange

theorem AssetEntry.code_cases (e : AssetEntry) : e.code = 0 ∨ e.code = 1 ∨ e.code = 2 ∨ e.code = 3 := by
  cases e <;> simp [AssetEntry.code]

/-- The entries of a list fall into the four states. -/
theorem AssetMap.code_counts (m : AssetMap) (l : List Handle) :
    (l.filter fun h => decide ((m.entry h).code = 0)).length + (l.filter fun h => decide ((m.entry h).code = 1)).length +
      (l.filter fun h => decide ((m.entry h).code = 2)).length + (l.filter fun h => decide ((m.entry h).code = 3)).length =
    l.length := by
  induction l with
  | nil => rfl
  | cons h l ih =>
    rw [List.length_cons, ← ih]
    obtain hc | hc | hc | hc := (m.entry h).code_cases <;> simp [hc] <;> omega

theorem AssetMap.countCode_sum (m : AssetMap) : m.countCode 0 + m.countCode 1 + m.countCode 2 + m.countCode 3 = 255 :=
  (m.code_counts (List.finRange 255)).trans List.length_finRange

/-- The count of a state is the number of entries that a test of that state finds. -/
theorem AssetMap.countCode_eq (m : AssetMap) {c : Byte} {test : Handle → Bool}
    (h : ∀ k, decide ((m.entry k).code = c) = test k) : m.countCode c = ((List.finRange 255).filter test).length := by
  rw [AssetMap.countCode, funext h]

/-- The fields of the report of the map read back. -/
theorem summary_read {a b c d e f w0 w1 w2 w3 : Nat} {x : Byte} (ha : a < 65536) (hb : b < 65536) (hc : c < 65536)
    (hd : d < 65536) (he : e < 65536) (hf : f < 65536) (hw0 : w0 < 256) (hw1 : w1 < 256) (hw2 : w2 < 256) (hw3 : w3 < 256) :
    let p := leBytes 2 a ++ leBytes 2 b ++ leBytes 2 c ++ leBytes 2 d ++ leBytes 2 e ++ leBytes 2 f ++ leBytes 1 w0 ++
      leBytes 1 w1 ++ leBytes 1 w2 ++ leBytes 1 w3 ++ [x]
    p.length = 17 ∧ leAt p 0 2 = a ∧ leAt p 2 2 = b ∧ leAt p 4 2 = c ∧ leAt p 6 2 = d ∧ leAt p 8 2 = e ∧ leAt p 10 2 = f ∧
      byteAt p 12 = w0 ∧ byteAt p 13 = w1 ∧ byteAt p 14 = w2 ∧ byteAt p 15 = w3 ∧ byteAt p 16 = x.toNat :=
by
  simp only [leBytes, List.cons_append, List.nil_append, List.length_cons, List.length_nil, leAt_two, byteAt_cons_succ,
    byteAt_cons_zero, byteOf_toNat, two_bytes_le ha, two_bytes_le hb, two_bytes_le hc, two_bytes_le hd, two_bytes_le he,
    two_bytes_le hf, Nat.mod_eq_of_lt hw0, Nat.mod_eq_of_lt hw1, Nat.mod_eq_of_lt hw2, Nat.mod_eq_of_lt hw3, and_self]

/-- The number of a handle that is bound to a window, 0 for none (Table 12-7). -/
def AssetMap.boundNumber (m : AssetMap) (n : Fin 4) : Nat := (m.windows[n].map handleNumber).getD 0

theorem AssetMap.boundNumber_lt (m : AssetMap) (n : Fin 4) : m.boundNumber n < 256 := by
  unfold AssetMap.boundNumber
  cases m.windows[n] with
  | none => exact Nat.zero_lt_succ _
  | some h => exact Nat.succ_lt_succ h.isLt

theorem assetSummary_read (m : AssetMap) :
    let p := assetSummary m
    p.length = 17 ∧ leAt p 0 2 = m.poolSize ∧ leAt p 2 2 = m.freeCount ∧ leAt p 4 2 = m.countCode 0 ∧
      leAt p 6 2 = m.countCode 1 ∧ leAt p 8 2 = m.countCode 2 ∧ leAt p 10 2 = m.countCode 3 ∧
      byteAt p 12 = m.boundNumber 0 ∧ byteAt p 13 = m.boundNumber 1 ∧ byteAt p 14 = m.boundNumber 2 ∧
      byteAt p 15 = m.boundNumber 3 ∧ byteAt p 16 = (flagByte m.loadFault.isSome).toNat := by
  have hcount : ∀ c, m.countCode c < 65536 := fun c => (m.countCode_le c).trans_lt (by decide)
  exact summary_read (m.poolSize_le.trans_lt (by decide)) m.freeCount_lt (hcount 0) (hcount 1) (hcount 2) (hcount 3)
    (m.boundNumber_lt 0) (m.boundNumber_lt 1) (m.boundNumber_lt 2) (m.boundNumber_lt 3)

/-! ### The report of an entry (R96) -/

/-- The report of an entry that is not EMPTY: its code, geometry, pages, count, touched pages, lowest untouched page and
window (Table 12-7). -/
def entryReport (c : Byte) (g : Geometry) (pages refs touched low : Nat) (window : Byte) : List Byte :=
  [c] ++ geometryBytes g ++ leBytes 2 pages ++ leBytes 2 refs ++ leBytes 2 touched ++ leBytes 2 low ++ [window]

/-- The fields of the report of an entry read back. -/
theorem entryReport_read {c : Byte} {g : Geometry} {pages refs touched low : Nat} {window : Byte}
    (hg : g.fieldsValid = true) (hsize : g.size ≤ maxAssetSize) (hpages : pages < 65536) (hrefs : refs < 65536)
    (htouched : touched < 65536) (hlow : low < 65536) :
    let p := entryReport c g pages refs touched low window
    p.length = 21 ∧ byteAt p 0 = c.toNat ∧ byteAt p 1 = g.format.code.toNat ∧ leAt p 2 2 = g.width ∧ leAt p 4 2 = g.height ∧
      leAt p 6 2 = g.stride ∧ leAt p 8 4 = g.size ∧ leAt p 12 2 = pages ∧ leAt p 14 2 = refs ∧ leAt p 16 2 = touched ∧
      leAt p 18 2 = low ∧ byteAt p 20 = window.toNat := by
  simp only [Geometry.fieldsValid, Bool.and_eq_true, decide_eq_true_eq] at hg
  obtain ⟨⟨⟨⟨⟨⟨_, hwidth⟩, _⟩, hheight⟩, _⟩, _⟩, hstride⟩ := hg
  have hwidth : g.width < 65536 := by omega
  have hheight : g.height < 65536 := by omega
  have hstride : g.stride < 65536 := by omega
  have hsize : g.size < 4294967296 := hsize.trans_lt (by decide)
  simp only [entryReport, geometryBytes, leBytes, List.cons_append, List.nil_append, List.length_cons, List.length_nil,
    leAt_two, leAt_four, byteAt_cons_succ, byteAt_cons_zero, byteOf_toNat, two_bytes_le hwidth, two_bytes_le hheight,
    two_bytes_le hstride, four_bytes hsize, two_bytes_le hpages, two_bytes_le hrefs, two_bytes_le htouched, two_bytes_le hlow,
    and_self]

/-- The byte that the report of a LOADING asset gives for the window of a handle: its number, FFh for none. -/
def windowByte : Option (Fin 4) → Byte
  | some n => byteOf n.val
  | none => 0xFF

section
variable {m : AssetMap} {h : Handle}

theorem assetReport_empty (he : m.entry h = .empty) : assetReport m h = [0] ++ zeros 17 ++ [0xFF, 0xFF, 0xFF] := by
  rw [assetReport, he]

theorem assetReport_loading {g : Geometry} {pages : List LoadPage} (he : m.entry h = .loading g pages) :
    assetReport m h = entryReport 1 g pages.length 0 (pages.length - (untouchedPages pages).length)
      ((untouchedPages pages).head?.getD 65535) (windowByte (m.windowOf h)) := by
  rw [assetReport, he]
  cases m.windowOf h <;> rfl

theorem assetReport_settled {g : Geometry} {pages : List Nat} {n : Nat}
    (he : m.entry h = .ready g pages n ∨ m.entry h = .retiring g pages n) :
    assetReport m h = entryReport (m.entry h).code g pages.length n 0 65535 0xFF := by
  rcases he with he | he <;> · rw [assetReport, he]; rfl

end

/-- What a sound entry says of its geometry and its pages. -/
theorem AssetEntry.sound_bounds {g : Geometry} {pages : Nat}
    (h : (g.fieldsValid && decide (g.size ≤ maxAssetSize) && decide (pages = g.pageCount)) = true) :
    g.fieldsValid = true ∧ g.size ≤ maxAssetSize ∧ pages ≤ 256 := by
  simp only [Bool.and_eq_true, decide_eq_true_eq] at h
  obtain ⟨⟨hfields, hsize⟩, hpages⟩ := h
  exact ⟨hfields, hsize, hpages.trans_le (Geometry.pageCount_le hsize)⟩

theorem AssetEntry.settled_bounds {e : AssetEntry} {g : Geometry} {pages : List Nat} {n : Nat}
    (he : e = .ready g pages n ∨ e = .retiring g pages n) (h : e.sound = true) :
    g.fieldsValid = true ∧ g.size ≤ maxAssetSize ∧ pages.length ≤ 256 := by
  rcases he with rfl | rfl
  · exact AssetEntry.sound_bounds h
  · exact AssetEntry.sound_bounds (Bool.and_eq_true_iff.1 h).1

theorem untouchedPages_lt {pages : List LoadPage} {k : Nat} (h : k ∈ untouchedPages pages) : k < pages.length :=
  List.mem_range.1 (List.mem_filter.1 h).1

theorem untouchedPages_lowest_lt {pages : List LoadPage} (h : pages.length < 65536) :
    (untouchedPages pages).head?.getD 65535 < 65536 := by
  cases hu : untouchedPages pages with
  | nil => exact Nat.lt_succ_self _
  | cons k ks => exact (untouchedPages_lt (k := k) (by rw [hu]; exact List.mem_cons_self)).trans h

theorem touched_length (pages : List LoadPage) :
    pages.length - (untouchedPages pages).length = (pages.filter (·.touched)).length := by
  rw [untouchedPages_length]
  have := List.length_eq_length_filter_add (l := pages) (·.touched)
  omega

/-! ### The answer (R96) -/

theorem assetQueryOwner_zero (s : State) : assetQueryOwner 0 s = ⟨s, .ok, assetSummary s.assets⟩ := if_pos rfl

theorem assetQueryOwner_handle {n : Nat} {h : Handle} (hn : n = h.val + 1) (s : State) :
    assetQueryOwner n s = ⟨s, .ok, assetReport s.assets h⟩ := by
  rw [assetQueryOwner, if_neg (by omega), handleOf_eq_some.2 hn]

theorem assetQueryOwner_badHandle {n : Nat} (h : 256 ≤ n) (s : State) : assetQueryOwner n s = refuse s .badValue := by
  rw [assetQueryOwner, if_neg (by omega), handleOf_eq_none (.inr h)]

/-- Settles O46: the reports read back field by field. -/
theorem assetQueryReports : Obligations.AssetQueryReports := by
  unfold Obligations.AssetQueryReports
  intro s go v hl
  refine ⟨fun hbad => ?_, fun hv => ?_, fun h hv => ?_⟩
  · exact command_completes_of_assets (effect := id) rfl rfl hl fun t _ => assetQueryOwner_badHandle hbad t
  · refine ⟨assetSummary s.assets, ?_, ?_⟩
    · refine command_completes_of_assets (effect := id) rfl rfl hl fun t ht => ?_
      rw [← ht, hv]
      exact assetQueryOwner_zero t
    obtain ⟨hlen, h0, h2, h4, h6, h8, h10, h12, h13, h14, h15, h16⟩ := assetSummary_read s.assets
    rw [h4, h6, h8, h10]
    refine ⟨hlen, h0, h2, s.assets.countCode_sum, s.assets.countCode_eq fun k => ?_, s.assets.countCode_eq fun k => ?_,
      s.assets.countCode_eq fun k => ?_, s.assets.countCode_eq fun k => ?_, fun n => ?_, ?_⟩
    · cases s.assets.entry k <;> simp [AssetEntry.code]
    · cases s.assets.entry k <;> rfl
    · cases s.assets.entry k <;> rfl
    · cases s.assets.entry k <;> rfl
    · have hbound : byteAt (assetSummary s.assets) (12 + n.val) = s.assets.boundNumber n := by
        match n with
        | 0 => exact h12
        | 1 => exact h13
        | 2 => exact h14
        | 3 => exact h15
      rw [hbound, AssetMap.boundNumber]
      cases s.assets.windows[n] <;> rfl
    · rw [h16, flagByte]
      split <;> rfl
  · refine ⟨assetReport s.assets h, ?_, ?_, fun he => ?_, fun g pages he hsound => ?_, fun g pages n he hsound hn => ?_⟩
    · refine command_completes_of_assets (effect := id) rfl rfl hl fun t ht => ?_
      rw [← ht]
      exact assetQueryOwner_handle hv t
    · cases he : s.assets.entry h <;> rw [assetReport, he] <;> rfl
    · rw [assetReport_empty he]
      exact ⟨by decide, by decide, by decide⟩
    · rw [he] at hsound
      obtain ⟨hfields, hsize, hpages⟩ := AssetEntry.sound_bounds hsound
      have hlow : (untouchedPages pages).head?.getD 65535 < 65536 := untouchedPages_lowest_lt (by omega)
      rw [assetReport_loading he]
      obtain ⟨_, h0, h1, h2, h4, h6, h8, h12, h14, h16, h18, h20⟩ :=
        entryReport_read (c := 1) (pages := pages.length) (refs := 0) (window := windowByte (s.assets.windowOf h))
          (touched := pages.length - (untouchedPages pages).length) hfields hsize (by omega) (by decide) (by omega) hlow
      refine ⟨h0, h1, h2, h4, h6, h8, h12, h14, h16.trans (touched_length pages), fun hall => ?_,
        fun low q hq hfresh hbelow => ?_, fun n hn => ?_⟩
      · rw [h18, untouchedPages_eq_nil hall]
        rfl
      · rw [h18, untouchedPages_head ⟨q, hq, hfresh⟩ hbelow]
        rfl
      · rw [h20, hn]
        exact byteOf_of_lt (n.isLt.trans (by decide))
    · obtain ⟨hfields, hsize, hpages⟩ := AssetEntry.settled_bounds he hsound
      rw [assetReport_settled he]
      obtain ⟨_, h0, h1, h2, h4, h6, h8, h12, h14, h16, h18, h20⟩ :=
        entryReport_read (c := (s.assets.entry h).code) (pages := pages.length) (touched := 0) (low := 65535) (window := 0xFF)
          hfields hsize (by omega) hn (by decide) (by decide)
      refine ⟨h0.trans ?_, h1, h2, h4, h6, h8, h12, h14, h16, h18, h20⟩
      rcases he with he | he <;> rw [he]
      · rw [if_pos rfl]
        rfl
      · rw [if_neg (by simp)]
        rfl

end Sys2Proof.Machine
end

section
/-! PROOF. ApertureWriteStoredOrDropped: the fault of an aperture write, and the bytes of one that stays in a page of its
asset. -/

namespace Sys2Proof.Machine

/-! ### A run of bytes (R85) -/

/-- What storing a run of bytes does to a read. -/
theorem Memory.read_store (m : List Host.Cell) (a : Nat) (l : List Byte) (c : Nat) :
    Memory.read (Memory.store m a l) c = if a ≤ c ∧ c < a + l.length then l.getD (c - a) 0 else Memory.read m c := by
  induction l generalizing m a with
  | nil => exact (if_neg (by simp)).symm
  | cons b rest ih =>
    rw [Memory.store, ih, Memory.read_write, List.length_cons]
    rcases Nat.lt_trichotomy c a with hlt | rfl | hgt
    · rw [if_neg (by omega), if_neg (by omega), if_neg (by omega)]
    · rw [if_neg (by omega), if_pos rfl, if_pos (by omega), Nat.sub_self]
      rfl
    · obtain ⟨k, rfl⟩ : ∃ k, c = a + 1 + k := ⟨c - (a + 1), by omega⟩
      have hhead : a + 1 + k - (a + 1) = k := by omega
      have htail : a + 1 + k - a = k + 1 := by omega
      rw [if_neg (show ¬ a + 1 + k = a by omega), hhead, htail, List.getD_cons_succ]
      exact if_congr (by omega) rfl rfl

/-! ### A write within a page (R85, R86) -/

theorem page_place (k : Nat) {x : Nat} (hx : x < pageSize) :
    (k * pageSize + x) / pageSize = k ∧ (k * pageSize + x) % pageSize = x := by
  unfold pageSize at *
  omega

/-- R86: the memory in which a page takes bytes: filled with zeros if it has taken none. -/
def Memory.touched (m : List Host.Cell) (q : LoadPage) : List Host.Cell :=
  if q.touched then m else Memory.clearPage m q.page

theorem Memory.read_touched (m : List Host.Cell) (q : LoadPage) (a : Nat) :
    Memory.read (Memory.touched m q) a = if a / pageSize = q.page ∧ q.touched = false then 0 else Memory.read m a := by
  unfold Memory.touched
  cases hq : q.touched with
  | true => simp
  | false => simp [Memory.read_clearPage]

section
variable {pages : List LoadPage} {k : Nat} {q : LoadPage} (hq : pages[k]? = some q)
include hq

theorem touchPage_eq (m : List Host.Cell) :
    touchPage m pages k = (Memory.touched m q, pages.set k { q with touched := true }) := by
  unfold touchPage Memory.touched
  cases ht : q.touched with
  | false => simp [hq, ht]
  | true =>
    obtain ⟨hk, hget⟩ := List.getElem?_eq_some_iff.1 hq
    have hsame : ({ q with touched := true } : LoadPage) = pages[k] := by
      rw [hget, ← ht]
    rw [hsame, List.set_getElem_self]
    simp [hq, ht]

/-- A write within a page that has taken bytes is a run of bytes in that page. -/
theorem storeAsset_touched (ht : q.touched = true) (m : List Host.Cell) {x : Nat} {data : List Byte}
    (hx : x + data.length ≤ pageSize) :
    storeAsset m pages (k * pageSize + x) data = (Memory.store m (q.page * pageSize + x) data, pages) := by
  induction data generalizing m x with
  | nil => rfl
  | cons b rest ih =>
    rw [List.length_cons] at hx
    obtain ⟨hpage, hplace⟩ := page_place k (x := x) (by omega)
    have htouch : touchPage m pages k = (m, pages) := by
      unfold touchPage
      simp only [hq, ht, if_true]
    have hbyte : storeAssetByte m pages (k * pageSize + x) b = Memory.write m (q.page * pageSize + x) b := by
      unfold storeAssetByte
      simp only [hpage, hq, hplace]
    have hrest := ih (Memory.write m (q.page * pageSize + x) b) (x := x + 1) (by omega)
    simp only [storeAsset, Memory.store, hpage, htouch, hbyte, Nat.add_assoc, hrest]

/-- R85, R86: what a write within a page of an asset leaves. -/
theorem storeAsset_page (m : List Host.Cell) {x : Nat} {data : List Byte} (hx : x + data.length ≤ pageSize)
    (hdata : 0 < data.length) :
    storeAsset m pages (k * pageSize + x) data =
      (Memory.store (Memory.touched m q) (q.page * pageSize + x) data, pages.set k { q with touched := true }) := by
  have hk : k < pages.length := (List.getElem?_eq_some_iff.1 hq).1
  have hset : (pages.set k { q with touched := true })[k]? = some { q with touched := true } := by simp [hk]
  have htouched := storeAsset_touched hset rfl (Memory.touched m q) hx
  cases data with
  | nil => cases hdata
  | cons b rest =>
    rw [List.length_cons] at hx
    obtain ⟨hpage, _⟩ := page_place k (x := x) (by omega)
    rw [← htouched, storeAsset, storeAsset, hpage, touchPage_eq hq, touchPage_eq hset]
    simp [Memory.touched]

end

/-! ### The fault of a write (R87, R88) -/

section
variable {m : AssetMap} {n : Fin 4} {o len : Nat}

theorem AssetMap.writeFault_align (h : ¬ (o % 4 = 0 ∧ len % 4 = 0)) : m.writeFault n o len = some .align :=
  if_pos (by omega)

section
variable (ha : o % 4 = 0 ∧ len % 4 = 0)
include ha

theorem AssetMap.writeFault_windowMiss (hw : m.windows[n] = none) : m.writeFault n o len = some .windowMiss := by
  have hnone : m.boundAsset n = none := by rw [AssetMap.boundAsset, hw]
  rw [AssetMap.writeFault, if_neg (by omega), hnone]

theorem AssetMap.writeFault_bound {h : Handle} {g : Geometry} {pages : List LoadPage}
    (hb : m.boundAsset n = some (h, g, pages)) (hlen : 0 < len) :
    m.writeFault n o len = if g.size < o + len then some .bounds else none := by
  rw [AssetMap.writeFault, if_neg (by omega), hb]
  simp only [hlen, true_and]

end

end

theorem AssetMap.boundAsset_eq {m : AssetMap} {n : Fin 4} {h : Handle} {g : Geometry} {pages : List LoadPage}
    (hw : m.windows[n] = some h) (he : m.entry h = .loading g pages) : m.boundAsset n = some (h, g, pages) := by
  rw [AssetMap.boundAsset, hw]
  simp only [he]

/-! ### The write (R85 to R88) -/

section
variable {s : State} {n : Fin 4} {o x : Nat} {data : List Byte} (hwindow : x / windowSize % 4 = n.val) (hplace : x % windowSize = o)
include hwindow hplace

theorem State.apertureWrite_faulty {kind : LoadFaultKind} (hf : s.assets.writeFault n o data.length = some kind) :
    s.apertureWrite x data = ({ s with assets := s.assets.recordFault kind n o }).raiseContent .loadFault := by
  have hn : (⟨x / windowSize % 4, by omega⟩ : Fin 4) = n := Fin.ext hwindow
  unfold State.apertureWrite
  simp only [hn, hplace, hf]

theorem State.apertureWrite_stored {h : Handle} {g : Geometry} {pages : List LoadPage}
    (hf : s.assets.writeFault n o data.length = none) (hb : s.assets.boundAsset n = some (h, g, pages)) :
    s.apertureWrite x data =
      { s with assets := { s.assets.setEntry h (.loading g (storeAsset s.assets.memory pages o data).2) with
                           memory := (storeAsset s.assets.memory pages o data).1 } } := by
  have hn : (⟨x / windowSize % 4, by omega⟩ : Fin 4) = n := Fin.ext hwindow
  unfold State.apertureWrite
  simp only [hn, hplace, hf, hb]

end

theorem exec_apertureWrite (s : State) {v : BitVec 26} {x : Nat} (hx : v.toNat = x) (data : List Byte) :
    exec (.apertureWrite v data) s = .next (s.apertureWrite x data) := by
  rw [← hx]
  rfl

/-- The offset of a place in a window, in the windows' range. -/
theorem window_place (n : Fin 4) {o : Nat} (ho : o < 16777216) : ∃ x, (BitVec.ofNat 26 (n.val * 16777216 + o)).toNat = x ∧
    x / windowSize % 4 = n.val ∧ x % windowSize = o := by
  have hn := n.isLt
  refine ⟨_, rfl, ?_⟩
  rw [BitVec.toNat_ofNat, windowSize]
  omega

/-- Settles O47: the highest fault by the tests in order, and a write that passes them lies in one page. -/
theorem apertureWriteStoredOrDropped : Obligations.ApertureWriteStoredOrDropped := by
  unfold Obligations.ApertureWriteStoredOrDropped
  intro s n o data ho i aligned faults
  obtain ⟨x, hx, hwindow, hplace⟩ := window_place n ho
  have drop : ∀ kind, s.assets.writeFault n o data.length = some kind → faults kind := fun kind hf => by
    have hdropped := State.apertureWrite_faulty hwindow hplace hf
    refine (exec_apertureWrite s hx data).trans (congrArg Host.Outcome.next (hdropped.trans ?_))
    unfold AssetMap.recordFault
    cases s.assets.loadFault <;> rfl
  refine ⟨fun ha => drop _ (AssetMap.writeFault_align ha), fun ha hw => drop _ (AssetMap.writeFault_windowMiss ha hw),
    fun h g pages ha hw he hlen => ?_⟩
  have hbound := AssetMap.boundAsset_eq hw he
  have hfault := AssetMap.writeFault_bound (o := o) ha hbound hlen
  refine ⟨fun hover => drop _ (hfault.trans (if_pos hover)), fun hsize hin hsound => ?_⟩
  have hpages : pages.length = g.pageCount := by
    rw [he] at hsound
    exact of_decide_eq_true (Bool.and_eq_true_iff.1 hsound).2
  have hk : o / 65536 < pages.length := by
    rw [hpages, Geometry.pageCount]
    omega
  refine ⟨pages[o / 65536], List.getElem?_eq_getElem hk, ?_⟩
  have hplaced : o / 65536 * pageSize + o % 65536 = o := Nat.div_add_mod' o 65536
  have hstore := storeAsset_page (List.getElem?_eq_getElem hk) s.assets.memory (x := o % 65536) (data := data)
    (by unfold pageSize; omega) hlen
  rw [hplaced] at hstore
  have hstored := State.apertureWrite_stored hwindow hplace (hfault.trans (if_neg (by omega))) hbound
  rw [hstore] at hstored
  refine ⟨_, (exec_apertureWrite s hx data).trans (congrArg Host.Outcome.next hstored), fun a => ?_⟩
  rw [Memory.read_store, Memory.read_touched]
  rfl

end Sys2Proof.Machine
end

section
/-! PROOF. WindowReadsReturnAndClear: the fields of the control area at their offsets, the bytes of a read, and what a read
clears. -/

namespace Sys2Proof.Machine

/-! ### Bytes of a list -/

theorem byteAt_append_left {front : List Byte} {i : Nat} (h : i < front.length) (l : List Byte) :
    byteAt (front ++ l) i = byteAt front i := by
  rw [byteAt, byteAt, List.getD_append _ _ _ _ h]

theorem byteAt_leBytes {n k : Nat} (h : k < n) (v : Nat) : byteAt (leBytes n v) k = v / 256 ^ k % 256 := by
  induction n generalizing v k with
  | zero => cases h
  | succ n ih =>
    cases k with
    | zero => rw [leBytes, byteAt_cons_zero, byteOf_toNat, Nat.pow_zero, Nat.div_one]
    | succ k => rw [leBytes, byteAt_cons_succ, ih (Nat.lt_of_succ_lt_succ h), Nat.div_div_eq_div_mul, Nat.pow_succ']

theorem byteAt_zeros (n k : Nat) : byteAt (zeros n) k = 0 := by
  simp [byteAt, zeros, List.getElem?_replicate]
  split <;> rfl

theorem byteAt_map_range {n j : Nat} (hj : j < n) (f : Nat → Byte) : byteAt ((List.range n).map f) j = (f j).toNat := by
  simp [byteAt, hj]

theorem flagByte_toNat (b : Bool) : (flagByte b).toNat = if b then 1 else 0 := by
  cases b <;> rfl

theorem leBytes_length (n v : Nat) : (leBytes n v).length = n := by
  induction n generalizing v with
  | zero => rfl
  | succ n ih => rw [leBytes, List.length_cons, ih]

theorem eq_of_byteAt {l l' : List Byte} (hlen : l.length = l'.length) (h : ∀ j < l.length, byteAt l j = byteAt l' j) :
    l = l' := by
  refine List.ext_getElem hlen fun j hj hj' => BitVec.eq_of_toNat_eq ?_
  have := h j hj
  simpa [byteAt, hj, hj'] using this

/-- A byte of one of the pieces that a list is joined from. -/
theorem byteAt_flatten {pieces : List (List Byte)} {i : Nat} {p : List Byte} (hp : pieces[i]? = some p) {k : Nat}
    (hk : k < p.length) : byteAt pieces.flatten ((pieces.take i).flatten.length + k) = byteAt p k := by
  obtain ⟨hi, hget⟩ := List.getElem?_eq_some_iff.1 hp
  have hsplit : pieces = pieces.take i ++ p :: pieces.drop (i + 1) := by
    rw [← hget, List.getElem_cons_drop, List.take_append_drop]
  have hflat : pieces.flatten = (pieces.take i).flatten ++ (p ++ (pieces.drop (i + 1)).flatten) := by
    rw [← List.flatten_cons, ← List.flatten_append, ← hsplit]
  rw [hflat, byteAt_append_right, byteAt_append_left hk]

/-! ### The control area (Table 12-9) -/

/-- The first word of the load-fault record. -/
def faultWord : Option LoadFault → Nat
  | none => 0
  | some f => 1 + (if f.more then 2 else 0) + 256 * f.kind.code + 65536 * f.window.val

/-- The second word of the load-fault record. -/
def faultOffset : Option LoadFault → Nat
  | none => 0
  | some f => f.offset

theorem loadFaultBytes_eq (f : Option LoadFault) : loadFaultBytes f = leBytes 4 (faultWord f) ++ leBytes 4 (faultOffset f) := by
  cases f <;> rfl

/-- The fields of the control area in their order. -/
def controlFields (s : State) : List (List Byte) :=
  [leBytes 4 0x50510004, [Config.revision, flagByte s.assets.large, byteOf s.link.unit, 0], leBytes 4 s.assets.poolSize,
    leBytes 4 0, leBytes 4 s.port.goTag.toNat, leBytes 4 s.port.summary.toNat, leBytes 4 (faultWord s.assets.loadFault),
    leBytes 4 (faultOffset s.assets.loadFault), s.port.record.toList, zeros 32, [s.port.status.code, s.port.status.status],
    leBytes 2 s.port.status.tag.toNat, s.port.status.answer]

section
variable (s : State)

theorem controlImage_eq : controlImage s = (controlFields s).flatten := by
  have hzeros : zeros 4 = leBytes 4 0 := rfl
  simp only [controlImage, identification, statusRecordBytes, loadFaultBytes_eq, controlFields, hzeros, List.flatten_cons,
    List.flatten_nil, List.append_assoc, List.append_nil]

/-- The offset of a field of the control area. -/
def fieldOffset (i : Nat) : Nat := ((controlFields s).take i).flatten.length

theorem fieldOffset_eq : fieldOffset s 1 = 4 ∧ fieldOffset s 2 = 8 ∧ fieldOffset s 3 = 0xC ∧ fieldOffset s 4 = 0x10 ∧
    fieldOffset s 5 = 0x14 ∧ fieldOffset s 6 = 0x18 ∧ fieldOffset s 7 = 0x1C ∧ fieldOffset s 8 = 0x20 ∧
    fieldOffset s 9 = 0x60 ∧ fieldOffset s 10 = 0x80 ∧ fieldOffset s 11 = 0x82 ∧ fieldOffset s 12 = 0x84 := by
  simp [fieldOffset, controlFields, leBytes_length, zeros]

/-- A byte of a field of the control area. -/
theorem controlImage_field {i w a : Nat} {p : List Byte} (hp : (controlFields s)[i]? = some p) (hw : fieldOffset s i = w)
    (hle : w ≤ a) (hlt : a < w + p.length) : byteAt (controlImage s) a = byteAt p (a - w) := by
  obtain ⟨k, rfl⟩ := Nat.exists_eq_add_of_le hle
  rw [controlImage_eq, Nat.add_sub_cancel_left, ← hw]
  exact byteAt_flatten hp (by omega)

/-- A byte of a word of the control area. -/
theorem controlImage_word {i w a v : Nat} (hp : (controlFields s)[i]? = some (leBytes 4 v)) (hw : fieldOffset s i = w)
    (hle : w ≤ a) (hlt : a < w + 4) : byteAt (controlImage s) a = v / 256 ^ (a - w) % 256 := by
  rw [controlImage_field s hp hw hle (by rwa [leBytes_length]), byteAt_leBytes (by omega)]

theorem controlImage_at {i w a : Nat} {p : List Byte} {b : Byte} (hp : (controlFields s)[i]? = some p)
    (hw : fieldOffset s i = w) (k : Nat) (hb : p[k]? = some b) (ha : a = w + k) : byteAt (controlImage s) a = b.toNat := by
  obtain ⟨hk, _⟩ := List.getElem?_eq_some_iff.1 hb
  rw [controlImage_field s hp hw (by omega) (by omega), ha, Nat.add_sub_cancel_left, byteAt, List.getD_eq_getElem?_getD, hb]
  rfl

theorem controlImage_faultWord {f : Option LoadFault} (hf : s.assets.loadFault = f) {a : Nat} (hle : 0x18 ≤ a)
    (hlt : a < 0x18 + 4) : byteAt (controlImage s) a = faultWord f / 256 ^ (a - 0x18) % 256 := by
  obtain ⟨_, _, _, _, _, h6, _⟩ := fieldOffset_eq s
  subst hf
  exact controlImage_word s (i := 6) rfl h6 hle hlt

theorem controlImage_faultOffset {f : Option LoadFault} (hf : s.assets.loadFault = f) {a : Nat} (hle : 0x1C ≤ a)
    (hlt : a < 0x1C + 4) : byteAt (controlImage s) a = faultOffset f / 256 ^ (a - 0x1C) % 256 := by
  obtain ⟨_, _, _, _, _, _, h7, _⟩ := fieldOffset_eq s
  subst hf
  exact controlImage_word s (i := 7) rfl h7 hle hlt

theorem controlImage_zeros {a : Nat} (hle : 0x60 ≤ a) (hlt : a < 0x80) : byteAt (controlImage s) a = 0 := by
  obtain ⟨_, _, _, _, _, _, _, _, h9, _⟩ := fieldOffset_eq s
  have hlen : (zeros 32).length = 32 := rfl
  rw [controlImage_field s (i := 9) rfl h9 hle (by rw [hlen]; exact hlt), byteAt_zeros]

theorem controlImage_answer {a : Nat} (h : 0x84 ≤ a) : byteAt (controlImage s) a = byteAt s.port.status.answer (a - 0x84) := by
  obtain ⟨k, rfl⟩ := Nat.exists_eq_add_of_le h
  have hhead : ((controlFields s).take 12).flatten.length = 0x84 := by simp [controlFields, leBytes_length, zeros]
  have hsplit : (controlFields s).flatten = ((controlFields s).take 12).flatten ++ s.port.status.answer := by
    simp [controlFields]
  rw [controlImage_eq, hsplit, Nat.add_sub_cancel_left, ← hhead, byteAt_append_right]

end

/-! ### A read of the window (R89, R166) -/

section
variable {s : State} {o n : Nat}

theorem coversWord_iff {w : Nat} : coversWord o n w = true ↔ o ≤ w ∧ w < o + n := by
  rw [coversWord, Bool.and_eq_true, decide_eq_true_eq, decide_eq_true_eq]

theorem readPort_eq (p : ContentPort) (w : Nat) : (if coversWord o n w then p.summaryRead else p) =
    { p with summary := if o ≤ w ∧ w < o + n then 0 else p.summary, armed := if o ≤ w ∧ w < o + n then true else p.armed } := by
  by_cases hw : o ≤ w ∧ w < o + n
  · rw [if_pos (coversWord_iff.2 hw), if_pos hw, if_pos hw, ContentPort.summaryRead]
  · rw [if_neg (mt coversWord_iff.1 hw), if_neg hw, if_neg hw]

theorem readAssets_eq (m : AssetMap) (w : Nat) : (if coversWord o n w then { m with loadFault := none } else m) =
    { m with loadFault := if o ≤ w ∧ w < o + n then none else m.loadFault } := by
  by_cases hw : o ≤ w ∧ w < o + n
  · rw [if_pos (coversWord_iff.2 hw), if_pos hw]
  · rw [if_neg (mt coversWord_iff.1 hw), if_neg hw]

theorem State.windowRead_misfit (h : ¬ (controlBase ≤ o ∧ accessFits o n = true)) :
    s.windowRead o n = { s with port := { s.port with readData := List.replicate n 0 } } := by
  have hfits : (decide (controlBase ≤ o) && accessFits o n) = false := by
    rw [Bool.eq_false_iff, ne_eq, Bool.and_eq_true, decide_eq_true_eq]
    exact h
  unfold State.windowRead State.windowData
  simp only [hfits, Bool.false_and, Bool.false_eq_true, if_false, if_neg h]
  rfl

section
variable (h : controlBase ≤ o ∧ accessFits o n = true)
include h

/-- R88, R166, R169: what a read that fits returns and clears. -/
theorem State.windowRead_fits : s.windowRead o n = { s with
    port := { s.port with
      readData := s.windowData o n,
      summary := if o ≤ 0x4000014 ∧ 0x4000014 < o + n then 0 else s.port.summary,
      armed := if o ≤ 0x4000014 ∧ 0x4000014 < o + n then true else s.port.armed },
    assets := { s.assets with
      loadFault := if o ≤ 0x4000018 ∧ 0x4000018 < o + n then none else s.assets.loadFault } } := by
  have hfits : (decide (controlBase ≤ o) && accessFits o n) = true := by
    rw [Bool.and_eq_true, decide_eq_true_eq]
    exact h
  unfold State.windowRead
  simp only [hfits, Bool.true_and, readPort_eq, readAssets_eq]
  rfl

theorem State.windowData_length : (s.windowData o n).length = n := by
  rw [State.windowData, if_pos h, List.length_map, List.length_range]

theorem State.windowData_byte {j : Nat} (hj : j < n) :
    byteAt (s.windowData o n) j = byteAt (controlImage s) (o - controlBase + j) := by
  rw [State.windowData, if_pos h, byteAt_map_range hj, byteAt]

end

end

theorem accessFits_iff {o n : Nat} : accessFits o n = true ↔ (n = 4 ∨ n = 8) ∧ o % n = 0 := by
  rw [accessFits, Bool.and_eq_true, decide_eq_true_eq, decide_eq_true_eq]

/-- A read that fits, of a byte of a word. -/
theorem State.windowData_wordByte {s : State} {i w v o n j : Nat} (hp : (controlFields s)[i]? = some (leBytes 4 v))
    (hw : fieldOffset s i = w) (h : controlBase ≤ o ∧ accessFits o n = true) (hj : j < n) (hle : w ≤ o - controlBase + j)
    (hlt : o - controlBase + j < w + 4) : byteAt (s.windowData o n) j = v / 256 ^ (o - controlBase + j - w) % 256 :=
  (State.windowData_byte h hj).trans (controlImage_word s hp hw hle hlt)

/-- A read of a whole word. -/
theorem State.windowData_word {s : State} {i w v : Nat} (hp : (controlFields s)[i]? = some (leBytes 4 v))
    (hw : fieldOffset s i = w) (hfit : accessFits (controlBase + w) 4 = true) :
    s.windowData (controlBase + w) 4 = leBytes 4 v := by
  have h : controlBase ≤ controlBase + w ∧ accessFits (controlBase + w) 4 = true := ⟨Nat.le_add_right .., hfit⟩
  have hlen := State.windowData_length (s := s) h
  refine eq_of_byteAt (hlen.trans (leBytes_length 4 v).symm) fun j hj => ?_
  rw [hlen] at hj
  rw [State.windowData_wordByte hp hw h hj (by omega) (by omega), byteAt_leBytes hj, Nat.add_sub_cancel_left,
    Nat.add_sub_cancel_left]

/-- A read of both words of the load-fault record. -/
theorem State.windowData_fault (s : State) : s.windowData (controlBase + 0x18) 8 = loadFaultBytes s.assets.loadFault := by
  obtain ⟨_, _, _, _, _, h6, h7, _⟩ := fieldOffset_eq s
  have h : controlBase ≤ controlBase + 0x18 ∧ accessFits (controlBase + 0x18) 8 = true := ⟨Nat.le_add_right .., by decide⟩
  have hlen := State.windowData_length (s := s) h
  have hlow := leBytes_length 4 (faultWord s.assets.loadFault)
  rw [loadFaultBytes_eq]
  refine eq_of_byteAt (by rw [hlen, List.length_append, leBytes_length, leBytes_length]) fun j hj => ?_
  rw [hlen] at hj
  by_cases hhalf : j < 4
  · rw [State.windowData_wordByte (i := 6) rfl h6 h hj (by omega) (by omega), byteAt_append_left (by omega),
      byteAt_leBytes hhalf, Nat.add_sub_cancel_left, Nat.add_sub_cancel_left]
  · obtain ⟨k, rfl⟩ := Nat.exists_eq_add_of_le (Nat.not_lt.1 hhalf)
    have hplace : controlBase + 0x18 - controlBase + (4 + k) - 0x1C = k := by omega
    have hright := byteAt_append_right (leBytes 4 (faultWord s.assets.loadFault)) (leBytes 4 (faultOffset s.assets.loadFault)) k
    rw [hlow] at hright
    rw [State.windowData_wordByte (i := 7) rfl h7 h hj (by omega) (by omega), hplace, hright, byteAt_leBytes (by omega)]

/-- The fields of the load-fault record read back. -/
theorem loadFaultBytes_read {f : LoadFault} (hf : f.offset < 16777216) :
    let bytes := loadFaultBytes (some f)
    leAt bytes 4 4 = f.offset ∧ byteAt bytes 2 = f.window.val ∧ byteAt bytes 0 = (if f.more then 3 else 1) ∧
      byteAt bytes 1 = f.kind.code := by
  have hoffset : f.offset < 4294967296 := hf.trans (by decide)
  have hwindow := f.window.isLt
  have hkind : f.kind.code < 4 := by cases f.kind <;> decide
  simp only [loadFaultBytes, leBytes, List.cons_append, List.nil_append, leAt_four, byteAt_cons_succ, byteAt_cons_zero,
    byteOf_toNat, four_bytes hoffset, true_and]
  split <;> omega

theorem faultWord_some (f : LoadFault) :
    faultWord (some f) = (if f.more then 3 else 1) + 65536 * f.window.val + 256 * f.kind.code := by
  rw [faultWord]
  split <;> omega

theorem faultOffset_eq (f : Option LoadFault) : faultOffset f = (f.map (·.offset)).getD 0 := by
  cases f <;> rfl

section
variable (s : State)

theorem State.windowRead_summaryWord : s.windowRead 0x4000014 4 = { s with
    port := { s.port with summary := 0, armed := true, readData := leBytes 4 s.port.summary.toNat } } := by
  obtain ⟨_, _, _, _, h5, _⟩ := fieldOffset_eq s
  have hfits : controlBase ≤ 0x4000014 ∧ accessFits 0x4000014 4 = true := ⟨by decide, by decide⟩
  have hdata : s.windowData 0x4000014 4 = leBytes 4 s.port.summary.toNat := State.windowData_word (i := 5) rfl h5 (by decide)
  rw [State.windowRead_fits hfits, hdata, if_neg (by decide), if_pos (by decide), if_pos (by decide)]

theorem State.windowRead_faultRecord : s.windowRead 0x4000018 8 = { s with
    port := { s.port with readData := loadFaultBytes s.assets.loadFault }, assets := { s.assets with loadFault := none } } := by
  have hfits : controlBase ≤ 0x4000018 ∧ accessFits 0x4000018 8 = true := ⟨by decide, by decide⟩
  have hdata : s.windowData 0x4000018 8 = loadFaultBytes s.assets.loadFault := s.windowData_fault
  rw [State.windowRead_fits hfits, hdata, if_pos (by decide), if_neg (by decide), if_neg (by decide)]

theorem State.windowRead_faultOffset : s.windowRead 0x400001C 4 = { s with
    port := { s.port with readData := leBytes 4 ((s.assets.loadFault.map (·.offset)).getD 0) } } := by
  obtain ⟨_, _, _, _, _, _, h7, _⟩ := fieldOffset_eq s
  have hfits : controlBase ≤ 0x400001C ∧ accessFits 0x400001C 4 = true := ⟨by decide, by decide⟩
  have hdata : s.windowData 0x400001C 4 = leBytes 4 (faultOffset s.assets.loadFault) :=
    State.windowData_word (i := 7) rfl h7 (by decide)
  rw [State.windowRead_fits hfits, hdata, faultOffset_eq, if_neg (by decide), if_neg (by decide), if_neg (by decide)]

end

/-- Both reads of the content window are one read (R89, R166). -/
theorem exec_windowRead (s : State) (o : BitVec 27) (n : Nat) (t : State) (h : s.windowRead o.toNat n = t) :
    exec (.summaryWordRead o n) s = .next t ∧ exec (.loadFaultRecordRead o n) s = .next t :=
  ⟨congrArg Host.Outcome.next h, congrArg Host.Outcome.next h⟩

/-- Settles O51: the fixed reads, then a read that fits by the field its bytes are in. -/
theorem windowReadsReturnAndClear : Obligations.WindowReadsReturnAndClear := by
  unfold Obligations.WindowReadsReturnAndClear
  refine ⟨fun s o n ho => exec_windowRead _ _ _ _ (State.windowRead_misfit fun h => Nat.not_le.2 ho h.1), fun s => ?_,
    fun s o n ho hn hmod => ?_⟩
  · refine ⟨?_, ?_, ?_, fun o n ho hbad => exec_windowRead _ _ _ _ (State.windowRead_misfit fun h => ?_)⟩
    · exact (exec_windowRead s 0x4000014 4 _ s.windowRead_summaryWord).1
    · refine ⟨loadFaultBytes s.assets.loadFault, (exec_windowRead s 0x4000018 8 _ s.windowRead_faultRecord).2, ?_, fun hnone => ?_,
        fun f hf hoffset => ?_⟩
      · cases s.assets.loadFault <;> rfl
      · rw [hnone]
        rfl
      · obtain ⟨hplace, hwindow, hmore, hkind⟩ := loadFaultBytes_read hoffset
        rw [hf]
        refine ⟨hplace, hwindow, hmore, hkind.trans ?_⟩
        cases f.kind <;> rfl
    · exact (exec_windowRead s 0x400001C 4 _ s.windowRead_faultOffset).2
    · obtain ⟨hlen, hmod⟩ := accessFits_iff.1 h.2
      omega
  · have hfits : controlBase ≤ o.toNat ∧ accessFits o.toNat n = true := ⟨ho, accessFits_iff.2 ⟨hn, hmod⟩⟩
    obtain ⟨hsummary, hfault⟩ := exec_windowRead s o n _ (State.windowRead_fits hfits)
    refine ⟨s.windowData o.toNat n, hsummary, hfault, State.windowData_length hfits, fun j hj => ?_⟩
    have hbyte := State.windowData_byte (s := s) hfits hj
    rw [hbyte]
    have hplace : o.toNat - controlBase + j = o.toNat - 0x4000000 + j := rfl
    rw [hplace]
    generalize o.toNat - 0x4000000 + j = x
    intro a is word
    obtain ⟨h1, h2, h3, h4, h5, _, _, h8, _, h10, h11, _⟩ := fieldOffset_eq s
    have readWord := fun {i w v} => controlImage_word s (i := i) (w := w) (a := x) (v := v)
    refine ⟨readWord (i := 0) rfl rfl, fun ha => ?_, fun ha => ?_, fun ha => ?_, fun ha => ?_,
      readWord (i := 2) rfl h2, readWord (i := 3) rfl h3, readWord (i := 4) rfl h4, readWord (i := 5) rfl h5,
      fun hnone => ⟨controlImage_faultWord s hnone, controlImage_faultOffset s hnone⟩,
      fun f hf => ⟨controlImage_faultOffset s hf, fun hle hlt => (controlImage_faultWord s hf hle hlt).trans ?_⟩,
      fun k ha => ?_, controlImage_zeros s, fun ha => ?_, fun ha => ?_, fun ha => ?_, fun ha => ?_, controlImage_answer s⟩
    · exact controlImage_at s rfl h1 0 rfl ha
    · exact (controlImage_at s rfl h1 1 rfl ha).trans (flagByte_toNat _)
    · exact (controlImage_at s rfl h1 2 rfl ha).trans (byteOf_toNat _)
    · exact controlImage_at s rfl h1 3 rfl ha
    · rw [faultWord_some]
      cases f.kind <;> rfl
    · exact controlImage_at s rfl h8 k.val (by simp) ha
    · exact controlImage_at s rfl h10 0 rfl ha
    · exact controlImage_at s rfl h10 1 rfl ha
    · exact (controlImage_at s rfl h11 0 rfl ha).trans (byteOf_toNat _)
    · have htag := s.port.status.tag.isLt
      exact (controlImage_at s rfl h11 1 rfl ha).trans (byteOf_of_lt (by omega))

end Sys2Proof.Machine
end

section
/-! PROOF. SceneCommandsMoveScenes: panels and scenes named by their forms, and what SCENE_BEGIN, SCENE_SUBMIT and SCENE_DISCARD
make of a panel's scenes. -/

namespace Sys2Proof.Machine

/-! ### Panels and scenes by their forms (Table 12-6) -/

theorem panelOf_some {b : Byte} {p : Fin 4} (h : b.toNat = p.val) : panelOf b = some p := by
  rw [panelOf, dif_pos (h ▸ p.isLt)]
  exact congrArg some (Fin.ext h)

theorem panelOf_none {b : Byte} (h : 4 ≤ b.toNat) : panelOf b = none := dif_neg (Nat.not_lt.2 h)

theorem panelOf_byteOf (p : Fin 4) : panelOf (byteOf p.val) = some p :=
  panelOf_some (byteOf_of_lt (p.isLt.trans (by decide)))

/-- R102: the scene that a SCENE_BEGIN opens. -/
def SceneForm.scene (f : SceneForm) : Scene :=
  { background := { red := f.red, green := f.green, blue := f.blue }, dim := if f.dimGiven = 1 then f.dim else 96, layers := [] }

/-- A content command whose owner decides by the scenes and the asset map. -/
theorem command_completes_of_scenes {s : State} {i : Instr} {r : CommandRow} {owner : State → CommandResult}
    (hrow : commandRow i = some r)
    (hexec : exec i s = .next ((s.writeRecord ((0, [r.code]) :: r.fields)).takeCommand r.code r.go owner))
    (hl : s.nva.loading = false) {effect : State → State} {st : ContentStatus} {answer : List Byte}
    (ho : ∀ t : State, t.scenes = s.scenes → t.assets = s.assets → owner t = ⟨effect t, st, answer⟩) :
    s.Completes i effect st answer :=
  command_completes hrow hexec hl (ho _ (State.taken_scenes s r) (State.taken_assets s r))

/-! ### SCENE_BEGIN (R102) -/

section
variable {f : SceneForm}

theorem sceneBeginOwner_taken {p : Fin 4} (hp : f.panel.toNat = p.val) (hgiven : f.dimGiven.toNat ≤ 1) (s : State) :
    sceneBeginOwner f s = ⟨({ s with assets := s.assets.releaseScene s.scenes.panels[p].building }).setScenes p
      { s.scenes.panels[p] with building := some f.scene }, .ok, []⟩ := by
  have hone : f.dimGiven.toNat = 1 ↔ f.dimGiven = 1 := BitVec.toNat_inj (y := 1)
  simp only [sceneBeginOwner, panelOf_some hp, switchOf_flag hgiven, decide_eq_true_eq, hone, standardDim]
  rfl

theorem sceneBeginOwner_badValue (h : 4 ≤ f.panel.toNat ∨ 2 ≤ f.dimGiven.toNat) (s : State) :
    sceneBeginOwner f s = refuse s .badValue := by
  unfold sceneBeginOwner
  split
  · rename_i hpanel hgiven
    rcases h with h | h
    · rw [panelOf_none h] at hpanel
      cases hpanel
    · rw [switchOf_none h] at hgiven
      cases hgiven
  · rfl

end

/-! ### SCENE_SUBMIT and SCENE_DISCARD (R105, R106) -/

section
variable {a : Byte}

theorem sceneOwners_badValue (h : 4 ≤ a.toNat) (s : State) :
    sceneSubmitOwner a s = refuse s .badValue ∧ sceneDiscardOwner a s = refuse s .badValue := by
  simp only [sceneSubmitOwner, sceneDiscardOwner, panelOf_none h, and_self]

section
variable {s : State} {p : Fin 4} (ha : panelOf a = some p)
include ha

theorem sceneOwners_noScene (h : s.scenes.panels[p].building = none) :
    sceneSubmitOwner a s = refuse s .noScene ∧ sceneDiscardOwner a s = refuse s .noScene := by
  simp only [sceneSubmitOwner, sceneDiscardOwner, ha, h, and_self]

theorem sceneSubmitOwner_taken {sc : Scene} (h : s.scenes.panels[p].building = some sc) : sceneSubmitOwner a s =
    ⟨({ s with assets := s.assets.releaseScene s.scenes.panels[p].pending }).setScenes p
      { s.scenes.panels[p] with building := none, pending := some sc }, .ok,
      [byteOf sc.layers.length, byteOf sc.priceCount]⟩ := by
  simp only [sceneSubmitOwner, ha, h]

theorem sceneDiscardOwner_taken {sc : Scene} (h : s.scenes.panels[p].building = some sc) :
    sceneDiscardOwner a s = ⟨s.discardBuilding p, .ok, []⟩ := by
  simp only [sceneDiscardOwner, ha, h]

end

end

/-- Settles O48: each command by its owner's branch for the panel named and its building scene. -/
theorem sceneCommandsMoveScenes : Obligations.SceneCommandsMoveScenes := by
  unfold Obligations.SceneCommandsMoveScenes
  intro s go p hl
  dsimp only
  have hpanel := panelOf_byteOf p
  refine ⟨fun f hp hgiven => ?_, fun f hbad => ?_, fun sc hsc _ => ⟨?_, ?_⟩, fun hnone => ⟨?_, ?_⟩, fun a ha => ⟨?_, ?_⟩⟩
  all_goals refine command_completes_of_scenes rfl rfl hl fun t hscenes _ => ?_
  · rw [sceneBeginOwner_taken hp hgiven, hscenes]
    rfl
  · exact sceneBeginOwner_badValue hbad t
  · rw [sceneSubmitOwner_taken hpanel (hscenes ▸ hsc), hscenes]
  · rw [sceneDiscardOwner_taken hpanel (hscenes ▸ hsc), State.discardBuilding, hscenes]
  · exact (sceneOwners_noScene hpanel (hscenes ▸ hnone)).1
  · exact (sceneOwners_noScene hpanel (hscenes ▸ hnone)).2
  · exact (sceneOwners_badValue ha t).1
  · exact (sceneOwners_badValue ha t).2

end Sys2Proof.Machine
end

section
/-! PROOF. LayerAddedAfterEightChecks: the layer that a LAYER_ADD describes, its asset, and the checks in order. -/

namespace Sys2Proof.Machine

/-! ### The layer a form describes (R103, checks 2 and 3) -/

theorem soldOutOf_isSome {n : Nat} : (soldOutOf n).isSome = true ↔ n ≤ 3 := by
  rcases n with _ | _ | _ | _ | n <;> simp [soldOutOf]

theorem soldOutOf_always {n : Nat} : soldOutOf n = some .always ↔ n = 0 := by
  rcases n with _ | _ | _ | _ | n <;> simp [soldOutOf]

/-- R103: the fields that every kind of layer carries hold listed values. -/
def LayerForm.commonLegal (f : LayerForm) : Prop :=
  f.x.toNat ≤ 4095 ∧ f.y.toNat ≤ 4095 ∧ 1 ≤ f.w.toNat ∧ f.w.toNat ≤ 4096 ∧ 1 ≤ f.h.toNat ∧ f.h.toNat ≤ 4096 ∧
    1 ≤ f.mask.toNat ∧ f.mask.toNat ≤ 15 ∧ f.soldOut.toNat ≤ 3 ∧ f.code.toNat ≤ 65534 ∧ (f.code = 0 → f.soldOut = 0)

/-- R103: the form is that of a PHOTO layer. -/
def LayerForm.isPhoto (f : LayerForm) : Prop := f.kind = 1 ∧ 1 ≤ f.handle.toNat ∧ f.handle.toNat ≤ 255

/-- R103: the form is that of a PRICE layer, which has an item. -/
def LayerForm.isPrice (f : LayerForm) : Prop := f.kind = 2 ∧ f.code ≠ 0 ∧ f.style.toNat ≤ 15

/-- R103: the form is that of a FILL layer. -/
def LayerForm.isFill (f : LayerForm) : Prop := f.kind = 3

/-- R103, checks 2 and 3: the form describes a layer. -/
def LayerForm.legal (f : LayerForm) : Prop := f.commonLegal ∧ (f.isPhoto ∨ f.isPrice ∨ f.isFill)

/-- The fields of a form that name this content. -/
def LayerForm.Carries (f : LayerForm) : LayerContent → Prop
  | .photo h => f.kind = 1 ∧ f.handle.toNat = h.val + 1
  | .price k => f.kind = 2 ∧ f.style.toNat = k.val
  | .fill colour => f.kind = 3 ∧ colour = { red := f.red, green := f.green, blue := f.blue }

/-- The layer of a form with this sold-out rule and this content. -/
def LayerForm.record (f : LayerForm) (rule : SoldOutRule) (c : LayerContent) : Layer :=
  { x := f.x.toNat, y := f.y.toNat, w := f.w.toNat, h := f.h.toNat, alpha := f.alpha, mask := f.mask.setWidth 4,
    soldOut := rule, code := f.item, content := c }

section
variable {f : LayerForm} {c : LayerContent} {rule : SoldOutRule}

theorem LayerForm.content_eq_some : f.content = some c ↔ f.Carries c := by
  have hkind : ∀ n : Byte, f.kind = n ↔ f.kind.toNat = n.toNat := fun n => BitVec.toNat_inj.symm
  unfold LayerForm.content
  split
  · rename_i h
    cases c <;> simp [LayerForm.Carries, hkind, h, handleOf_eq_some]
  · rename_i h
    cases c with
    | price k =>
      have hk := k.isLt
      simp only [LayerForm.Carries, hkind, h, Option.dite_none_right_eq_some, Option.some.injEq, LayerContent.price.injEq,
        Fin.ext_iff]
      exact ⟨fun ⟨_, hstyle⟩ => ⟨rfl, hstyle⟩, fun ⟨_, hstyle⟩ => ⟨by omega, hstyle⟩⟩
    | photo _ => simp [LayerForm.Carries, hkind, h]
    | fill _ => simp [LayerForm.Carries, hkind, h]
  · rename_i h
    cases c <;> simp [LayerForm.Carries, hkind, h, eq_comm]
  · rename_i hphoto hprice hfill
    simp only [reduceCtorEq, false_iff]
    cases c with
    | photo _ => exact fun h => hphoto ((hkind 1).1 h.1)
    | price _ => exact fun h => hprice ((hkind 2).1 h.1)
    | fill _ => exact fun h => hfill ((hkind 3).1 h.1)

theorem LayerForm.Carries.unique {d : LayerContent} (hc : f.Carries c) (hd : f.Carries d) : c = d :=
  Option.some_inj.1 ((LayerForm.content_eq_some.2 hc).symm.trans (LayerForm.content_eq_some.2 hd))

theorem LayerForm.item_eq : f.item = if f.code = 0 then none else some f.code.toNat := by
  have hzero : f.code.toNat = 0 ↔ f.code = 0 := BitVec.toNat_inj (y := 0)
  simp only [LayerForm.item, hzero]

theorem LayerForm.record_isPrice (hc : f.Carries c) : (f.record rule c).isPrice = true ↔ f.kind = 2 := by
  cases c with
  | photo h => simp [LayerForm.record, Layer.isPrice, hc.1]
  | price k => simp [LayerForm.record, Layer.isPrice, hc.1]
  | fill colour => simp [LayerForm.record, Layer.isPrice, hc.1]

/-- R103, checks 2 and 3, once the kind and the sold-out rule are named. -/
def LayerForm.passes (f : LayerForm) (rule : SoldOutRule) (c : LayerContent) : Bool :=
  f.fieldsValid && f.item.all validCode && (f.item.isSome || (!(f.record rule c).isPrice && decide (rule = .always)))

theorem LayerForm.layer_eq (hc : f.Carries c) (hrule : soldOutOf f.soldOut.toNat = some rule) :
    f.layer = if f.passes rule c then some (f.record rule c) else none := by
  rw [LayerForm.layer, LayerForm.content_eq_some.2 hc, hrule]
  rfl

/-- The checks pass when the common fields are legal and a PRICE layer has an item. -/
theorem LayerForm.passes_iff (hc : f.Carries c) (hrule : soldOutOf f.soldOut.toNat = some rule) :
    f.passes rule c = true ↔ f.commonLegal ∧ (f.kind = 2 → f.code ≠ 0) := by
  have hsold := soldOutOf_isSome.1 (Option.isSome_of_eq_some hrule)
  have halways : rule = .always ↔ f.soldOut = 0 := by
    rw [← Option.some_inj, ← hrule, soldOutOf_always]
    exact BitVec.toNat_inj (y := 0)
  have hitem : f.item.all validCode = true ↔ f.code.toNat ≤ 65534 := by
    unfold LayerForm.item
    split <;> simp [validCode] <;> omega
  have hsome : f.item.isSome = true ↔ f.code ≠ 0 := by
    rw [LayerForm.item_eq]
    split <;> simp only [Option.isSome_none, Option.isSome_some, Bool.false_eq_true, *, ne_eq, not_true, not_false_iff]
  have hprice : (f.record rule c).isPrice = false ↔ f.kind ≠ 2 := by
    rw [← Bool.not_eq_true, LayerForm.record_isPrice hc]
  simp only [LayerForm.passes, LayerForm.fieldsValid, Bool.and_eq_true, Bool.or_eq_true, Bool.not_eq_true',
    decide_eq_true_eq, hitem, hsome, hprice, halways, LayerForm.commonLegal]
  tauto

theorem LayerForm.Carries.isPhoto {h : Handle} (hc : f.Carries (.photo h)) : f.isPhoto :=
  ⟨hc.1, by rw [hc.2]; omega, by rw [hc.2]; exact h.isLt⟩

/-- A form of one of the three kinds carries a content, and names an item for a PRICE layer. -/
theorem LayerForm.kinds_iff : (f.isPhoto ∨ f.isPrice ∨ f.isFill) ↔ ∃ c, f.Carries c ∧ (f.kind = 2 → f.code ≠ 0) := by
  constructor
  · rintro (⟨hkind, hlow, hhigh⟩ | ⟨hkind, hcode, hstyle⟩ | hkind)
    · exact ⟨.photo ⟨f.handle.toNat - 1, by omega⟩, ⟨hkind, by dsimp only; omega⟩, fun h => by rw [hkind] at h; cases h⟩
    · exact ⟨.price ⟨f.style.toNat, by omega⟩, ⟨hkind, rfl⟩, fun _ => hcode⟩
    · exact ⟨.fill _, ⟨hkind, rfl⟩, fun h => by rw [LayerForm.isFill, h] at hkind; cases hkind⟩
  · rintro ⟨c, hc, hitem⟩
    cases c with
    | photo h => exact .inl hc.isPhoto
    | price k => exact .inr (.inl ⟨hc.1, hitem hc.1, by rw [hc.2]; omega⟩)
    | fill colour => exact .inr (.inr hc.1)

/-- A form is legal when it names a rule and a content that pass. -/
theorem LayerForm.legal_iff :
    f.legal ↔ ∃ rule c, soldOutOf f.soldOut.toNat = some rule ∧ f.Carries c ∧ f.passes rule c = true := by
  constructor
  · rintro ⟨hcommon, hkinds⟩
    have ⟨_, _, _, _, _, _, _, _, hsold, _, _⟩ := hcommon
    obtain ⟨rule, hrule⟩ := Option.isSome_iff_exists.1 (soldOutOf_isSome.2 hsold)
    obtain ⟨c, hc, hitem⟩ := LayerForm.kinds_iff.1 hkinds
    exact ⟨rule, c, hrule, hc, (LayerForm.passes_iff hc hrule).2 ⟨hcommon, hitem⟩⟩
  · rintro ⟨rule, c, hrule, hc, hpasses⟩
    obtain ⟨hcommon, hitem⟩ := (LayerForm.passes_iff hc hrule).1 hpasses
    exact ⟨hcommon, LayerForm.kinds_iff.2 ⟨c, hc, hitem⟩⟩

theorem LayerForm.legal.isPrice (h : f.legal) (hkind : f.kind = 2) : f.isPrice := by
  obtain ⟨-, hphoto | hprice | hfill⟩ := h
  · exact absurd (hphoto.1.symm.trans hkind) (by decide)
  · exact hprice
  · exact absurd (hfill.symm.trans hkind) (by decide)

theorem LayerForm.layer_of_not_legal (h : ¬ f.legal) : f.layer = none := by
  refine Option.eq_none_iff_forall_ne_some.2 fun l hl => h ?_
  unfold LayerForm.layer at hl
  split at hl
  · rename_i hc hrule
    exact LayerForm.legal_iff.2 ⟨_, _, hrule, LayerForm.content_eq_some.1 hc, (Option.ite_none_right_eq_some.1 hl).1⟩
  · cases hl

end

/-! ### The asset of a PHOTO layer (R103, checks 5 and 6) -/

section
variable {m : AssetMap} {l : Layer} {h : Handle}

theorem photoStatus_notReady (hl : l.content = .photo h) (hno : ∀ g pages n, m.entry h ≠ .ready g pages n) :
    photoStatus m l = some .notReady := by
  unfold photoStatus
  rw [hl]
  dsimp only
  split
  · rename_i g pages n he
    exact absurd he (hno g pages n)
  all_goals rfl

theorem photoStatus_ready_eq (hl : l.content = .photo h) {g : Geometry} {pages : List Nat} {n : Nat}
    (he : m.entry h = .ready g pages n) :
    photoStatus m l = if g.format ≠ .a8 ∧ l.w ≤ g.width ∧ l.h ≤ g.height then none else some .badValue := by
  unfold photoStatus
  rw [hl]
  dsimp only
  rw [he]

theorem photoStatus_none (hl : ∀ h, l.content ≠ .photo h) : photoStatus m l = none := by
  unfold photoStatus
  split
  · rfl
  · rfl
  · rename_i h hphoto
    exact absurd hphoto (hl h)

end

/-- Checks 5 and 6 pass for a PHOTO whose asset fits, and for every other layer. -/
theorem LayerForm.photoStatus_fits {m : AssetMap} {f : LayerForm} {c : LayerContent} {rule : SoldOutRule} (hc : f.Carries c)
    (hgood : ∀ h : Handle, f.isPhoto → f.handle.toNat = h.val + 1 → ∃ g pages n, m.entry h = .ready g pages n ∧
      g.format ≠ .a8 ∧ f.w.toNat ≤ g.width ∧ f.h.toNat ≤ g.height) : photoStatus m (f.record rule c) = none := by
  cases c with
  | photo h =>
    obtain ⟨g, pages, n, he, hfits⟩ := hgood h hc.isPhoto hc.2
    exact (photoStatus_ready_eq rfl he).trans (if_pos hfits)
  | price k => exact photoStatus_none nofun
  | fill colour => exact photoStatus_none nofun

/-! ### The command (R103, R104) -/

theorem Scene.priceCount_add (sc : Scene) (l : Layer) :
    (sc.add l).priceCount = sc.priceCount + if l.isPrice = true then 1 else 0 := by
  rw [Scene.priceCount, Scene.add, List.filter_append, List.length_append]
  cases h : l.isPrice <;> simp [Scene.priceCount, h]

theorem layerAddOwner_badValue {f : LayerForm} (h : 4 ≤ f.panel.toNat ∨ ¬ f.legal) (s : State) :
    layerAddOwner f s = refuse s .badValue := by
  unfold layerAddOwner
  split
  · rename_i hpanel hlayer
    rcases h with h | h
    · rw [panelOf_none h] at hpanel
      cases hpanel
    · rw [LayerForm.layer_of_not_legal h] at hlayer
      cases hlayer
  · rfl

section
variable {f : LayerForm} {s : State} {p : Fin 4} {l : Layer} (hp : f.panel.toNat = p.val) (hl : f.layer = some l)
include hp hl

theorem layerAddOwner_noScene (hb : s.scenes.panels[p].building = none) : layerAddOwner f s = refuse s .noScene := by
  simp only [layerAddOwner, panelOf_some hp, hl, hb]

/-- R103: the checks that follow that of the building scene. -/
theorem layerAddOwner_building {sc : Scene} (hb : s.scenes.panels[p].building = some sc) : layerAddOwner f s =
    (photoStatus s.assets l).elim
      (if 64 ≤ sc.layers.length then refuse s .sceneFull
        else if l.isPrice = true ∧ 32 ≤ sc.priceCount then refuse s .priceLayersFull else addLayer s p sc l)
      (refuse s) := by
  simp only [layerAddOwner, panelOf_some hp, hl, hb, Bool.and_eq_true, decide_eq_true_eq]
  cases photoStatus s.assets l <;> rfl

end

/-- Settles O49: the checks by the layer that the form describes, by its asset's entry and by the counts of the scene. -/
theorem layerAddedAfterEightChecks : Obligations.LayerAddedAfterEightChecks := by
  unfold Obligations.LayerAddedAfterEightChecks
  intro s go f hl common photo price fill valid
  have run := fun effect st answer => command_completes_of_scenes (i := .layerAdd go f) (r := ⟨0x11, go, f.fields⟩)
    (owner := layerAddOwner f) rfl rfl hl (effect := effect) (st := st) (answer := answer)
  refine ⟨fun hbad => run id _ _ fun t _ _ => layerAddOwner_badValue hbad t, fun p hp hvalid hnone => ?_,
    fun p sc hp hvalid hsc => ?_⟩
  all_goals
    obtain ⟨rule, c, hrule, hc, hpasses⟩ := LayerForm.legal_iff.1 hvalid
    have hlayer := (LayerForm.layer_eq hc hrule).trans (if_pos hpasses)
  · exact run id _ _ fun t hscenes _ => layerAddOwner_noScene hp hlayer (by rw [hscenes, hnone])
  have building := fun (t : State) (hscenes : t.scenes = s.scenes) (hassets : t.assets = s.assets) =>
    hassets ▸ layerAddOwner_building (s := t) hp hlayer (by rw [hscenes, hsc])
  have named : ∀ h : Handle, photo → f.handle.toNat = h.val + 1 → (f.record rule c).content = .photo h :=
    fun h hphoto hh => hc.unique ⟨hphoto.1, hh⟩
  refine ⟨fun h hphoto hh hno => ?_, fun h g pages n hphoto hh he hbad => ?_, fun hgood => ?_⟩
  · refine run id _ _ fun t hscenes hassets => ?_
    rw [building t hscenes hassets, photoStatus_notReady (named h hphoto hh) hno]
    rfl
  · refine run id _ _ fun t hscenes hassets => ?_
    have hunfit : ¬ (g.format ≠ .a8 ∧ f.w.toNat ≤ g.width ∧ f.h.toNat ≤ g.height) := fun ⟨hformat, hw, hh⟩ =>
      hbad.elim hformat (by omega)
    rw [building t hscenes hassets, (photoStatus_ready_eq (named h hphoto hh) he).trans (if_neg hunfit)]
    rfl
  have hstatus := LayerForm.photoStatus_fits (rule := rule) hc hgood
  have hprice := f.record_isPrice (rule := rule) hc
  refine ⟨fun hfull => ?_, fun hroom hisPrice hfull => ?_, fun hroom hprices => ?_⟩
  · refine run id _ _ fun t hscenes hassets => ?_
    rw [building t hscenes hassets, hstatus, Option.elim_none, if_pos hfull]
    rfl
  · refine run id _ _ fun t hscenes hassets => ?_
    rw [building t hscenes hassets, hstatus, Option.elim_none, if_neg (Nat.not_le.2 hroom),
      if_pos ⟨hprice.2 hisPrice.1, hfull⟩]
    rfl
  · have hunfilled : ¬ ((f.record rule c).isPrice = true ∧ 32 ≤ sc.priceCount) := fun ⟨h, hcount⟩ =>
      Nat.not_lt.2 hcount (hprices (LayerForm.legal.isPrice hvalid (hprice.1 h)))
    have hmask : f.mask.toNat < 16 := by
      obtain ⟨⟨_, _, _, _, _, _, _, hmask, _⟩, -⟩ := hvalid
      omega
    refine ⟨f.record rule c, ⟨rfl, rfl, rfl, rfl, rfl, (BitVec.toNat_setWidth ..).trans (Nat.mod_eq_of_lt hmask), hrule,
      f.item_eq⟩, fun hfill => hc.unique ⟨hfill, rfl⟩,
      fun hisPrice => ⟨⟨f.style.toNat, by omega⟩, rfl, hc.unique ⟨hisPrice.1, rfl⟩⟩,
      fun hphoto => ⟨⟨f.handle.toNat - 1, by omega⟩, by dsimp only; omega, named _ hphoto (by dsimp only; omega)⟩, ?_⟩
    refine run _ _ _ fun t hscenes hassets => ?_
    rw [building t hscenes hassets, hstatus, Option.elim_none, if_neg (Nat.not_le.2 hroom), if_neg hunfilled, addLayer,
      Scene.priceCount_add, hscenes]
    simp only [hprice]
    cases c <;> rfl

end Sys2Proof.Machine
end

section
/-! PROOF. StatusQueryReports: truth values as bits, the fields of the head of the report and of a panel block, and where each
panel block stands in the report. -/

namespace Sys2Proof.Machine

/-! ### Truth values as bits -/

theorem bitsOf_lt (l : List Bool) : bitsOf l < 2 ^ l.length := by
  induction l with
  | nil => exact Nat.one_pos
  | cons b l ih =>
    rw [bitsOf, List.length_cons, Nat.pow_succ]
    split <;> omega

theorem testBit_bitsOf (l : List Bool) (i : Nat) : (bitsOf l).testBit i = l.getD i false := by
  induction l generalizing i with
  | nil => simp [bitsOf]
  | cons b l ih =>
    have hbit : bitsOf (b :: l) = Nat.bit b (bitsOf l) := by
      cases b <;> simp [bitsOf, Nat.bit, Nat.add_comm]
    rw [hbit]
    cases i with
    | zero => simp
    | succ i => rw [Nat.testBit_bit_succ, ih, List.getD_cons_succ]

/-- Up to eight truth values in a byte. -/
theorem testBit_byteOf_bitsOf {l : List Bool} (h : l.length ≤ 8) (i : Nat) :
    (byteOf (bitsOf l)).toNat.testBit i = l.getD i false := by
  have hlt : bitsOf l < 256 := (bitsOf_lt l).trans_le (Nat.pow_le_pow_right (by decide) h)
  rw [byteOf_of_lt hlt, testBit_bitsOf]

/-- A number below 8 with a mark in bit 7. -/
theorem marked_byte {n : Nat} (h : n < 8) (b : Bool) :
    (byteOf (n + if b then 128 else 0)).toNat % 8 = n ∧ (byteOf (n + if b then 128 else 0)).toNat.testBit 7 = b := by
  rw [byteOf_of_lt (by split <;> omega), Nat.testBit_eq_decide_div_mod_eq]
  cases b <;> simp <;> omega

/-! ### The panel block (Table 12-7) -/

/-- The layer count of a scene, zero where there is none. -/
def layerCount (o : Option Scene) : Nat := (o.map (fun sc => sc.layers.length)).getD 0

/-- The PRICE layer count of a scene, zero where there is none. -/
def priceLayerCount (o : Option Scene) : Nat := (o.map Scene.priceCount).getD 0

theorem sceneCounts_eq (o : Option Scene) : sceneCounts o = [byteOf (layerCount o), byteOf (priceLayerCount o)] := by
  cases o <;> rfl

theorem sceneCounts_lt {o : Option Scene} (h : ∀ sc, o = some sc → sc.layers.length ≤ 64) :
    layerCount o < 256 ∧ priceLayerCount o < 256 := by
  cases o with
  | none => exact ⟨by decide, by decide⟩
  | some sc =>
    have hlayers := h sc rfl
    have hprices : sc.priceCount ≤ sc.layers.length := List.length_filter_le ..
    exact ⟨show sc.layers.length < 256 by omega, show sc.priceCount < 256 by omega⟩

theorem pendingSettingsBytes_eq (o : Option PanelSettings) : pendingSettingsBytes o =
    [flagByte o.isSome, (o.map fun n => flagByte n.enable).getD 0, (o.map fun n => n.resolution.code).getD 0] := by
  cases o <;> rfl

/-- The bytes of a panel block one by one. -/
theorem panelBlock_eq (s : State) (p : Fin 4) : panelBlock s p =
    let r := s.panel.panels[p]
    let v := s.scenes.panels[p]
    [flagByte r.installed.enable, r.installed.resolution.code, flagByte r.pendingSettings.isSome,
      (r.pendingSettings.map fun n => flagByte n.enable).getD 0, (r.pendingSettings.map fun n => n.resolution.code).getD 0,
      byteOf (bitsOf [r.pendingCurve.isSome, r.pendingThermal.isSome]), r.thermalState.code, flagByte r.sensorFault,
      r.thermal.restart.code, 0]
      ++ leBytes 2 r.thermal.derateCap ++ leBytes 2 r.target ++ leBytes 2 r.applied ++ leBytes 2 r.lastAmbient
      ++ leBytes 2 r.lastThermistor
      ++ [byteOf (s.engine.frontIndex p).val, flagByte s.engine.outputs[p].showing,
        byteOf (bitsOf [v.building.isSome, v.pending.isSome, v.active.isSome]), byteOf (layerCount v.building),
        byteOf (priceLayerCount v.building), byteOf (layerCount v.pending), byteOf (priceLayerCount v.pending),
        byteOf (layerCount v.active), byteOf (priceLayerCount v.active), 0, 0, 0] := by
  rw [panelBlock, pendingSettingsBytes_eq, sceneCounts_eq, sceneCounts_eq, sceneCounts_eq]
  rfl

theorem panelBlock_length (s : State) (p : Fin 4) : (panelBlock s p).length = 32 := by
  rw [panelBlock_eq]
  rfl

/-! ### The report (Table 12-7) -/

/-- Table 12-7: what stands before the panel blocks. -/
def statusHead (s : State) : List Byte :=
  [loadByte s.nva.loading, commitByte s.stager.commit] ++ leBytes 2 s.stager.commitNumber.toNat
    ++ [byteOf s.daypart.live.val, s.engine.rate.byte, s.engine.job.code, byteOf s.engine.shown.length]
    ++ leBytes 2 s.engine.late ++ leBytes 2 s.checker.suspended.length
    ++ [flagByte s.checker.latch, flagByte s.checker.armed, byteOf s.checker.lastResult.code,
        byteOf (s.panel.scanPosition.val + (if s.panel.conversion.isSome then 128 else 0))]
    ++ zeros 12

theorem statusHead_length (s : State) : (statusHead s).length = 28 := rfl

theorem statusReport_eq (s : State) : statusReport s =
    [statusHead s, panelBlock s 0, panelBlock s 1, panelBlock s 2, panelBlock s 3].flatten := by
  simp only [statusReport, statusHead, List.flatten_cons, List.flatten_nil, List.append_assoc, List.append_nil]

/-- A byte of the head of the report. -/
theorem statusReport_byte (s : State) (i : Nat) {b : Byte} (h : (statusHead s)[i]? = some b) :
    byteAt (statusReport s) i = b.toNat := by
  obtain ⟨hi, -⟩ := List.getElem?_eq_some_iff.1 h
  rw [statusReport_eq, List.flatten_cons, byteAt_append_left hi, byteAt, List.getD_eq_getElem?_getD, h, Option.getD_some]

/-- A number of two bytes in the head of the report. -/
theorem statusReport_word (s : State) (i : Nat) {v : Nat} (hv : v < 65536) (hlow : (statusHead s)[i]? = some (byteOf v))
    (hhigh : (statusHead s)[i + 1]? = some (byteOf (v / 256))) : leAt (statusReport s) i 2 = v := by
  rw [leAt_two, statusReport_byte s i hlow, statusReport_byte s (i + 1) hhigh, byteOf_toNat, byteOf_toNat, two_bytes_le hv]

/-- A byte of a panel block. -/
theorem statusReport_panelByte {s : State} {p : Fin 4} {l : List Byte} (hl : panelBlock s p = l) (j : Nat) {b : Byte}
    (h : l[j]? = some b) : byteAt (statusReport s) (28 + 32 * p.val + j) = b.toNat := by
  subst hl
  have hblock := fun p => panelBlock_length s p
  have hhead := statusHead_length s
  have hpiece : [statusHead s, panelBlock s 0, panelBlock s 1, panelBlock s 2, panelBlock s 3][p.val + 1]? =
      some (panelBlock s p) := by
    match p with
    | 0 => rfl
    | 1 => rfl
    | 2 => rfl
    | 3 => rfl
  have hoffset : (([statusHead s, panelBlock s 0, panelBlock s 1, panelBlock s 2, panelBlock s 3].take
      (p.val + 1)).flatten).length = 28 + 32 * p.val := by
    match p with
    | 0 => simp [hhead]
    | 1 => simp [hhead, hblock]
    | 2 => simp [hhead, hblock]
    | 3 => simp [hhead, hblock]
  obtain ⟨hj, -⟩ := List.getElem?_eq_some_iff.1 h
  rw [statusReport_eq, ← hoffset, byteAt_flatten hpiece hj, byteAt, List.getD_eq_getElem?_getD, h, Option.getD_some]

/-- A number of two bytes in a panel block. -/
theorem statusReport_panelWord {s : State} {p : Fin 4} {l : List Byte} (hl : panelBlock s p = l) (j : Nat) {v : Nat}
    (hv : v < 65536) (hlow : l[j]? = some (byteOf v)) (hhigh : l[j + 1]? = some (byteOf (v / 256))) :
    leAt (statusReport s) (28 + 32 * p.val + j) 2 = v := by
  rw [leAt_two, statusReport_panelByte hl j hlow, Nat.add_assoc, statusReport_panelByte hl (j + 1) hhigh, byteOf_toNat,
    byteOf_toNat, two_bytes_le hv]

/-- A truth value in a panel block. -/
theorem statusReport_panelBit {s : State} {p : Fin 4} {l : List Byte} (hl : panelBlock s p = l) (j : Nat) {bits : List Bool}
    (h : l[j]? = some (byteOf (bitsOf bits))) (hbits : bits.length ≤ 8) (i : Nat) :
    (byteAt (statusReport s) (28 + 32 * p.val + j)).testBit i = bits.getD i false := by
  rw [statusReport_panelByte hl j h, testBit_byteOf_bitsOf hbits]

/-- R168: STATUS_QUERY is carried out during the start-up load too. -/
theorem statusQuery_completes (s : State) (go : BitVec 32) : s.Completes (.statusQuery go) id .ok (statusReport s) := by
  refine ⟨⟨0x41, go, []⟩, rfl, congrArg Host.Outcome.next ?_⟩
  have htaken : (s.writeRecord [(0, [0x41])]).tagged go = s.taken ⟨0x41, go, []⟩ := rfl
  rw [takeStatusQuery, State.takeCommand_owner (.inr rfl), htaken]
  rfl

/-- Settles O54: each field by its byte of the head or of its panel's block. -/
theorem statusQueryReports : Obligations.StatusQueryReports := by
  unfold Obligations.StatusQueryReports
  intro s go hlate hsuspended hshown hpanels hlayers
  have head := fun i {b} => statusReport_byte s i (b := b)
  have headWord := fun i {v} => statusReport_word s i (v := v)
  refine ⟨statusReport s, statusQuery_completes s go, (head 0 rfl).trans ?_, (head 1 rfl).trans ?_,
    headWord 2 s.stager.commitNumber.isLt rfl rfl, (head 4 rfl).trans (byteOf_of_lt (by omega)), (head 5 rfl).trans ?_,
    (head 6 rfl).trans ?_, (head 7 rfl).trans (byteOf_of_lt (by omega)), headWord 8 hlate rfl rfl,
    headWord 10 (by omega) rfl rfl, (head 12 rfl).trans (flagByte_toNat _), (head 13 rfl).trans (flagByte_toNat _),
    (head 14 rfl).trans ?_, ?_, ?_, fun p => ?_⟩
  · cases s.nva.loading <;> rfl
  · cases s.stager.commit with
    | none => rfl
    | some c =>
      simp only [commitByte]
      cases c.state <;> rfl
  · cases s.engine.rate <;> rfl
  · cases s.engine.job <;> rfl
  · cases s.checker.lastResult <;> rfl
  · rw [head 15 rfl]
    exact (marked_byte s.panel.scanPosition.isLt _).1
  · rw [head 15 rfl]
    exact (marked_byte s.panel.scanPosition.isLt _).2
  · intro b q v count prices
    have byte := fun j {x} => statusReport_panelByte (panelBlock_eq s p) j (b := x)
    have word := fun j {x} => statusReport_panelWord (panelBlock_eq s p) j (v := x)
    have bit := fun j {x} => statusReport_panelBit (panelBlock_eq s p) j (bits := x)
    obtain ⟨hambient, hthermistor, hcap, htarget, happlied⟩ : q.lastAmbient < 1024 ∧ q.lastThermistor < 1024 ∧
      q.thermal.derateCap ≤ 1000 ∧ q.target ≤ 1000 ∧ q.applied ≤ 1000 := hpanels p
    have hbuilding := sceneCounts_lt fun sc h => hlayers p sc (.inl h)
    have hpending := sceneCounts_lt fun sc h => hlayers p sc (.inr (.inl h))
    have hactive := sceneCounts_lt fun sc h => hlayers p sc (.inr (.inr h))
    refine ⟨(byte 0 rfl).trans (flagByte_toNat _), byte 1 rfl, fun hnone => ?_, fun n hsome => ?_, bit 5 rfl (by simp) 0,
      bit 5 rfl (by simp) 1, (byte 6 rfl).trans ?_, (byte 7 rfl).trans (flagByte_toNat _), (byte 8 rfl).trans ?_,
      word 10 (by omega) rfl rfl, word 12 (by omega) rfl rfl, word 14 (by omega) rfl rfl, word 16 (by omega) rfl rfl,
      word 18 (by omega) rfl rfl, (byte 20 rfl).trans (byteOf_of_lt ((s.engine.frontIndex p).isLt.trans (by decide))),
      (byte 21 rfl).trans (flagByte_toNat _), bit 22 rfl (by simp) 0, bit 22 rfl (by simp) 1, bit 22 rfl (by simp) 2,
      (byte 23 rfl).trans (byteOf_of_lt hbuilding.1), (byte 24 rfl).trans (byteOf_of_lt hbuilding.2),
      (byte 25 rfl).trans (byteOf_of_lt hpending.1), (byte 26 rfl).trans (byteOf_of_lt hpending.2),
      (byte 27 rfl).trans (byteOf_of_lt hactive.1), (byte 28 rfl).trans (byteOf_of_lt hactive.2)⟩
    · refine ⟨(byte 2 rfl).trans ?_, (byte 3 rfl).trans ?_, (byte 4 rfl).trans ?_⟩ <;> · rw [hnone]; rfl
    · refine ⟨(byte 2 rfl).trans ?_, (byte 3 rfl).trans ?_, (byte 4 rfl).trans ?_⟩ <;> rw [hsome]
      · rfl
      · exact flagByte_toNat _
      · rfl
    · cases q.thermalState <;> rfl
    · cases q.thermal.restart <;> rfl

end Sys2Proof.Machine
end

section
/-! PROOF. LayerHiddenOrBlended: the visibility test of a layer by its mask, its item and its item's record, and the rectangle that
a PHOTO or FILL layer blends. -/

namespace Sys2Proof.Machine

/-! ### Layers that the visibility test hides (R111 to R113) -/

section
variable {s : State} {l : Layer} {code : Nat} {i : ItemIndex} {it : Item}

theorem State.visibility_masked (hm : l.mask.getLsbD s.daypart.live.val = false) : s.visibility l = (s, .hidden) := by
  simp only [State.visibility, hm, Bool.not_false, if_true]

theorem State.visibility_missing (hcode : l.code = some code) (h : s.table.has code = false) :
    s.visibility l = (s, .hidden) := by
  have hindex : s.table.indexOf code = none := Option.not_isSome_iff_eq_none.1 (Bool.eq_false_iff.1 h)
  simp [State.visibility, hcode, hindex]

theorem State.visibility_unbound (hm : l.mask.getLsbD s.daypart.live.val = true) (hcode : l.code = none) :
    s.visibility l = (s, .drawn false) := by
  simp [State.visibility, hm, hcode]

section
variable (hcode : l.code = some code) (hi : s.table.indexOf code = some i) (hit : s.table.item i = some it)
include hcode hi hit

theorem State.visibility_soldOutRule (h : l.soldOut.passes it.avail = none) : s.visibility l = (s, .hidden) := by
  simp [State.visibility, hcode, hi, hit, h]

/-- A read that finds no failure leaves the outcome to the record. -/
theorem State.visibility_sound (hm : l.mask.getLsbD s.daypart.live.val = true) {dimmed : Bool}
    (hpass : l.soldOut.passes it.avail = some dimmed) (h : it.health = .corrupt ∨ it.parityFails = false) :
    s.visibility l = (s, bodyVisibility l s.daypart.live dimmed (some it)) := by
  rw [State.visibility_read hm hcode hi hit hpass, State.readBody_sound hit h, hit]

/-- A record whose outcome is hidden hides its layer, whatever the mask and the sold-out rule. -/
theorem State.visibility_hidden (h : it.health = .corrupt ∨ it.parityFails = false)
    (hbody : ∀ dimmed, bodyVisibility l s.daypart.live dimmed (some it) = .hidden) : s.visibility l = (s, .hidden) := by
  cases hm : l.mask.getLsbD s.daypart.live.val with
  | false => exact State.visibility_masked hm
  | true =>
    cases hpass : l.soldOut.passes it.avail with
    | none => exact State.visibility_soldOutRule hcode hi hit hpass
    | some dimmed => rw [State.visibility_sound hcode hi hit hm hpass h, hbody]

end

theorem bodyVisibility_corrupt {d : Daypart} (hc : it.health = .corrupt) (hp : l.isPrice = false) (dimmed : Bool) :
    bodyVisibility l d dimmed (some it) = .hidden := by
  simp [bodyVisibility, hc, hp]

theorem bodyVisibility_priceless {d : Daypart} (hg : it.health = .good) (hp : it.body.price[d] = none) (dimmed : Bool) :
    bodyVisibility l d dimmed (some it) = .hidden := by
  simp only [bodyVisibility, hg, hp, Option.isSome_none, Bool.false_eq_true, if_false]

end

/-! ### The rectangle blended (R101, R124 to R126) -/

/-- Each pixel of the rectangle within the panel is blended once, and no other is touched. -/
theorem FrameBuffer.read_blendRect {clip : Clip} (hc : clip.width ≤ 4096) {u v : Nat} (hu : u < 4096) (x y w h : Nat)
    (src : Nat → Nat → Rgb × Nat) (b : FrameBuffer) : (b.blendRect clip x y w h src).read u v =
      if x ≤ u ∧ u < x + w ∧ y ≤ v ∧ v < y + h ∧ u < clip.width ∧ v < clip.height then
        blend (src (u - x) (v - y)).1 (b.read u v) (src (u - x) (v - y)).2
      else b.read u v := by
  split
  · exact FrameBuffer.read_blendRect_inside hc hu (by omega) (by omega) (by omega) (by omega) (by omega) src b
  · by_cases hin : u < clip.width ∧ v < clip.height
    · exact FrameBuffer.read_blendRect_outside hc hu (by omega) src b
    · exact FrameBuffer.read_blendRect_clipped hc hu (by omega) x y w h src b

section
variable {s : State} {p : Fin 4} {k : Nat} {l : Layer}

/-- R124, R125: a PHOTO layer whose asset may be drawn. -/
theorem State.drawLayer_photo {h : Handle} (hl : l.content = .photo h) {g : Geometry} {pages : List Nat}
    (hdraw : (s.assets.entry h).drawable = some (g, pages)) (dimmed : Bool) (dim : Byte) (d : ComposeUpset) :
    s.drawLayer p k l dimmed dim d =
      s.onBack p fun b => b.blendRect (s.clip p) l.x l.y l.w l.h (photoSource s.assets g pages l dimmed dim) := by
  simp only [State.drawLayer, hl]
  unfold drawPhoto
  rw [hdraw]

theorem State.drawLayer_fill {colour : Rgb} (hl : l.content = .fill colour) (dimmed : Bool) (dim : Byte) (d : ComposeUpset) :
    s.drawLayer p k l dimmed dim d =
      s.onBack p fun b => b.blendRect (s.clip p) l.x l.y l.w l.h fun _ _ => (dimIf dimmed dim colour, l.alpha.toNat) := by
  simp only [State.drawLayer, hl]
  rfl

theorem State.composeLayer_hidden {t : State} (hv : s.visibility l = (t, .hidden)) (dim : Byte) (d : ComposeUpset) :
    s.composeLayer p k l dim d = t := by
  simp only [State.composeLayer, hv]

end

/-- R112: the sold-out rules that pass a layer, with the mark they give it. -/
theorem SoldOutRule.passes_of {r : SoldOutRule} {a : Availability} {dimmed : Bool}
    (h : (r = .always ∧ dimmed = false) ∨ (r = .hide ∧ a = .available ∧ dimmed = false) ∨
      (r = .dim ∧ dimmed = decide (a = .soldOut)) ∨ (r = .only ∧ a = .soldOut ∧ dimmed = false)) :
    r.passes a = some dimmed := by
  obtain ⟨rfl, rfl⟩ | ⟨rfl, rfl, rfl⟩ | ⟨rfl, rfl⟩ | ⟨rfl, rfl, rfl⟩ := h
  · rfl
  · rfl
  · cases a <;> rfl
  · rfl

/-- Settles O35: the outcome of the visibility test, then the traversal alone or the rectangle blended. -/
theorem layerHiddenOrBlended : Obligations.LayerHiddenOrBlended := by
  unfold Obligations.LayerHiddenOrBlended
  refine ⟨fun s p k sc l hj hsc hl d hcase => ?_,
    fun s p k sc l code i it hj hsc hl hm hcode hi hit hhide honly hg hp hprice d => ?_,
    fun s p k sc l dimmed hj hsc hl hm hcase d source hsource => ?_⟩
  all_goals rw [execComposeLayer_eq hj hsc hl]
  · have hhidden : s.visibility l = (s, .hidden) := by
      obtain hm | ⟨code, hcode, hno⟩ | ⟨code, i, it, hcode, hi, hit, hrecord⟩ := hcase
      · exact State.visibility_masked hm
      · exact State.visibility_missing hcode hno
      obtain ⟨hrule, ha⟩ | ⟨hrule, ha⟩ | ⟨hc, hp⟩ | ⟨hg, hp, hnone⟩ := hrecord
      · exact State.visibility_soldOutRule hcode hi hit (by rw [hrule, ha]; rfl)
      · exact State.visibility_soldOutRule hcode hi hit (by rw [hrule, ha]; rfl)
      · exact State.visibility_hidden hcode hi hit (.inl hc) (bodyVisibility_corrupt hc hp)
      · exact State.visibility_hidden hcode hi hit (.inr hp) (bodyVisibility_priceless hg hnone)
    rw [State.composeLayer_hidden hhidden]
  · have hvis := State.visibility_read hm hcode hi hit (SoldOutRule.passes_eq hhide honly)
    rw [State.item_readBody_failed hit (.inr hp), bodyVisibility_corrupt rfl hprice] at hvis
    rw [State.composeLayer_hidden hvis]
  · have hdrawn : s.visibility l = (s, .drawn dimmed) := by
      obtain ⟨hcode, rfl⟩ | ⟨code, i, it, hcode, hi, hit, hg, hp, hprice, hrule⟩ := hcase
      · exact State.visibility_unbound hm hcode
      · rw [State.visibility_sound hcode hi hit hm (SoldOutRule.passes_of hrule) (.inr hp),
          bodyVisibility_good hg (Option.isSome_iff_ne_none.2 hprice)]
    have hlayer : s.composeLayer p k l sc.dim d =
        s.onBack p fun b => b.blendRect (s.clip p) l.x l.y l.w l.h source := by
      rw [State.composeLayer_drawn hdrawn]
      obtain ⟨colour, hcontent, rfl⟩ | ⟨h, g, pages, n, hcontent, he, rfl⟩ := hsource
      · exact State.drawLayer_fill hcontent dimmed sc.dim d
      · exact State.drawLayer_photo hcontent (AssetEntry.drawable_of_held he) dimmed sc.dim d
    rw [hlayer]
    exact ⟨_, rfl, fun x y hx => FrameBuffer.read_blendRect (Resolution.clip_width_le _) hx l.x l.y l.w l.h source _⟩

end Sys2Proof.Machine
end

section
/-! PROOF. PanelCommandsSetPending: the fields of the panel commands in range and out of range, and what each owner makes of them. -/

namespace Sys2Proof.Machine

/-! ### Fields in range (R116, R145, R149, R152) -/

theorem resolutionOf_code (r : Resolution) : resolutionOf r.code.toNat = some r := by cases r <;> rfl

theorem resolutionOf_none {n : Nat} (h : 4 ≤ n) : resolutionOf n = none := by
  unfold resolutionOf
  split
  case h_5 => rfl
  all_goals omega

theorem restartOf_flag {n : Nat} (h : n ≤ 1) : restartOf n = some (if n = 0 then .auto else .manual) := by
  obtain rfl | rfl : n = 0 ∨ n = 1 := by omega
  · rfl
  · rfl

theorem restartOf_none {n : Nat} (h : 2 ≤ n) : restartOf n = none := by
  unfold restartOf
  split
  case h_3 => rfl
  all_goals omega

theorem Curve.valid_iff {c : Curve} : c.valid = true ↔
    c.p0.a < c.p1.a ∧ c.p1.a < c.p2.a ∧ c.p2.a < c.p3.a ∧ c.p3.a ≤ 1023 ∧
      c.p0.d ≤ 1000 ∧ c.p1.d ≤ 1000 ∧ c.p2.d ≤ 1000 ∧ c.p3.d ≤ 1000 := by
  simp only [Curve.valid, Bool.and_eq_true, decide_eq_true_eq, and_assoc]

theorem CurveForm.curve_valid_iff {f : CurveForm} : f.curve.valid = true ↔
    f.a[0].toNat < f.a[1].toNat ∧ f.a[1].toNat < f.a[2].toNat ∧ f.a[2].toNat < f.a[3].toNat ∧ f.a[3].toNat ≤ 1023 ∧
      ∀ i : Fin 4, f.d[i].toNat ≤ 1000 := by
  have hd : (∀ i : Fin 4, f.d[i].toNat ≤ 1000) ↔
      f.d[0].toNat ≤ 1000 ∧ f.d[1].toNat ≤ 1000 ∧ f.d[2].toNat ≤ 1000 ∧ f.d[3].toNat ≤ 1000 :=
    ⟨fun h => ⟨h 0, h 1, h 2, h 3⟩, fun ⟨h0, h1, h2, h3⟩ i => match i with
      | 0 => h0
      | 1 => h1
      | 2 => h2
      | 3 => h3⟩
  rw [Curve.valid_iff, hd]
  rfl

theorem ThermalSettings.valid_iff {t : ThermalSettings} : t.valid = true ↔
    1 ≤ t.restore ∧ t.restore < t.warn ∧ t.warn < t.shutdown ∧ t.shutdown ≤ 1022 ∧ 100 ≤ t.derateCap ∧
      t.derateCap ≤ 1000 := by
  simp only [ThermalSettings.valid, Bool.and_eq_true, decide_eq_true_eq, and_assoc]

/-- R152: the settings that a THERMAL_SET describes. -/
def ThermalForm.settings (f : ThermalForm) : ThermalSettings :=
  { restore := f.restore.toNat, warn := f.warn.toNat, shutdown := f.shutdown.toNat, derateCap := f.cap.toNat,
    restart := if f.restart.toNat = 0 then .auto else .manual }

theorem ThermalForm.settings_valid_iff {f : ThermalForm} : f.settings.valid = true ∧ f.restart.toNat ≤ 1 ↔
    1 ≤ f.restore.toNat ∧ f.restore.toNat < f.warn.toNat ∧ f.warn.toNat < f.shutdown.toNat ∧ f.shutdown.toNat ≤ 1022 ∧
      100 ≤ f.cap.toNat ∧ f.cap.toNat ≤ 1000 ∧ f.restart.toNat ≤ 1 := by
  simp only [ThermalSettings.valid_iff, and_assoc]
  rfl

/-! ### What each owner makes of its fields -/

section
variable (s : State)

theorem panelSetOwner_taken (p : Fin 4) (e : Bool) (r : Resolution) :
    panelSetOwner (byteOf p.val) (flagByte e) r.code s =
      ⟨s.setPanel p { s.panel.panels[p] with pendingSettings := some { enable := e, resolution := r } }, .ok, []⟩ := by
  have he : switchOf (flagByte e).toNat = some e := by cases e <;> rfl
  simp only [panelSetOwner, panelOf_byteOf, he, resolutionOf_code]

theorem panelSetOwner_badValue {a b c : Byte} (h : 4 ≤ a.toNat ∨ 2 ≤ b.toNat ∨ 4 ≤ c.toNat) :
    panelSetOwner a b c s = refuse s .badValue := by
  unfold panelSetOwner
  split
  · rename_i hpanel henable hresolution
    rcases h with h | h | h
    · rw [panelOf_none h] at hpanel
      cases hpanel
    · rw [switchOf_none h] at henable
      cases henable
    · rw [resolutionOf_none h] at hresolution
      cases hresolution
  · rfl

theorem curveSetOwner_taken {f : CurveForm} {p : Fin 4} (hp : f.panel.toNat = p.val) (h : f.curve.valid = true) :
    curveSetOwner f s = ⟨s.setPanel p { s.panel.panels[p] with pendingCurve := some f.curve }, .ok, []⟩ := by
  simp only [curveSetOwner, panelOf_some hp, h, if_true]

theorem curveSetOwner_badValue {f : CurveForm} (h : 4 ≤ f.panel.toNat ∨ ¬ f.curve.valid = true) :
    curveSetOwner f s = refuse s .badValue := by
  unfold curveSetOwner
  split
  · rfl
  · rename_i hpanel
    rcases h with h | h
    · rw [panelOf_none h] at hpanel
      cases hpanel
    · exact if_neg h

theorem thermalSetOwner_taken {f : ThermalForm} {p : Fin 4} (hp : f.panel.toNat = p.val)
    (h : f.settings.valid = true ∧ f.restart.toNat ≤ 1) :
    thermalSetOwner f s = ⟨s.setPanel p { s.panel.panels[p] with pendingThermal := some f.settings }, .ok, []⟩ := by
  simp only [thermalSetOwner, panelOf_some hp, restartOf_flag h.2]
  exact if_pos h.1

theorem thermalSetOwner_badValue {f : ThermalForm}
    (h : 4 ≤ f.panel.toNat ∨ ¬ (f.settings.valid = true ∧ f.restart.toNat ≤ 1)) :
    thermalSetOwner f s = refuse s .badValue := by
  unfold thermalSetOwner
  split
  · rename_i hpanel hrestart
    rcases h with h | h
    · rw [panelOf_none h] at hpanel
      cases hpanel
    · by_cases hr : f.restart.toNat ≤ 1
      · rw [restartOf_flag hr] at hrestart
        cases hrestart
        exact if_neg fun hv => h ⟨hv, hr⟩
      · rw [restartOf_none (by omega)] at hrestart
        cases hrestart
  · rfl

theorem backlightRestartOwner_cooled {a : Byte} {p : Fin 4} (ha : panelOf a = some p)
    (h : s.panel.panels[p].thermalState = .cooledWait) : backlightRestartOwner a s =
      ⟨(s.setPanel p { s.panel.panels[p] with thermalState := .normal }).raiseContent .panelThermal, .ok, []⟩ := by
  simp only [backlightRestartOwner, ha, h]

theorem backlightRestartOwner_hot {a : Byte} {p : Fin 4} (ha : panelOf a = some p)
    (h : s.panel.panels[p].thermalState = .hotOff) : backlightRestartOwner a s = refuse s .stillHot := by
  simp only [backlightRestartOwner, ha, h]

theorem backlightRestartOwner_lit {a : Byte} {p : Fin 4} (ha : panelOf a = some p)
    (h : s.panel.panels[p].thermalState = .normal ∨ s.panel.panels[p].thermalState = .warm) :
    backlightRestartOwner a s = refuse s .notWaiting := by
  rcases h with h | h <;> simp only [backlightRestartOwner, ha, h]

theorem backlightRestartOwner_badValue {a : Byte} (h : 4 ≤ a.toNat) :
    backlightRestartOwner a s = refuse s .badValue := by
  simp only [backlightRestartOwner, panelOf_none h]

theorem frameRateSetOwner_badValue {a : Byte} (h50 : a ≠ 50) (h60 : a ≠ 60) :
    frameRateSetOwner a s = refuse s .badValue := by
  have hrate : rateOf a.toNat = none := by
    have h50' : a.toNat ≠ 50 := mt (BitVec.toNat_inj (y := 50)).1 h50
    have h60' : a.toNat ≠ 60 := mt (BitVec.toNat_inj (y := 60)).1 h60
    rw [rateOf, if_neg h50', if_neg h60']
  simp only [frameRateSetOwner, hrate]

end

/-- Settles O42: each command by its owner's branch for the panel named and the fields in range. -/
theorem panelCommandsSetPending : Obligations.PanelCommandsSetPending := by
  unfold Obligations.PanelCommandsSetPending
  intro s go p hl
  dsimp only
  have hpanel := panelOf_byteOf p
  refine ⟨fun e r => ?_, fun a b c h => ?_, fun f hp => ⟨fun h => ?_, fun h => ?_⟩, fun f hp => ⟨fun h => ?_, fun h => ?_⟩,
    fun h => ?_, fun h => ?_, fun h => ?_, fun a ha => ⟨?_, fun f hf => ?_, fun f hf => ?_⟩, ?_, ?_, fun a h50 h60 => ?_⟩
  all_goals refine command_completes rfl rfl hl ?_
  · exact panelSetOwner_taken _ p e r
  · exact panelSetOwner_badValue _ h
  · exact curveSetOwner_taken _ hp (CurveForm.curve_valid_iff.2 h)
  · exact curveSetOwner_badValue _ (.inr (mt CurveForm.curve_valid_iff.1 h))
  · exact thermalSetOwner_taken _ hp (ThermalForm.settings_valid_iff.2 h)
  · exact thermalSetOwner_badValue _ (.inr (mt ThermalForm.settings_valid_iff.1 h))
  · exact backlightRestartOwner_cooled _ hpanel h
  · exact backlightRestartOwner_hot _ hpanel h
  · exact backlightRestartOwner_lit _ hpanel h
  · exact backlightRestartOwner_badValue _ ha
  · exact curveSetOwner_badValue _ (.inl (hf ▸ ha))
  · exact thermalSetOwner_badValue _ (.inl (hf ▸ ha))
  · rfl
  · rfl
  · exact frameRateSetOwner_badValue _ h50 h60

end Sys2Proof.Machine
end

section
/-! PROOF. PanelUnitAtFrameStart: a frame start that begins no job, the target and the move of a duty, and the conversion that a
frame start begins. -/

namespace Sys2Proof.Machine

/-! ### Frame starts that begin no job (R117, R119) -/

section
variable {s : State}

theorem State.engineStart_loading (h : s.nva.loading = true) : s.engineStart = s := if_pos h

theorem State.engineStart_late (hl : s.nva.loading = false) (hj : s.engine.job ≠ .idle) : s.engineStart = s.lateFrame := by
  unfold State.engineStart
  rw [hl, if_neg Bool.false_ne_true]
  split
  · exact absurd ‹_› hj
  all_goals rfl

theorem execFrameStart_loading (h : s.nva.loading = true) (panelFirst : Bool) :
    exec (.frameStart panelFirst) s = .next s.startPeriod.panelStart := by
  have hpanel : s.startPeriod.panelStart.engineStart = s.startPeriod.panelStart := State.engineStart_loading h
  have hengine : s.startPeriod.engineStart = s.startPeriod := State.engineStart_loading h
  simp only [exec, execFrameStart, hpanel, hengine, ite_self]

theorem execFrameStart_late (hl : s.nva.loading = false) (hj : s.engine.job ≠ .idle) (panelFirst : Bool) :
    exec (.frameStart panelFirst) s = .next s.startPeriod.lateFrame.panelStart := by
  have hpanel : s.startPeriod.panelStart.engineStart = s.startPeriod.lateFrame.panelStart := State.engineStart_late hl hj
  have hengine : s.startPeriod.engineStart = s.startPeriod.lateFrame := State.engineStart_late hl hj
  simp only [exec, execFrameStart, hpanel, hengine, ite_self]

end

/-! ### The target duty (R150) -/

theorem segmentDuty_start {x y : CurvePoint} (h : x.a < y.a) : segmentDuty x y x.a = x.d := by
  have hd : 0 < y.a - x.a := by omega
  rw [segmentDuty, Nat.sub_self, Nat.mul_zero, Nat.add_zero, Nat.mul_comm, Nat.mul_add_div hd,
    Nat.div_eq_of_lt (Nat.div_lt_self hd (by decide)), Nat.add_zero]

/-- An interpolated duty lies between the duties of its two points. -/
theorem segmentDuty_between {x y : CurvePoint} {n : Nat} (hx : x.a ≤ n) (hy : n < y.a) :
    min x.d y.d ≤ segmentDuty x y n ∧ segmentDuty x y n ≤ max x.d y.d := by
  have hwidth : y.a - x.a = (y.a - n) + (n - x.a) := by omega
  have hpos : 0 < (y.a - n) + (n - x.a) := by omega
  rw [segmentDuty, hwidth]
  generalize (y.a - n) = w at *
  generalize (n - x.a) = v at *
  have hlow : min x.d y.d * (w + v) ≤ x.d * w + y.d * v := by
    rw [Nat.mul_add]
    exact Nat.add_le_add (Nat.mul_le_mul_right w (Nat.min_le_left ..)) (Nat.mul_le_mul_right v (Nat.min_le_right ..))
  have hhigh : x.d * w + y.d * v ≤ max x.d y.d * (w + v) := by
    rw [Nat.mul_add]
    exact Nat.add_le_add (Nat.mul_le_mul_right w (Nat.le_max_left ..)) (Nat.mul_le_mul_right v (Nat.le_max_right ..))
  constructor
  · rw [Nat.le_div_iff_mul_le hpos]
    omega
  · rw [← Nat.lt_succ_iff, Nat.div_lt_iff_lt_mul hpos, Nat.succ_mul]
    omega

section
variable {c : Curve} {n : Nat}

theorem Curve.target_low (h : n ≤ c.p0.a) : c.target n = c.p0.d := if_pos h

theorem Curve.target_high (hlow : c.p0.a < n) (h : c.p3.a ≤ n) : c.target n = c.p3.d := by
  rw [Curve.target, if_neg (by omega), if_pos h]

theorem Curve.target_segment (hc : c.valid = true) {x y : CurvePoint}
    (hxy : (x = c.p0 ∧ y = c.p1) ∨ (x = c.p1 ∧ y = c.p2) ∨ (x = c.p2 ∧ y = c.p3)) (hx : x.a ≤ n) (hy : n < y.a) :
    c.target n = segmentDuty x y n := by
  obtain ⟨h01, h12, h23, -⟩ := Curve.valid_iff.1 hc
  obtain ⟨rfl, rfl⟩ | ⟨rfl, rfl⟩ | ⟨rfl, rfl⟩ := hxy
  · rcases Nat.eq_or_lt_of_le hx with rfl | hx
    · rw [Curve.target_low le_rfl, segmentDuty_start h01]
    · rw [Curve.target, if_neg (by omega), if_neg (by omega), if_pos hy]
  · rw [Curve.target, if_neg (by omega), if_neg (by omega), if_neg (by omega), if_pos hy]
  · rw [Curve.target, if_neg (by omega), if_neg (by omega), if_neg (by omega), if_neg (by omega)]

end

/-! ### The move of a duty (R151) -/

section
variable {applied target cap : Nat}

theorem moveDuty_over (h : cap < applied) : moveDuty applied target cap = cap := if_pos h

theorem moveDuty_up (h : applied ≤ cap) (hg : applied ≤ min target cap) :
    moveDuty applied target cap = min (min target cap) (applied + 20) := by
  simp only [moveDuty, if_neg (Nat.not_lt.2 h), if_pos hg]
  split <;> omega

theorem moveDuty_down (h : applied ≤ cap) (hg : min target cap ≤ applied) :
    moveDuty applied target cap = max (min target cap) (applied - 20) := by
  simp only [moveDuty, if_neg (Nat.not_lt.2 h)]
  split
  · rw [if_pos (by omega)]
    omega
  · split <;> omega

theorem moveDuty_le_cap : moveDuty applied target cap ≤ cap := by
  rcases Nat.lt_or_ge cap applied with h | h
  · exact (moveDuty_over h).le
  · rcases Nat.le_total applied (min target cap) with hg | hg
    · rw [moveDuty_up h hg]
      omega
    · rw [moveDuty_down h hg]
      omega

end

theorem PanelRecord.frameStart_enabled {r : PanelRecord} (h : r.installed.enable = true) :
    r.frameStart.target = (r.pendingCurve.getD r.curve).target r.lastAmbient ∧
      r.frameStart.applied = moveDuty r.applied r.frameStart.target r.cap := by
  simp only [PanelRecord.frameStart, h, if_true, and_self]

/-! ### The conversion begun (R147) -/

theorem channelsAfter_getElem (c : Channel) (j : Nat) (h : j < (channelsAfter c).length) :
    ((channelsAfter c)[j]).val = (c.val + (j + 1)) % 8 := by
  have hall : ∀ c j : Fin 8, ((channelsAfter c)[j.val]'j.isLt).val = (c.val + (j.val + 1)) % 8 := by decide
  exact hall c ⟨j, h⟩

/-- The `k`-th channel after the position is found when it is in the scan and none before it is. -/
theorem find_channelsAfter {scan c : Channel} {inScan : Channel → Bool} {k : Nat} (h1 : 1 ≤ k) (h8 : k ≤ 8)
    (hc : c.val = (scan.val + k) % 8) (hin : inScan c = true)
    (hbefore : ∀ j, 1 ≤ j → j < k → ∀ d : Channel, d.val = (scan.val + j) % 8 → inScan d = false) :
    (channelsAfter scan).find? inScan = some c := by
  obtain ⟨i, rfl⟩ : ∃ i, k = i + 1 := ⟨k - 1, by omega⟩
  have hi : i < (channelsAfter scan).length := h8
  refine List.find?_eq_some_iff_getElem.2 ⟨hin, i, hi, Fin.ext ?_, fun j hj => ?_⟩
  · rw [channelsAfter_getElem, hc]
  · rw [hbefore (j + 1) (by omega) (by omega) _ (channelsAfter_getElem ..), Bool.not_false]

section
variable (u : PanelUnit)

theorem PanelUnit.inScan_of_half {c : Channel} {p : Fin 4} (h : c.val / 2 = p.val) :
    u.inScan c = u.panels[p].installed.enable := by
  obtain rfl : channelPanel c = p := Fin.ext h
  rfl

/-- The panel records of a frame start keep what is installed, and so what is in the scan. -/
theorem PanelUnit.inScan_eachPanel : (u.eachPanel PanelRecord.frameStart).inScan = u.inScan := by
  funext c
  have hpanels : (u.eachPanel PanelRecord.frameStart).panels = u.frameStart.panels := (PanelUnit.beginConversion_panels _).symm
  rw [PanelUnit.inScan, hpanels, PanelUnit.panels_frameStart, PanelRecord.frameStart_eq]
  rfl

variable {u}

theorem PanelUnit.frameStart_converting {c : Conversion} (h : u.conversion = some c) :
    u.frameStart = u.eachPanel PanelRecord.frameStart := by
  have hconv : (u.eachPanel PanelRecord.frameStart).conversion = some c := h
  simp only [PanelUnit.frameStart, PanelUnit.beginConversion, hconv]

theorem PanelUnit.frameStart_idle (h : u.conversion = none) (hf : (channelsAfter u.scanPosition).find? u.inScan = none) :
    u.frameStart = u.eachPanel PanelRecord.frameStart := by
  have hconv : (u.eachPanel PanelRecord.frameStart).conversion = none := h
  have hfind : (channelsAfter (u.eachPanel PanelRecord.frameStart).scanPosition).find?
      (u.eachPanel PanelRecord.frameStart).inScan = none := by rw [PanelUnit.inScan_eachPanel]; exact hf
  simp only [PanelUnit.frameStart, PanelUnit.beginConversion, hconv, hfind]

theorem PanelUnit.frameStart_begins {c : Channel} (h : u.conversion = none)
    (hf : (channelsAfter u.scanPosition).find? u.inScan = some c) :
    u.frameStart.scanPosition = c ∧ u.frameStart.conversion = some { channel := c, discard := false } := by
  have hconv : (u.eachPanel PanelRecord.frameStart).conversion = none := h
  have hfind : (channelsAfter (u.eachPanel PanelRecord.frameStart).scanPosition).find?
      (u.eachPanel PanelRecord.frameStart).inScan = some c := by rw [PanelUnit.inScan_eachPanel]; exact hf
  simp only [PanelUnit.frameStart, PanelUnit.beginConversion, hconv, hfind, and_self]

end

/-- Settles O33: the two frame starts that begin no job, then the panel unit's part record by record and its conversion. -/
theorem panelUnitAtFrameStart : Obligations.PanelUnitAtFrameStart := by
  unfold Obligations.PanelUnitAtFrameStart
  refine ⟨fun _ first => ⟨fun hl => execFrameStart_loading hl first, fun hl hj => execFrameStart_late hl hj first⟩,
    fun u => ⟨fun c p h => u.inScan_of_half h, fun p => ?_, fun c hc => ?_, fun hnone hidle => ?_,
      fun k hnone h1 h8 hk hbefore => ?_⟩⟩
  · rw [PanelUnit.panels_frameStart]
    generalize u.panels[p] = r
    refine ⟨?_, PanelRecord.frameStart_disabled, fun he => ?_⟩
    · rw [PanelRecord.frameStart_eq]
      exact ⟨rfl, rfl⟩
    obtain ⟨htarget, happlied⟩ := PanelRecord.frameStart_enabled he
    refine ⟨r.frameStart_eq, fun h => htarget.trans (Curve.target_low h),
      fun h h' => htarget.trans (Curve.target_high h h'), fun x y hc hxy hx hy => ?_, ?_, fun h => ⟨?_, ?_⟩, ?_⟩
    · rw [htarget, Curve.target_segment hc hxy hx hy]
      exact ⟨rfl, segmentDuty_between hx hy⟩
    all_goals rw [happlied]
    · exact moveDuty_over
    · exact moveDuty_up h
    · exact moveDuty_down h
    · exact moveDuty_le_cap
  · rw [PanelUnit.frameStart_converting hc]
    exact ⟨hc, rfl⟩
  · have hfind : (channelsAfter u.scanPosition).find? u.inScan = none := List.find?_eq_none.2 fun c _ => by simp [hidle c]
    rw [PanelUnit.frameStart_idle hnone hfind]
    exact ⟨hnone, rfl⟩
  · obtain ⟨c, hc⟩ : ∃ c : Channel, c.val = (u.scanPosition.val + k) % 8 := ⟨⟨_, Nat.mod_lt _ (by decide)⟩, rfl⟩
    exact ⟨c, hc, PanelUnit.frameStart_begins hnone (find_channelsAfter h1 h8 hc (hk c hc) hbefore)⟩

end Sys2Proof.Machine
end

section
/-! SUPPORT. PanelFilledAndStagesEnd: the requests, the content commands and the events of the array that leave the frame engine
and the panel unit alone. -/

namespace Sys2Proof.Machine

/-! ### The display -/

/-- What decides what the panels are sent: the frame engine and the panel unit. -/
def State.display (s : State) : FrameEngine × PanelUnit := (s.engine, s.panel)

theorem State.display_eq_iff {s t : State} : t.display = s.display ↔ t.engine = s.engine ∧ t.panel = s.panel := by
  simp [State.display]

theorem ReadsBodies.display {s t : State} (h : ReadsBodies s t) : t.display = s.display := by
  rw [h.eq]
  rfl

theorem Reports.display {s t : State} (h : Reports s t) : t.display = s.display := h.readsBodies.display

section
variable (s : State)

/-! ### Owners of requests -/

theorem stageEntry_display (e : StagedEntry) : (stageEntry e s).1.display = s.display := by
  unfold stageEntry
  dsimp only
  repeat' split
  all_goals rfl

theorem stagingOwners_display (l : List Byte) :
    (itemStageOwner l s).1.display = s.display ∧ (itemRemoveOwner l s).1.display = s.display ∧
      (promoStageOwner l s).1.display = s.display ∧ (rulesStageOwner l s).1.display = s.display := by
  unfold itemStageOwner itemRemoveOwner promoStageOwner rulesStageOwner
  refine ⟨?_, ?_, ?_, ?_⟩
  · split
    · exact stageEntry_display ..
    · rfl
  · split
    · exact stageEntry_display ..
    · rfl
  · split
    · split
      · exact stageEntry_display ..
      · rfl
    · rfl
  · split
    · exact stageEntry_display ..
    · rfl

theorem commitOwners_display (l : List Byte) :
    (commitOwner l s).1.display = s.display ∧ (applyOwner s).1.display = s.display ∧
      (commitCancelOwner s).1.display = s.display := by
  unfold commitOwner applyOwner commitCancelOwner
  refine ⟨?_, ?_, ?_⟩
  all_goals
    repeat' split
    all_goals rfl

theorem daypartOwners_display (l : List Byte) :
    (availSetOwner l s).1.display = s.display ∧ (scheduleSetOwner l s).1.display = s.display ∧
      (daypartForceOwner l s).1.display = s.display ∧ (timeSetOwner l s).1.display = s.display := by
  unfold availSetOwner scheduleSetOwner daypartForceOwner timeSetOwner
  refine ⟨?_, ?_, ?_, ?_⟩
  all_goals split <;> rfl

theorem itemReadOwner_display (l : List Byte) : (itemReadOwner l s).1.display = s.display := by
  unfold itemReadOwner
  dsimp only
  split
  · rfl
  · split
    · rfl
    · split
      · exact (s.readBody_reads _).display
      · split <;> exact (s.readBody_reads _).display

theorem suspendClearOwner_display (l : List Byte) : (suspendClearOwner l s).1.display = s.display := by
  unfold suspendClearOwner
  dsimp only
  repeat' split
  case h_4 => exact (s.unsuspend_reports _).display
  all_goals rfl

theorem checkTestOwner_display : (checkTestOwner s).1.display = s.display := by
  unfold checkTestOwner
  split <;> rfl

/-- No owner of a request reaches the frame engine or the panel unit. -/
theorem owner_display {kind : Byte} {l : List Byte} {r : Request} (hr : requestOf kind l = some r) :
    (r.owner s).1.display = s.display := by
  obtain ⟨hitem, hremove, hpromo, hrules⟩ := stagingOwners_display s l
  obtain ⟨hcommit, happly, hcancel⟩ := commitOwners_display s l
  obtain ⟨havail, hschedule, hforce, htime⟩ := daypartOwners_display s l
  unfold requestOf at hr
  split at hr
  case h_2 => cases hr; exact hitem
  case h_3 => cases hr; exact hremove
  case h_4 => cases hr; exact hpromo
  case h_5 => cases hr; exact hrules
  case h_7 => cases hr; exact hcommit
  case h_8 => cases hr; exact happly
  case h_9 => cases hr; exact hcancel
  case h_10 => cases hr; exact havail
  case h_11 => cases hr; exact hschedule
  case h_12 => cases hr; exact hforce
  case h_13 => cases hr; exact htime
  case h_14 => cases hr; exact itemReadOwner_display s l
  case h_16 => cases hr; exact suspendClearOwner_display s l
  case h_18 => cases hr; exact checkTestOwner_display s
  case h_19 => cases hr
  case h_1 | h_6 | h_15 | h_17 => cases hr; rfl

/-! ### Frames on the POS link -/

theorem State.take_display (a : Addressing) {r : Request} (hr : (r.owner s).1.display = s.display) :
    (s.take a r).display = s.display := by
  unfold State.take
  cases a with
  | addressed =>
    dsimp only
    repeat' split
    case h_1 | h_2 => exact hr
    all_goals rfl
  | broadcast =>
    dsimp only
    split
    · rfl
    · exact hr

theorem State.takeKind_display (a : Addressing) (kind : Byte) (l : List Byte) :
    (s.takeKind a kind l).display = s.display := by
  unfold State.takeKind
  split
  · rename_i r hr
    exact s.take_display a (owner_display s hr)
  · unfold State.takeUnknown
    repeat' split
    all_goals rfl

theorem State.acceptFrame_display (frame : List Byte) : (s.acceptFrame frame).display = s.display := by
  unfold State.acceptFrame
  split
  · exact s.takeKind_display _ _ _
  · rfl

theorem State.withdrawAnswer_display : s.withdrawAnswer.display = s.display :=
  State.display_eq_iff.2 ⟨s.withdrawAnswer_engine, s.withdrawAnswer_panel⟩

theorem State.onFrame_display {f : State → State} (hf : ∀ t, (f t).display = t.display) :
    (s.onFrame f).display = s.display := by
  unfold State.onFrame
  split
  · rfl
  · exact (hf _).trans s.withdrawAnswer_display

theorem State.receiveByte_display (b : Byte) (fe : Bool) : (s.receiveByte b fe).display = s.display := by
  unfold State.receiveByte State.assembleByte
  split
  · rfl
  · split
    · exact s.withdrawAnswer_display
    · rfl
  · repeat' split
    case h_3.isFalse.isFalse.isTrue => exact s.onFrame_display fun t => t.acceptFrame_display _
    all_goals rfl

/-- A POS request leaves the frame engine and the panel unit alone. -/
theorem request_display {t : State} {c : Instr} {k : Nat} {a : Addressing} {l : List Byte}
    (hr : requestRow k a l = some c) (e : exec c s = .next t) : t.display = s.display := by
  obtain ⟨r, hrow⟩ := requestRow_request hr
  rw [hrow.row] at e
  cases e
  exact s.onFrame_display fun t => t.take_display a (owner_display t hrow.request)

/-! ### Owners of content commands, and aperture writes -/

@[simp] theorem assetOpenOwner_display (f : OpenForm) : (assetOpenOwner f s).state.display = s.display := by
  unfold assetOpenOwner
  repeat' split
  all_goals rfl

@[simp] theorem assetCloseOwner_display (h : Nat) : (assetCloseOwner h s).state.display = s.display := by
  unfold assetCloseOwner
  repeat' split
  all_goals rfl

@[simp] theorem assetAbortOwner_display (h : Nat) : (assetAbortOwner h s).state.display = s.display := by
  unfold assetAbortOwner
  repeat' split
  all_goals rfl

@[simp] theorem assetFreeOwner_display (h : Nat) : (assetFreeOwner h s).state.display = s.display := by
  unfold assetFreeOwner
  repeat' split
  all_goals rfl

@[simp] theorem assetQueryOwner_display (h : Nat) : (assetQueryOwner h s).state.display = s.display := by
  unfold assetQueryOwner
  repeat' split
  all_goals rfl

@[simp] theorem sceneBeginOwner_display (f : SceneForm) : (sceneBeginOwner f s).state.display = s.display := by
  unfold sceneBeginOwner
  split <;> rfl

@[simp] theorem layerAddOwner_display (f : LayerForm) : (layerAddOwner f s).state.display = s.display := by
  unfold layerAddOwner
  repeat' split
  all_goals rfl

@[simp] theorem sceneSubmitOwner_display (p : Byte) : (sceneSubmitOwner p s).state.display = s.display := by
  unfold sceneSubmitOwner
  dsimp only
  repeat' split
  all_goals rfl

@[simp] theorem sceneDiscardOwner_display (p : Byte) : (sceneDiscardOwner p s).state.display = s.display := by
  unfold sceneDiscardOwner
  repeat' split
  all_goals rfl

@[simp] theorem styleSetOwner_display (f : StyleForm) : (styleSetOwner f s).state.display = s.display := by
  unfold styleSetOwner
  repeat' split
  all_goals rfl

@[simp] theorem itemQueryOwner_display (c : Nat) : (itemQueryOwner c s).state.display = s.display := by
  unfold itemQueryOwner
  dsimp only
  split
  · rfl
  · split
    · rfl
    · split <;> exact (s.readBody_reads _).display

@[simp] theorem checkTestCommand_display : (checkTestCommand s).state.display = s.display := by
  unfold checkTestCommand
  split <;> rfl

theorem State.apertureWrite_display (o : Nat) (l : List Byte) : (s.apertureWrite o l).display = s.display := by
  unfold State.apertureWrite
  dsimp only
  repeat' split
  all_goals rfl

theorem State.discardAllBuilding_display : s.discardAllBuilding.display = s.display :=
  List.foldlRecOn _ State.discardBuilding (motive := fun t => t.display = s.display) rfl fun t ht p _ =>
    (rfl : (t.discardBuilding p).display = t.display).trans ht

/-! ### The array -/

theorem State.finishCheck_display (c : CommitRecord) : (s.finishCheck c).display = s.display := by
  unfold State.finishCheck State.commitAnswer
  dsimp only
  generalize (s.link.answer.isSome || _) = newer
  cases newer <;> rfl

/-- A write of the array's bookkeeping alone. -/
theorem State.withNva_reads (n : Nva) : ReadsBodies s { s with nva := n } := ⟨rfl⟩

theorem State.beginWrite_reads (k : SlotId) (rest : List SlotId) : ReadsBodies s (s.beginWrite k rest) := by
  unfold State.beginWrite
  split
  · dsimp only
    split
    · exact (s.withNva_reads _).trans (State.readBody_reads _ _)
    all_goals exact s.withNva_reads _
  · exact s.withNva_reads _

theorem State.completeWrite_reads (w : SlotWrite) (v : NvSlot) : ReadsBodies s (s.completeWrite w v) := by
  unfold State.completeWrite
  dsimp only
  generalize Nva.afterWrite _ w _ = n
  have hlogged : ReadsBodies s (if w.verifies v then { s with nva := n } else
      ({ s with nva := n } : State).logFault { slot := w.slot.val, kind := .ded, origin := .write }) := by
    split
    · exact s.withNva_reads n
    · exact (s.withNva_reads n).trans (State.logFault_reads _ _)
  split
  · split
    · exact hlogged.trans (State.requestRepair_reads _ _)
    all_goals exact hlogged
  · exact hlogged

theorem State.restore_reads (i : ItemIndex) (code : Nat) (body : ItemBody) : ReadsBodies s (s.restore i code body) := by
  unfold State.restore
  split
  · exact .refl s
  · split
    · exact .refl s
    · split
      · exact (s.putItem_reads i _).trans (State.unsuspendRestored_reports _ code).readsBodies
      · exact (s.markUnrepairable_reports i).readsBodies

theorem State.failRepair_reads (i : ItemIndex) : ReadsBodies s (s.failRepair i) :=
  ((s.withNva_reads _).trans (State.markUnrepairable_reports _ i).readsBodies).trans (State.logFault_reads _ _)

theorem State.completeRepair_reads (i : ItemIndex) (v : NvSlot) : ReadsBodies s (s.completeRepair i v) := by
  unfold State.completeRepair
  have hread := s.withNva_reads { s.nva.setSlot (itemSlot i) v with op := .free }
  dsimp only
  split
  · split
    · split
      · exact hread.trans (State.logFault_reads _ _)
      · exact hread
    · exact hread.trans (State.logFault_reads _ _)
  · split
    · have hrestored := hread.trans (State.restore_reads _ i ‹_› ‹_›)
      split
      · exact hrestored.trans (State.logFault_reads _ _)
      · exact hrestored
    · exact hread.trans (State.failRepair_reads _ i)

theorem State.load_display (slots : List (SlotId × NvSlot)) (journal : Option Journal) :
    (s.loadStart slots journal).loadFold.endLoad.display = s.display := by
  obtain ⟨-, -, -, -, -, hengine, hpanel⟩ := s.load_frame slots journal
  exact State.display_eq_iff.2 ⟨hengine, hpanel⟩

end

end Sys2Proof.Machine
end

section
/-! PROOF. PanelFilledAndStagesEnd: the fill, the traversal and the stage ends, what a panel is sent, and the rows that leave it. -/

namespace Sys2Proof.Machine

/-! ### The fill (R123) -/

theorem Sparse.find_filter_key {κ α : Type} [LinearOrder κ] (m : List (κ × α)) (keep : κ → Bool) (k : κ) :
    Sparse.find (m.filter fun e => keep e.1) k = if keep k then Sparse.find m k else none := by
  induction m with
  | nil => exact (ite_self _).symm
  | cons e rest ih =>
    obtain ⟨a, v⟩ := e
    cases ha : keep a with
    | true =>
      rw [List.filter_cons_of_pos (by exact ha), Sparse.find, Sparse.find, ih]
      by_cases hk : k = a
      · simp only [hk, ha, if_true]
      · simp only [hk, if_false]
    | false =>
      rw [List.filter_cons_of_neg (by rw [ha]; exact Bool.false_ne_true), Sparse.find, ih]
      by_cases hk : k = a
      · simp only [hk, ha, Bool.false_eq_true, if_false]
      · simp only [hk, if_false]

/-- A pixel outside a rectangle reads no fill that lies within it. -/
theorem fillsAt_filter {w h x y : Nat} (hout : ¬ (x < w ∧ y < h)) (l : List BufferFill) :
    fillsAt (l.filter fun f => !(decide (f.width ≤ w) && decide (f.height ≤ h))) x y = fillsAt l x y := by
  induction l with
  | nil => rfl
  | cons f rest ih =>
    by_cases hf : f.width ≤ w ∧ f.height ≤ h
    · rw [List.filter_cons_of_neg (by simp [hf]), ih, fillsAt, if_neg (by omega)]
    · rw [List.filter_cons_of_pos (by rw [← Bool.decide_and, decide_eq_false hf]; rfl), fillsAt, fillsAt, ih]

/-- R123: the fill replaces every pixel of its rectangle and no other. -/
theorem FrameBuffer.read_fill (b : FrameBuffer) (w h : Nat) (c : Rgb) {x : Nat} (hx : x < 4096) (y : Nat) :
    (b.fill w h c).read x y = if x < w ∧ y < h then c else b.read x y := by
  have hcolumn : pixelKey x y % 4096 = x := by unfold pixelKey; omega
  have hrow : pixelKey x y / 4096 = y := by unfold pixelKey; omega
  have hfind := Sparse.find_filter_key b.pixels (fun k => !(decide (k % 4096 < w) && decide (k / 4096 < h))) (pixelKey x y)
  rw [hcolumn, hrow] at hfind
  simp only [FrameBuffer.read, FrameBuffer.fill, Sparse.getD, hfind, fillsAt]
  by_cases hin : x < w ∧ y < h
  · simp [hin]
  · rw [if_neg hin, if_neg hin, fillsAt_filter hin, ← Bool.decide_and, decide_eq_false hin, Bool.not_false, if_pos rfl]

section
variable {s : State} {p q : Fin 4}

theorem execComposePanelFill_eq (h : s.engine.job = .compose (.fill p)) : exec .composePanelFill s =
    .next { s with engine := { s.engine with
      buffers := s.engine.buffers.set (s.engine.backIndex p)
        (s.engine.buffers[s.engine.backIndex p].fill (s.clip p).width (s.clip p).height (s.background p)),
      job := .compose (s.layerFrom p 0) } } := by
  simp only [exec, execComposePanelFill, h]
  rfl

/-! ### The traversal (R122) -/

theorem State.panelFrom_first {k : Nat} (hk : k ≤ q.val) (hq : s.enabled q = true)
    (hbelow : ∀ r : Fin 4, k ≤ r.val → r < q → s.enabled r = false) : s.panelFrom k = .fill q := by
  have hfind : (List.finRange 4).find? (fun r => decide (k ≤ r.val) && s.enabled r) = some q := by
    refine List.find?_eq_some_iff_getElem.2 ⟨by simp [hk, hq], q.val, by simp, by simp, fun j hj => ?_⟩
    by_cases hkj : k ≤ j
    · simp [hbelow ⟨j, hj.trans q.isLt⟩ hkj hj]
    · simp [hkj]
  simp only [State.panelFrom, hfind]

theorem State.panelFrom_past {k : Nat} (h : ∀ r : Fin 4, k ≤ r.val → s.enabled r = false) : s.panelFrom k = .finished := by
  have hfind : (List.finRange 4).find? (fun r => decide (k ≤ r.val) && s.enabled r) = none := by
    refine List.find?_eq_none.2 fun r _ => ?_
    by_cases hk : k ≤ r.val
    · simp [h r hk]
    · simp [hk]
  simp only [State.panelFrom, hfind]

theorem State.layerFrom_layer {sc : Scene} {k : Nat} (h : s.scenes.panels[p].active = some sc) (hk : k < sc.layers.length) :
    s.layerFrom p k = .layer p k := by
  simp only [State.layerFrom, h, hk, if_true]

theorem State.layerFrom_past {k : Nat} (h : ∀ sc, s.scenes.panels[p].active = some sc → sc.layers.length ≤ k) :
    s.layerFrom p k = s.panelFrom (p.val + 1) := by
  unfold State.layerFrom
  split
  · exact if_neg (Nat.not_lt.2 (h _ ‹_›))
  · rfl

/-! ### The stage ends (R129, R132, R141) -/

theorem execComposeStageEnd_due (h : s.engine.job = .compose .finished) :
    exec .composeStageEnd s = .next (s.clearMarks.setJob (.check 0 s.makesTest)) := by
  simp only [exec, execComposeStageEnd, h]

theorem execComposeStageEnd_other (h : s.engine.job ≠ .compose .finished) : exec .composeStageEnd s = .next s := by
  simp only [exec, execComposeStageEnd]
  split
  · exact absurd ‹_› h
  all_goals rfl

theorem execCheckStageEnd_check {i : Nat} {testing : Bool} (h : s.engine.job = .check i testing) :
    exec .checkStageEnd s = .next (if s.engine.shown.length ≤ i then s.setJob (.patch 0) else s) := by
  simp only [exec, execCheckStageEnd, h]

theorem execJobCompletion_patch {i : Nat} (h : s.engine.job = .patch i) :
    exec .jobCompletion s = .next (if s.engine.shown.length ≤ i then s.setJob .idle else s) := by
  simp only [exec, execJobCompletion, h]

/-! ### What a panel is sent (R118, R121) -/

theorem State.outputPixel_outside {x y : Nat} (h : (s.clip p).width ≤ x ∨ (s.clip p).height ≤ y) :
    s.outputPixel p x y = none :=
  if_neg (by omega)

theorem State.outputPixel_front {x y : Nat} (hx : x < (s.clip p).width) (hy : y < (s.clip p).height)
    (h : s.engine.outputs[p].showing = true) :
    s.outputPixel p x y = some (s.engine.buffers[s.engine.frontIndex p].read x y) := by
  rw [State.outputPixel, if_pos ⟨hx, hy⟩, if_pos h]

/-- What the panels are sent is decided by the outputs, the buffers and what is installed. -/
theorem State.outputPixel_eq {t : State} (ho : t.engine.outputs = s.engine.outputs) (hb : t.engine.buffers = s.engine.buffers)
    (hp : t.panel = s.panel) : t.outputPixel = s.outputPixel := by
  funext p x y
  exact State.outputPixel_congr (by rw [ho]) (by rw [hb]) (by rw [hp]) x y

theorem State.outputPixel_of_display {t : State} (h : t.display = s.display) : t.outputPixel = s.outputPixel := by
  obtain ⟨hengine, hpanel⟩ := State.display_eq_iff.1 h
  exact State.outputPixel_eq (congrArg FrameEngine.outputs hengine) (congrArg FrameEngine.buffers hengine) hpanel

/-- A panel is sent the same whatever becomes of its record, while what is installed stays. -/
theorem State.outputPixel_setPanel {r : PanelRecord} (h : r.installed = s.panel.panels[q].installed) :
    (s.setPanel q r).outputPixel = s.outputPixel := by
  funext p x y
  refine State.outputPixel_congr (s := s) (t := s.setPanel q r) rfl rfl ?_ x y
  show ((s.panel.panels.set q r)[p]).installed = (s.panel.panels[p]).installed
  rcases eq_or_ne q p with rfl | hne
  · exact (congrArg PanelRecord.installed (Vector.getElem_set_self q.isLt)).trans h
  · exact congrArg PanelRecord.installed (Vector.getElem_set_ne q.isLt p.isLt fun e => hne (Fin.ext e))

theorem State.setJob_outputPixel (s : State) (j : Job) : (s.setJob j).outputPixel = s.outputPixel := rfl

theorem State.onBack_outputPixel (f : FrameBuffer → FrameBuffer) : (s.onBack p f).outputPixel = s.outputPixel := by
  funext q x y
  exact s.outputPixel_onBack p f q x y

end

/-! ### The frame job leaves what a panel is sent -/

section
variable (s : State)

theorem State.visibility_display (l : Layer) : (s.visibility l).1.display = s.display := by
  unfold State.visibility
  repeat' split
  case h_2 => exact (s.readBody_reads _).display
  all_goals rfl

theorem State.drawTile_outputPixel (p : Fin 4) (k : Nat) (l : Layer) (code : Nat) (style : Fin 16) (dimmed : Bool)
    (dim : Byte) (d : PriceDecision) (glyphs : Option (List Nat)) :
    (s.drawTile p k l code style dimmed dim d glyphs).outputPixel = s.outputPixel := by
  rw [State.drawTile_eq, (State.tileFlagged_reports s _ _).eq]
  exact State.onBack_outputPixel (p := p) fun _ => s.tileDrawn p l style dimmed dim (s.tileFormed l style d.request glyphs)

theorem State.drawPrice_outputPixel (p : Fin 4) (k : Nat) (l : Layer) (style : Fin 16) (dimmed : Bool) (dim : Byte)
    (u : ComposeUpset) : (s.drawPrice p k l style dimmed dim u).outputPixel = s.outputPixel := by
  unfold State.drawPrice
  repeat' split
  case h_2 => exact s.drawTile_outputPixel ..
  all_goals rfl

theorem State.composeAt_outputPixel (p : Fin 4) (k : Nat) (u : ComposeUpset) :
    (s.composeAt p k u).outputPixel = s.outputPixel := by
  unfold State.composeAt
  split
  · rfl
  · rename_i l dim _
    have hv := State.outputPixel_of_display (s.visibility_display l)
    unfold State.composeLayer
    split <;> rename_i e <;> rw [e] at hv
    · exact hv
    · refine Eq.trans ?_ hv
      unfold State.drawLayer
      split
      · exact State.onBack_outputPixel _
      · exact State.onBack_outputPixel _
      · exact State.drawPrice_outputPixel ..
    · refine Eq.trans ?_ hv
      unfold State.drawFault
      split
      · exact State.drawTile_outputPixel ..
      all_goals rfl

theorem State.patchAt_outputPixel (i : Nat) (r : ShownRecord) : (s.patchAt i r).outputPixel = s.outputPixel := by
  have hdraw : (s.drawPatch r).outputPixel = s.outputPixel := by
    unfold State.drawPatch
    dsimp only
    split
    · rfl
    · split
      · exact State.onBack_outputPixel _
      · exact (State.onBack_outputPixel _).trans (State.onBack_outputPixel _)
  unfold State.patchAt
  split
  · rfl
  · exact hdraw

theorem State.checkAt_outputPixel (stuck testing : Bool) (i : Nat) (r : ShownRecord) :
    (s.checkAt stuck testing i r).outputPixel = s.outputPixel := by
  have hleaves := s.checkAt_leaves stuck testing i r
  obtain ⟨testing', hengine⟩ := hleaves.engine
  have hpanel : (s.checkAt stuck testing i r).panel = s.panel := by rw [hleaves.checks.eq]
  exact State.outputPixel_eq (by rw [hengine]) (by rw [hengine]) hpanel

/-! ### Sensors leave what a panel is sent -/

theorem PanelRecord.dropToCap_installed (r : PanelRecord) : r.dropToCap.installed = r.installed := by
  unfold PanelRecord.dropToCap
  split <;> rfl

theorem PanelRecord.thermistor_installed (r : PanelRecord) (c : Nat) :
    ((r.installThermal.testFault c).testThermal c).installed = r.installed := by
  have hthermal : r.installThermal.installed = r.installed := by
    unfold PanelRecord.installThermal
    split
    · exact PanelRecord.dropToCap_installed _
    · rfl
  have hfault : (r.installThermal.testFault c).installed = r.installed := (PanelRecord.dropToCap_installed _).trans hthermal
  unfold PanelRecord.testThermal
  split
  · exact hfault
  · exact (PanelRecord.dropToCap_installed _).trans hfault

theorem State.thermistorRead_outputPixel (p : Fin 4) (c : Nat) : (s.thermistorRead p c).outputPixel = s.outputPixel := by
  have raised : ∀ (t : State) (b : Bool) (f : ContentFlag), (t.raiseIf b f).outputPixel = t.outputPixel := fun t b f => by
    cases b <;> rfl
  unfold State.thermistorRead
  dsimp only
  rw [raised, raised]
  exact State.outputPixel_setPanel (PanelRecord.thermistor_installed _ c)

end

/-! ### Content commands leave what a panel is sent -/

/-- An owner of content commands that leaves what the panels are sent. -/
def SendsSame (owner : State → CommandResult) : Prop := ∀ s, (owner s).state.outputPixel = s.outputPixel

theorem SendsSame.of_display {owner : State → CommandResult} (h : ∀ s, (owner s).state.display = s.display) :
    SendsSame owner := fun s => State.outputPixel_of_display (h s)

theorem SendsSame.panelSet (p e r : Byte) : SendsSame (panelSetOwner p e r) := fun s => by
  unfold panelSetOwner
  split
  · exact State.outputPixel_setPanel rfl
  · rfl

theorem SendsSame.curveSet (f : CurveForm) : SendsSame (curveSetOwner f) := fun s => by
  unfold curveSetOwner
  split
  · rfl
  · split
    · exact State.outputPixel_setPanel rfl
    · rfl

theorem SendsSame.thermalSet (f : ThermalForm) : SendsSame (thermalSetOwner f) := fun s => by
  unfold thermalSetOwner
  split
  · dsimp only
    split
    · exact State.outputPixel_setPanel rfl
    · rfl
  · rfl

theorem SendsSame.backlightRestart (p : Byte) : SendsSame (backlightRestartOwner p) := fun s => by
  unfold backlightRestartOwner
  split
  · rfl
  · split
    · exact State.outputPixel_setPanel rfl
    all_goals rfl

theorem SendsSame.frameRateSet (r : Byte) : SendsSame (frameRateSetOwner r) := fun s => by
  unfold frameRateSetOwner
  split <;> rfl

theorem SendsSame.takeCommand {owner : State → CommandResult} (h : SendsSame owner) (s : State) (code : Byte)
    (go : BitVec 32) : (s.takeCommand code go owner).outputPixel = s.outputPixel := by
  unfold State.takeCommand CommandResult.complete
  dsimp only
  split
  · rfl
  · exact h (s.tagged go)

section
variable {s t : State}

/-- No command that a go word takes changes what a panel is sent. -/
theorem State.runRecord_outputPixel (s : State) (go : BitVec 32) : (s.runRecord go).outputPixel = s.outputPixel := by
  unfold State.runRecord
  dsimp only
  split
  case h_11 => exact (SendsSame.panelSet _ _ _).takeCommand ..
  case h_12 => exact (SendsSame.curveSet _).takeCommand ..
  case h_13 => exact (SendsSame.thermalSet _).takeCommand ..
  case h_14 => exact (SendsSame.backlightRestart _).takeCommand ..
  case h_15 => exact (SendsSame.frameRateSet _).takeCommand ..
  case h_17 | h_19 => exact (SendsSame.of_display fun _ => rfl).takeCommand ..
  all_goals exact (SendsSame.of_display fun t => by simp).takeCommand ..

theorem State.windowWrite_outputPixel (s : State) (o : Nat) (l : List Byte) :
    (s.windowWrite o l).outputPixel = s.outputPixel := by
  unfold State.windowWrite State.controlWrite
  repeat' split
  · exact State.outputPixel_of_display (s.apertureWrite_display o l)
  · exact s.runRecord_outputPixel _
  all_goals rfl

theorem command_outputPixel {c : Instr} {r : CommandRow} (hr : commandRow c = some r) (e : exec c s = .next t) :
    t.outputPixel = s.outputPixel := by
  have keeps : ∀ {owner : State → CommandResult} (_ : SendsSame owner) (l : List (Nat × List Byte)) (code : Byte)
      (go : BitVec 32), ((s.writeRecord l).takeCommand code go owner).outputPixel = s.outputPixel := fun ho l code go =>
    ho.takeCommand (s.writeRecord l) code go
  unfold commandRow at hr
  split at hr
  case h_11 => cases e; exact keeps (.panelSet _ _ _) ..
  case h_12 => cases e; exact keeps (.curveSet _) ..
  case h_13 => cases e; exact keeps (.thermalSet _) ..
  case h_14 => cases e; exact keeps (.backlightRestart _) ..
  case h_15 => cases e; exact keeps (.frameRateSet _) ..
  case h_17 => cases e; exact keeps (.of_display fun _ => rfl) ..
  case h_19 => cases hr
  all_goals
    cases e
    exact keeps (.of_display fun t => by simp) ..

/-! ### Every row but a frame start and a power-on reset -/

theorem request_outputPixel {c : Instr} {k : Nat} {a : Addressing} {l : List Byte} (hr : requestRow k a l = some c)
    (e : exec c s = .next t) : t.outputPixel = s.outputPixel := State.outputPixel_of_display (request_display s hr e)

/-- Nothing but a frame start and a power-on reset changes what a panel is sent. -/
theorem exec_outputPixel {c : Instr} (hframe : ∀ b, c ≠ .frameStart b)
    (hreset : ∀ straps large, c ≠ .powerOnReset straps large)
    (e : exec c s = .next t) : t.outputPixel = s.outputPixel := by
  cases c
  case powerOnReset straps large => exact absurd rfl (hreset straps large)
  case frameStart first => exact absurd rfl (hframe first)
  -- The stages of a frame job.
  case composePanelFill =>
    cases e
    split
    · exact (State.setJob_outputPixel _ _).trans (State.onBack_outputPixel _)
    all_goals rfl
  case composeLayer u =>
    cases e
    split
    · exact (State.composeAt_outputPixel ..).trans (State.outputPixel_of_display (State.upsets_reads u.bodies s).display)
    all_goals rfl
  case checkRecord l stuck =>
    cases e
    split
    · split
      · exact (State.checkAt_outputPixel ..).trans (State.outputPixel_of_display (State.upsets_reads l s).display)
      · rfl
    all_goals rfl
  case patchRecord =>
    cases e
    split
    · split
      · exact s.patchAt_outputPixel ..
      · rfl
    all_goals rfl
  case composeStageEnd | checkStageEnd | jobCompletion =>
    cases e
    repeat' split
    all_goals rfl
  -- The panel unit and the content port.
  case sensorConversionCompletion code =>
    cases e
    split
    · rfl
    · dsimp only
      repeat' split
      · rfl
      · exact State.thermistorRead_outputPixel ..
      · exact State.outputPixel_setPanel rfl
  case assetOpen | assetClose | assetAbort | assetFree | assetQuery | sceneBegin | layerAdd | sceneSubmit | sceneDiscard
      | styleSet | panelSet | curveSet | thermalSet | backlightRestart | frameRateSet | itemQuery | statusQuery =>
    exact command_outputPixel rfl e
  case unknownCommand go code => cases e; exact State.runRecord_outputPixel (s.writeRecord _) go
  case registerWrite o l => cases e; exact s.windowWrite_outputPixel _ _
  case apertureWrite o l => cases e; exact State.outputPixel_of_display (s.apertureWrite_display _ _)
  case pcieLinkReset => cases e; exact State.outputPixel_of_display (State.discardAllBuilding_display _)
  case secondTick | summaryWordRead | loadFaultRecordRead | messageEnable => cases e; rfl
  -- The POS link.
  case lineByte b fe =>
    cases e
    split
    · rfl
    · exact State.outputPixel_of_display (s.receiveByte_display b fe)
  case frameDropped frame =>
    cases e
    exact State.outputPixel_of_display (s.onFrame_display fun t => t.acceptFrame_display frame)
  case unknownKind a kind l =>
    cases e
    exact State.outputPixel_of_display (s.onFrame_display fun t => t.takeKind_display a kind l)
  case idlePeriodExpiry | frameGapExpiry | answerBegin | answerEnd | holdExpiry | repairReadStart =>
    cases e
    repeat' split
    all_goals rfl
  case status a l => exact request_outputPixel (k := 0x01) (a := a) (l := l) rfl e
  case itemStage a l => exact request_outputPixel (k := 0x02) (a := a) (l := l) rfl e
  case itemRemove a l => exact request_outputPixel (k := 0x03) (a := a) (l := l) rfl e
  case promoStage a l => exact request_outputPixel (k := 0x04) (a := a) (l := l) rfl e
  case rulesStage a l => exact request_outputPixel (k := 0x05) (a := a) (l := l) rfl e
  case stageAbort a l => exact request_outputPixel (k := 0x06) (a := a) (l := l) rfl e
  case commit a l => exact request_outputPixel (k := 0x07) (a := a) (l := l) rfl e
  case apply a l => exact request_outputPixel (k := 0x08) (a := a) (l := l) rfl e
  case commitCancel a l => exact request_outputPixel (k := 0x09) (a := a) (l := l) rfl e
  case availSet a l => exact request_outputPixel (k := 0x0A) (a := a) (l := l) rfl e
  case scheduleSet a l => exact request_outputPixel (k := 0x0B) (a := a) (l := l) rfl e
  case daypartForce a l => exact request_outputPixel (k := 0x0C) (a := a) (l := l) rfl e
  case timeSet a l => exact request_outputPixel (k := 0x0D) (a := a) (l := l) rfl e
  case itemRead a l => exact request_outputPixel (k := 0x0E) (a := a) (l := l) rfl e
  case suspendedList a l => exact request_outputPixel (k := 0x0F) (a := a) (l := l) rfl e
  case suspendClear a l => exact request_outputPixel (k := 0x10) (a := a) (l := l) rfl e
  case nvaReport a l => exact request_outputPixel (k := 0x11) (a := a) (l := l) rfl e
  case checkTest path =>
    cases path with
    | posLink a l => exact request_outputPixel (k := 0x12) (a := a) (l := l) rfl e
    | contentPort go => exact command_outputPixel rfl e
  -- The change stager and the array.
  case commitCheckCompletion l =>
    cases e
    repeat' split
    case isTrue =>
      exact State.outputPixel_of_display ((State.finishCheck_display _ _).trans
        ((State.readBodies_reads _ _).display.trans (State.upsets_reads l s).display))
    all_goals rfl
  case loadCompletion slots journal =>
    rw [Machine.exec, execLoadCompletion_eq] at e
    cases e
    split
    · exact State.outputPixel_of_display (s.load_display slots journal)
    · rfl
  case slotWriteBegin l =>
    cases e
    split
    · exact State.outputPixel_of_display ((State.upsets_reads l s).trans (State.beginWrite_reads _ _ _)).display
    · rfl
  case slotWriteCompletion found =>
    cases e
    split
    · exact State.outputPixel_of_display (s.completeWrite_reads _ _).display
    all_goals rfl
  case repairReadCompletion found =>
    cases e
    split
    · exact State.outputPixel_of_display (s.completeRepair_reads _ _).display
    all_goals rfl

end

/-- Settles O34: the fill, the traversal, the stage ends and what a panel is sent, each by its equation, and the rows that leave
what a panel is sent. -/
theorem panelFilledAndStagesEnd : Obligations.PanelFilledAndStagesEnd := by
  unfold Obligations.PanelFilledAndStagesEnd
  refine ⟨fun s p hj => ?_, fun s p k => ⟨?_, fun hpast => ?_⟩, fun s => ⟨?_, ?_, ?_, ?_⟩, fun s p x y => ?_,
    fun c s t hframe hreset e p x y => ?_⟩
  · exact ⟨_, execComposePanelFill_eq hj, fun x y hx => FrameBuffer.read_fill _ _ _ _ hx y⟩
  · exact fun sc hsc hk => State.layerFrom_layer hsc hk
  · rw [State.layerFrom_past hpast]
    exact ⟨fun q hpq hq hbelow => State.panelFrom_first hpq hq hbelow, fun hnone => State.panelFrom_past hnone⟩
  · exact execComposeStageEnd_due
  · exact execComposeStageEnd_other
  · intro i testing hj
    rw [execCheckStageEnd_check hj]
    exact ⟨fun hi => by rw [if_pos hi], fun hi => by rw [if_neg (by omega)]⟩
  · intro i hj
    rw [execJobCompletion_patch hj]
    exact ⟨fun hi => by rw [if_pos hi], fun hi => by rw [if_neg (by omega)]⟩
  · intro size
    have hsize : size = ((s.clip p).width, (s.clip p).height) := by
      unfold State.clip
      dsimp only [size]
      cases s.panel.panels[p].installed.resolution <;> rfl
    rw [hsize]
    refine ⟨State.outputPixel_outside, State.outputPixel_blank, fun hx hy hshow b hb => ?_⟩
    obtain rfl : b = s.engine.frontIndex p := Fin.ext hb
    exact State.outputPixel_front hx hy hshow
  · exact congrFun (congrFun (congrFun (exec_outputPixel hframe hreset e) p) x) y

end Sys2Proof.Machine
end

section
/-! PROOF. SuspensionsAndSelfTestRequests: the report of the suspended set, an entry removed, and the self-test armed from either
port. -/

namespace Sys2Proof.Machine

/-! ### The report of the suspended set (R139) -/

/-- Table 12-5: what stands before the entries of a SUSPENDED_LIST answer. -/
def suspendedListHead (count start : Nat) : List Byte := 0x00 :: (beBytes 2 count ++ beBytes 2 start)

/-- Table 12-5: the answer of SUSPENDED_LIST from a position. -/
def Checker.report (c : Checker) (start : Nat) : List Byte :=
  suspendedListHead c.suspended.length start ++ ((c.suspended.drop start).take 19).flatMap suspendedEntry

theorem suspendedListOwner_eq {n : Nat} (h : n < 65536) (s : State) :
    suspendedListOwner (beBytes 2 n) s = (s, some (s.checker.report n)) := by
  simp only [suspendedListOwner, beAt_beBytes_two h]
  rfl

theorem suspendedListHead_read {count start : Nat} (hc : count < 65536) (hs : start < 65536) (l : List Byte) :
    beAt (suspendedListHead count start ++ l) 1 2 = count ∧ beAt (suspendedListHead count start ++ l) 3 2 = start := by
  rw [beAt_two, beAt_two]
  exact ⟨two_bytes hc, two_bytes hs⟩

/-- An entry of the answer: its code, then its reason. -/
theorem suspendedEntry_read {e : Nat × SuspendReason} (h : e.1 < 65536) :
    byteAt (suspendedEntry e) 0 * 256 + byteAt (suspendedEntry e) 1 = e.1 ∧
      byteAt (suspendedEntry e) 2 = (suspensionByte (some e.2)).toNat :=
  ⟨two_bytes h, rfl⟩

/-- Forms of one length in a row are read byte by byte, wherever they stand. -/
theorem byteAt_flatMap {α : Type} {f : α → List Byte} {n : Nat} (hf : ∀ x, (f x).length = n) {l : List α} {k : Nat} {x : α}
    (h : l[k]? = some x) {i : Nat} (hi : i < n) (front : List Byte) :
    byteAt (front ++ l.flatMap f) (front.length + (n * k + i)) = byteAt (f x) i := by
  obtain ⟨rest, hrest⟩ := drop_flatMap hf h []
  rw [List.append_nil] at hrest
  calc byteAt (front ++ l.flatMap f) (front.length + (n * k + i))
      = byteAt ((l.flatMap f).drop (n * k)) i := by rw [byteAt_append_right]; simp [byteAt]
    _ = byteAt (f x) i := by rw [hrest, byteAt_append_left (by rw [hf]; exact hi)]

section
variable {c : Checker} {n : Nat}

theorem Checker.report_length : (c.report n).length = 5 + 3 * min 19 (c.suspended.length - n) := by
  rw [Checker.report, List.length_append, flatMap_length (n := 3) (fun _ => rfl), List.length_take, List.length_drop]
  rfl

/-- Entry `k` of the answer is entry `n + k` of the set. -/
theorem Checker.report_entry {k : Nat} (hk : k < 19) {e : Nat × SuspendReason} (he : c.suspended[n + k]? = some e)
    (hcode : e.1 < 65536) : beAt (c.report n) (5 + 3 * k) 2 = e.1 ∧
      byteAt (c.report n) (7 + 3 * k) = (suspensionByte (some e.2)).toNat := by
  have hget : ((c.suspended.drop n).take 19)[k]? = some e := by
    rw [List.getElem?_take_of_lt hk, List.getElem?_drop, he]
  have hbyte {i : Nat} (hi : i < 3) : byteAt (c.report n) (5 + (3 * k + i)) = byteAt (suspendedEntry e) i :=
    byteAt_flatMap (f := suspendedEntry) (fun _ => rfl) hget hi (suspendedListHead c.suspended.length n)
  obtain ⟨hfirst, hreason⟩ := suspendedEntry_read hcode
  constructor
  · rw [beAt_two, Nat.add_assoc, hbyte (by decide), ← Nat.add_zero (3 * k), hbyte (by decide), hfirst]
  · rw [← hreason, ← hbyte (by decide)]
    exact congrArg _ (by omega)

end

/-! ### An entry removed (R140) -/

section
variable {s : State} {n : Nat}

theorem suspendClearOwner_invalid (h : n < 65536) (hv : validCode n = false) :
    suspendClearOwner (beBytes 2 n) s = (s, some [0x04]) := by
  simp only [suspendClearOwner, beAt_beBytes_two h, hv]
  rfl

theorem suspendClearOwner_absent (h : n < 65536) (hv : validCode n = true) (hs : s.suspension n = none) :
    suspendClearOwner (beBytes 2 n) s = (s, some [0x06]) := by
  simp only [suspendClearOwner, beAt_beBytes_two h, hv, hs]
  rfl

/-- R140: only a repair lifts a suspension for parity or an unrepairable record. -/
theorem suspendClearOwner_record (h : n < 65536) (hv : validCode n = true)
    (hs : s.suspension n = some .parity ∨ s.suspension n = some .unrepairable) :
    suspendClearOwner (beBytes 2 n) s = (s, some [0x04]) := by
  rcases hs with hs | hs <;> simp only [suspendClearOwner, beAt_beBytes_two h, hv, hs] <;> rfl

theorem suspendClearOwner_mismatch (h : n < 65536) (hv : validCode n = true) (hs : s.suspension n = some .mismatch) :
    suspendClearOwner (beBytes 2 n) s = (s.setSuspended (Sparse.drop s.checker.suspended n), some [0x00]) := by
  simp only [suspendClearOwner, beAt_beBytes_two h, hv, hs, State.unsuspend]
  rfl

/-! ### The self-test (R141) -/

theorem checkTestOwner_clear (h : s.checker.latch = false) : checkTestOwner s = (s.armTest, some [0x00]) := by
  rw [checkTestOwner, h]
  rfl

theorem checkTestOwner_latched (h : s.checker.latch = true) : checkTestOwner s = (s, some [0x0E]) := by
  rw [checkTestOwner, h]
  rfl

theorem checkTestCommand_clear (h : s.checker.latch = false) : checkTestCommand s = ⟨s.armTest, .ok, []⟩ := by
  rw [checkTestCommand, h]
  rfl

theorem checkTestCommand_latched (h : s.checker.latch = true) : checkTestCommand s = ⟨s, .refused, []⟩ := by
  rw [checkTestCommand, h]
  rfl

end

/-! ### The rows -/

section
variable {s t : State} {n : Nat} {p : List Byte}

/-- SUSPENDED_LIST answers what its owner makes of the state at the end of its frame. -/
theorem exec_suspendedList_answers (h : s.TakesRequests) (ho : suspendedListOwner (beBytes 2 n) s.frameEnd = (t, some p)) :
    exec (.suspendedList .addressed (beBytes 2 n)) s = t.answers 0x0F p :=
  congrArg Host.Outcome.next (h.handed (r := suspendedListRequest (beBytes 2 n)) rfl ho)

theorem exec_suspendClear_answers (h : s.TakesRequests) (ho : suspendClearOwner (beBytes 2 n) s.frameEnd = (t, some p)) :
    exec (.suspendClear .addressed (beBytes 2 n)) s = t.answers 0x10 p :=
  congrArg Host.Outcome.next (h.handed (r := suspendClearRequest (beBytes 2 n)) rfl ho)

theorem exec_checkTest_answers (h : s.TakesRequests) (ho : checkTestOwner s.frameEnd = (t, some p)) :
    exec (.checkTest (.posLink .addressed [])) s = t.answers 0x12 p :=
  congrArg Host.Outcome.next (h.handed (r := checkTestRequest []) rfl ho)

/-- CHECK_TEST on the content port completes as its owner decides. -/
theorem checkTest_completes {go : BitVec 32} (hl : s.nva.loading = false) {effect : State → State} {st : ContentStatus}
    {answer : List Byte} (ho : ∀ u : State, u.checker = s.checker → checkTestCommand u = ⟨effect u, st, answer⟩) :
    s.Completes (.checkTest (.contentPort go)) effect st answer :=
  command_completes rfl rfl hl (ho _ rfl)

end

/-- Settles O25: the answer of SUSPENDED_LIST read back, SUSPEND_CLEAR by the entry of the code, and CHECK_TEST on each path by
the latch. -/
theorem suspensionsAndSelfTestRequests : Obligations.SuspensionsAndSelfTestRequests := by
  unfold Obligations.SuspensionsAndSelfTestRequests
  refine ⟨fun s n hs hn => ⟨fun hcount hcodes => ?_, fun hbad => ?_, fun h1 h2 => ?_⟩, fun s go => ⟨fun hs hl => ?_,
    fun hs hl => ?_, fun hload hl => ?_, fun hload hl => ?_⟩⟩
  · have hown := suspendedListOwner_eq hn s.frameEnd
    rw [State.frameEnd_checker] at hown
    obtain ⟨hlength, hstart⟩ := suspendedListHead_read (by omega : s.checker.suspended.length < 65536) hn
      (((s.checker.suspended.drop n).take 19).flatMap suspendedEntry)
    refine ⟨_, exec_suspendedList_answers hs hown, rfl, hlength, hstart, Checker.report_length, fun k hk e he => ?_⟩
    obtain ⟨hcode, hreason⟩ := Checker.report_entry hk he (hcodes e (List.mem_of_getElem? he))
    refine ⟨hcode, hreason.trans ?_⟩
    cases e.2 <;> rfl
  · refine exec_suspendClear_answers hs (suspendClearOwner_invalid hn ?_)
    rcases hbad with rfl | rfl <;> rfl
  · have hv := validCode_iff.2 ⟨h1, h2⟩
    have hsusp : s.frameEnd.suspension n = s.suspension n := State.suspension_congr (by rw [State.frameEnd_checker]) n
    rw [← hsusp]
    refine ⟨fun h => exec_suspendClear_answers hs (suspendClearOwner_absent hn hv h),
      fun h => exec_suspendClear_answers hs (suspendClearOwner_record hn hv h), fun h => ?_⟩
    rw [← State.frameEnd_checker]
    exact exec_suspendClear_answers hs (suspendClearOwner_mismatch hn hv h)
  · rw [← State.frameEnd_checker] at hl ⊢
    exact exec_checkTest_answers hs (checkTestOwner_clear hl)
  · rw [← State.frameEnd_checker] at hl
    exact exec_checkTest_answers hs (checkTestOwner_latched hl)
  · exact checkTest_completes hload fun u hu => checkTestCommand_clear (hu ▸ hl)
  · exact checkTest_completes hload fun u hu => checkTestCommand_latched (hu ▸ hl)

end Sys2Proof.Machine
end

section
/-! PROOF. RejectedTilePatched: the reason a patch gives, the rectangle it paints, and the back buffer it leaves. -/

namespace Sys2Proof.Machine

/-! ### The rectangle painted (R137) -/

section
variable {u v : Nat}

/-- A fold whose steps each write one colour at a pixel, or leave it, writes that colour where some step does. -/
theorem FrameBuffer.read_foldl_paint {ι : Type} {f : FrameBuffer → ι → FrameBuffer} {paints : ι → Prop}
    [DecidablePred paints] {c : Rgb} (hstep : ∀ b i, (f b i).read u v = if paints i then c else b.read u v) (l : List ι)
    (b : FrameBuffer) : (l.foldl f b).read u v = if ∃ i ∈ l, paints i then c else b.read u v := by
  induction l generalizing b with
  | nil => simp
  | cons i l ih =>
    rw [List.foldl_cons, ih, hstep]
    by_cases hi : paints i <;> simp [hi]

/-- R137: the pixels of the box within the panel become the colour, and no other changes. -/
theorem FrameBuffer.read_paintRect {clip : Clip} (hc : clip.width ≤ 4096) (hu : u < 4096) (box : Box) (c : Rgb)
    (b : FrameBuffer) : (b.paintRect clip box c).read u v =
      if box.x ≤ u ∧ u < box.x + box.w ∧ box.y ≤ v ∧ v < box.y + box.h ∧ u < clip.width ∧ v < clip.height then c
      else b.read u v := by
  have hpixel (b : FrameBuffer) (x y : Nat) :
      (if x < clip.width ∧ y < clip.height then b.write x y c else b).read u v =
        if u = x ∧ v = y ∧ u < clip.width ∧ v < clip.height then c else b.read u v := by
    by_cases hin : x < clip.width ∧ y < clip.height
    · rw [if_pos hin, FrameBuffer.read_write b x y u v c (by omega) hu]
      exact if_congr (by omega) rfl rfl
    · rw [if_neg hin, if_neg (by omega)]
  have hrow (b : FrameBuffer) (r : Nat) := FrameBuffer.read_foldl_paint (fun b k => hpixel b (box.x + k) (box.y + r))
    (List.range box.w) b
  refine (FrameBuffer.read_foldl_paint hrow (List.range box.h) b).trans (if_congr ?_ rfl rfl)
  simp only [List.mem_range]
  constructor
  · rintro ⟨r, hr, k, hk, rfl, rfl, hx, hy⟩
    omega
  · rintro ⟨hx0, hx1, hy0, hy1, hx, hy⟩
    exact ⟨v - box.y, by omega, u - box.x, by omega, by omega, by omega, hx, hy⟩

end

/-! ### The back buffer of a patch (R137) -/

theorem State.onBack_id (s : State) (p : Fin 4) : s.onBack p id = s := by
  simp [State.onBack]

/-- Two changes of a back buffer are one. -/
theorem State.onBack_onBack (s : State) (p : Fin 4) (f g : FrameBuffer → FrameBuffer) :
    (s.onBack p f).onBack p g = s.onBack p (g ∘ f) := by
  have hset (bs : Vector FrameBuffer 8) (i : Fin 8) (b : FrameBuffer) :
      (bs.set i b).set i (g (bs.set i b)[i]) = bs.set i (g b) := by simp
  exact congrArg (fun bs => { s with engine := { s.engine with buffers := bs } }) (hset ..)

section
variable (s : State) (r : ShownRecord) (b : FrameBuffer)

/-- R137: the box of a record filled with its panel's background. -/
def State.patchFilled : FrameBuffer := b.paintRect (s.clip r.panel) r.box (s.background r.panel)

/-- R137: the dash string of a record drawn from its box's origin. -/
def State.patchDashes (st : Style) : FrameBuffer :=
  drawGlyphs s.assets st (s.clip r.panel) st.colour 255 dashString r.box.x r.box.y b

/-- R137: what a patch makes of the back buffer of the record's panel. -/
def State.patchBuffer : FrameBuffer :=
  if r.box.isEmpty then b
  else (s.recordStyle r).elim (s.patchFilled r b) (s.patchDashes r (s.patchFilled r b))

theorem State.drawPatch_eq : s.drawPatch r = s.onBack r.panel (s.patchBuffer r) := by
  unfold State.drawPatch State.patchBuffer
  by_cases he : r.box.isEmpty = true
  · simp only [if_pos he]
    exact (s.onBack_id r.panel).symm
  · simp only [if_neg he]
    cases s.recordStyle r with
    | none => rfl
    | some st => exact s.onBack_onBack ..

end

section
variable {s : State} {r : ShownRecord} {b : FrameBuffer}

theorem Box.isEmpty_iff {box : Box} : box.isEmpty = true ↔ box.w = 0 ∧ box.h = 0 := by
  simp [Box.isEmpty]

theorem State.patchBuffer_empty (h : r.box.w = 0 ∧ r.box.h = 0) : s.patchBuffer r b = b :=
  if_pos (Box.isEmpty_iff.2 h)

theorem State.patchBuffer_styled {st : Style} (hst : s.recordStyle r = some st) (h : ¬ (r.box.w = 0 ∧ r.box.h = 0)) :
    s.patchBuffer r b = s.patchDashes r (s.patchFilled r b) st := by
  rw [State.patchBuffer, if_neg (mt Box.isEmpty_iff.1 h), hst, Option.elim_some]

section
variable {x y : Nat} (hx : x < 4096)
include hx

theorem State.read_patchFilled : (s.patchFilled r b).read x y =
    if r.box.x ≤ x ∧ x < r.box.x + r.box.w ∧ r.box.y ≤ y ∧ y < r.box.y + r.box.h ∧
        x < (s.clip r.panel).width ∧ y < (s.clip r.panel).height then s.background r.panel
    else b.read x y :=
  FrameBuffer.read_paintRect (Resolution.clip_width_le _) hx ..

/-- Outside the three dash cells a patch only fills the box. -/
theorem State.read_patchBuffer_outside {st : Style} (hst : s.recordStyle r = some st)
    (hout : ¬ (r.box.x ≤ x ∧ x < r.box.x + 3 * st.cw ∧ r.box.y ≤ y ∧ y < r.box.y + st.ch)) :
    (s.patchBuffer r b).read x y = (s.patchFilled r b).read x y := by
  by_cases he : r.box.w = 0 ∧ r.box.h = 0
  · rw [State.patchBuffer_empty he, State.read_patchFilled hx, if_neg (by omega)]
  · rw [State.patchBuffer_styled hst he]
    exact FrameBuffer.read_drawGlyphs_outside (Resolution.clip_width_le _) st.colour 255 hx dashString hout _

end

/-! ### The reason a patch gives (R136) -/

theorem State.patchReason_left (hm : r.mark = none)
    (h : r.reason ≠ .none ∨ (s.checker.latch = false ∧ s.suspension r.code = none)) : s.patchReason r = none := by
  rw [State.patchReason, hm]
  rcases h with h | ⟨hl, hs⟩
  · simp [ShownRecord.digits, h]
  · simp [hl, hs]

theorem State.patchReason_marked (hm : r.mark ≠ none) : s.patchReason r = some .mismatch := by
  obtain ⟨m, hm⟩ := Option.ne_none_iff_exists'.1 hm
  rw [State.patchReason, hm]

theorem State.patchReason_latched (hm : r.mark = none) (hr : r.reason = .none) (hl : s.checker.latch = true) :
    s.patchReason r = some .checkPathFail := by
  simp [State.patchReason, ShownRecord.digits, hm, hr, hl]

theorem State.patchReason_suspended (hm : r.mark = none) (hr : r.reason = .none) (hl : s.checker.latch = false)
    (hs : s.suspension r.code ≠ none) : s.patchReason r = some .mismatch := by
  simp [State.patchReason, ShownRecord.digits, hm, hr, hl, Option.isSome_iff_ne_none, hs]

/-! ### The row -/

variable {i : Nat} (hj : s.engine.job = .patch i) (hr : s.engine.shown[i]? = some r)
include hj hr

theorem execPatchRecord_visit : exec .patchRecord s = .next ((s.patchAt i r).setJob (.patch (i + 1))) := by
  simp only [exec, execPatchRecord, hj, hr]

theorem execPatchRecord_left (h : s.patchReason r = none) : exec .patchRecord s = .next (s.setJob (.patch (i + 1))) := by
  rw [execPatchRecord_visit hj hr, State.patchAt, h]

/-- R136, R137: a patched record takes the dash string and its reason, and its panel's back buffer the patch. -/
theorem execPatchRecord_patched {why : DashReason} (h : s.patchReason r = some why) : exec .patchRecord s =
    .next { s with engine := { s.engine with
      shown := s.engine.shown.set i (r.patched why), job := .patch (i + 1),
      buffers := s.engine.buffers.set (s.engine.backIndex r.panel)
        (s.patchBuffer r s.engine.buffers[s.engine.backIndex r.panel]) } } := by
  rw [execPatchRecord_visit hj hr, State.patchAt, h, State.drawPatch_eq]
  rfl

end

/-- Settles O38: the reason decides whether a record is left or patched, and the patch of the back buffer gives the pixels. -/
theorem rejectedTilePatched : Obligations.RejectedTilePatched := by
  unfold Obligations.RejectedTilePatched
  intro s i r hj hr
  refine ⟨fun hm h => execPatchRecord_left hj hr (State.patchReason_left hm h), fun why h => ?_⟩
  have hwhy : s.patchReason r = some why := by
    rcases h with ⟨hm, rfl⟩ | ⟨hm, hd, hl, rfl⟩ | ⟨hm, hd, hl, hs, rfl⟩
    · exact State.patchReason_marked hm
    · exact State.patchReason_latched hm hd hl
    · exact State.patchReason_suspended hm hd hl hs
  refine ⟨_, execPatchRecord_patched hj hr hwhy, fun hw hh => State.patchBuffer_empty ⟨hw, hh⟩,
    fun st hst he => ⟨_, State.patchBuffer_styled hst he, fun x y hx => State.read_patchFilled hx⟩,
    fun st hst x y hx hout => ?_⟩
  rw [State.read_patchBuffer_outside hx hst hout]
  exact State.read_patchFilled hx

end Sys2Proof.Machine
end

section
/-! PROOF. ConversionUsedOrDiscarded: the duty under a cap that falls, and what the completion of a conversion makes of a code. -/

namespace Sys2Proof.Machine

/-! ### The cap, and the duty under it (R151) -/

/-- R151: the cap that thermal settings give in a thermal state, with or without a sensor fault. -/
def ThermalSettings.capIn (th : ThermalSettings) (st : ThermalState) (fault : Bool) : Nat :=
  match st with
  | .normal => if fault then th.derateCap else 1000
  | .warm => th.derateCap
  | .hotOff => 0
  | .cooledWait => 0

theorem PanelRecord.cap_eq (r : PanelRecord) : r.cap = r.thermal.capIn r.thermalState r.sensorFault := by
  unfold PanelRecord.cap ThermalSettings.capIn
  cases r.thermalState <;> rfl

theorem PanelRecord.dropToCap_eq (r : PanelRecord) : r.dropToCap = { r with applied := min r.applied r.cap } := by
  unfold PanelRecord.dropToCap
  split
  · rename_i h
    rw [Nat.min_eq_right h.le]
  · rename_i h
    rw [Nat.min_eq_left (Nat.not_lt.1 h)]

/-! ### A thermistor code at one panel (R152 to R154) -/

theorem thermalNext_hotOff (t : ThermalSettings) (n : Nat) : thermalNext t .hotOff n =
    if t.restore < n then .hotOff else match t.restart with
      | .auto => .normal
      | .manual => .cooledWait := by
  unfold thermalNext
  by_cases h : n ≤ t.restore
  · simp only [h, Nat.not_lt.2 h, if_true, if_false]
    cases t.restart <;> rfl
  · simp only [h, Nat.lt_of_not_le h, if_true, if_false]

theorem faultCode_eq (n : Nat) : faultCode n = decide (n = 0 ∨ n = 1023) := (Bool.decide_or _ _).symm

section
variable (r : PanelRecord) (n : Nat)

/-- R152: the thermal settings in force once those that wait are installed. -/
def PanelRecord.inForce : ThermalSettings := r.pendingThermal.getD r.thermal

/-- R152: the duty once the settings that wait are installed. -/
def PanelRecord.dutyInForce : Nat :=
  if r.pendingThermal.isSome then min r.applied (r.inForce.capIn r.thermalState r.sensorFault) else r.applied

/-- R153, R154: the thermal state after a code; a faulty code leaves it. -/
def PanelRecord.stateAfter : ThermalState :=
  if faultCode n then r.thermalState else thermalNext r.inForce r.thermalState n

/-- R151 to R154: a panel record after a thermistor code. -/
def PanelRecord.afterCode : PanelRecord :=
  { r with thermal := r.inForce, pendingThermal := none, lastThermistor := n, sensorFault := faultCode n,
           thermalState := r.stateAfter n,
           applied := min (min r.dutyInForce (r.inForce.capIn r.thermalState (faultCode n)))
             (r.inForce.capIn (r.stateAfter n) (faultCode n)) }

theorem PanelRecord.installThermal_eq : r.installThermal =
    { r with thermal := r.inForce, pendingThermal := none, applied := r.dutyInForce } := by
  unfold PanelRecord.installThermal PanelRecord.dutyInForce PanelRecord.inForce
  cases h : r.pendingThermal with
  | none =>
    cases r
    cases h
    rfl
  | some t =>
    dsimp only
    rw [PanelRecord.dropToCap_eq, PanelRecord.cap_eq]
    rfl

theorem PanelRecord.testFault_eq : r.testFault n =
    { r with lastThermistor := n, sensorFault := faultCode n,
             applied := min r.applied (r.thermal.capIn r.thermalState (faultCode n)) } := by
  rw [PanelRecord.testFault, PanelRecord.dropToCap_eq, PanelRecord.cap_eq]

/-- The three events of a thermistor code together. -/
theorem PanelRecord.thermistor_eq : (r.installThermal.testFault n).testThermal n = r.afterCode n := by
  rw [PanelRecord.testFault_eq, PanelRecord.installThermal_eq]
  unfold PanelRecord.testThermal PanelRecord.afterCode PanelRecord.stateAfter
  split
  · rw [Nat.min_assoc, Nat.min_self]
  · rw [PanelRecord.dropToCap_eq, PanelRecord.cap_eq]

end

/-! ### The conversion completed (R148, R156) -/

section
variable (s : State)

theorem State.raiseIf_not (P : Prop) [Decidable P] (f : ContentFlag) :
    s.raiseIf (!decide P) f = { s with port := if P then s.port else s.port.raise f } := by
  by_cases h : P
  · simp only [State.raiseIf, h, decide_true, Bool.not_true, Bool.false_eq_true, if_false, if_true]
  · simp only [State.raiseIf, h, decide_false, Bool.not_false, if_false, if_true]
    rfl

/-- R156: the content port after a thermistor code, with the flags of what it changes. -/
def State.portAfter (r : PanelRecord) (n : Nat) : ContentPort :=
  let q := if faultCode n = r.sensorFault then s.port else s.port.raise .sensorFault
  if r.stateAfter n = r.thermalState then q else q.raise .panelThermal

theorem State.thermistorRead_eq (p : Fin 4) (n : Nat) : s.thermistorRead p n =
    { s with panel := s.panel.setPanel p ((s.panel.panels[p]).afterCode n),
             port := s.portAfter s.panel.panels[p] n } := by
  unfold State.thermistorRead State.portAfter
  dsimp only
  rw [PanelRecord.thermistor_eq, State.raiseIf_not, State.raiseIf_not, PanelRecord.testFault_eq, PanelRecord.installThermal_eq]
  simp only [eq_comm]
  rfl

variable {s}

theorem execSensorConversionCompletion_none (h : s.panel.conversion = none) (code : BitVec 10) :
    exec (.sensorConversionCompletion code) s = .next s := by
  simp only [exec, execSensorConversionCompletion, h]

theorem execSensorConversionCompletion_some {c : Conversion} (h : s.panel.conversion = some c) (code : BitVec 10) :
    let t := { s with panel := { s.panel with conversion := none } }
    exec (.sensorConversionCompletion code) s = .next (if c.discard then t
      else if channelThermistor c.channel then t.thermistorRead (channelPanel c.channel) code.toNat
      else t.setPanel (channelPanel c.channel)
        { t.panel.panels[channelPanel c.channel] with lastAmbient := code.toNat }) := by
  simp only [exec, execSensorConversionCompletion, h]

end

/-- Settles O43: the conversion by its discard mark and its channel, and a thermistor code by its three events. -/
theorem conversionUsedOrDiscarded : Obligations.ConversionUsedOrDiscarded := by
  unfold Obligations.ConversionUsedOrDiscarded
  intro s code
  refine ⟨fun h => execSensorConversionCompletion_none h code, fun p c h hp => ?_⟩
  obtain rfl : channelPanel c.channel = p := Fin.ext hp
  intro t r n bad th st cap first
  rw [execSensorConversionCompletion_some h]
  refine ⟨fun hd => ?_, fun hd hc => ?_, fun hd hc => ?_⟩
  · rw [if_pos hd]
  · rw [hd, channelThermistor, hc]
    rfl
  · have hbad : bad = faultCode n := (faultCode_eq n).symm
    have hcap : cap = th.capIn := by
      funext x f
      cases x <;> rfl
    have hst : st = r.stateAfter n := by
      show (if bad then r.thermalState else _) = if faultCode n then r.thermalState else _
      rw [hbad]
      congr 1
      cases r.thermalState with
      | hotOff => exact (thermalNext_hotOff th n).symm
      | normal | warm | cooledWait => rfl
    rw [hd, channelThermistor, hc]
    refine (congrArg Host.Outcome.next (t.thermistorRead_eq (channelPanel c.channel) n)).trans ?_
    rw [hbad, hst, hcap]
    rfl

end Sys2Proof.Machine
end

section
/-! SUPPORT. StepKeepsPanelsAndLink: the promises on a panel record under settings, curves, thermal codes and frame starts. -/

namespace Sys2Proof.Machine

/-! ### The target duty (R150) -/

theorem Curve.target_le {c : Curve} (hc : c.valid = true) (n : Nat) : c.target n ≤ 1000 := by
  obtain ⟨h01, h12, h23, -, hd0, hd1, hd2, hd3⟩ := Curve.valid_iff.1 hc
  have between : ∀ {x y : CurvePoint},
      (x = c.p0 ∧ y = c.p1) ∨ (x = c.p1 ∧ y = c.p2) ∨ (x = c.p2 ∧ y = c.p3) → x.a ≤ n → n < y.a →
      x.d ≤ 1000 → y.d ≤ 1000 → c.target n ≤ 1000 := fun hxy hx hy hxd hyd => by
    rw [Curve.target_segment hc hxy hx hy]
    exact (segmentDuty_between hx hy).2.trans (Nat.max_le.2 ⟨hxd, hyd⟩)
  rcases Nat.lt_or_ge c.p0.a n with hlow | hlow
  · rcases Nat.lt_or_ge n c.p3.a with hhigh | hhigh
    · rcases Nat.lt_or_ge n c.p1.a with h1 | h1
      · exact between (.inl ⟨rfl, rfl⟩) hlow.le h1 hd0 hd1
      · rcases Nat.lt_or_ge n c.p2.a with h2 | h2
        · exact between (.inr (.inl ⟨rfl, rfl⟩)) h1 h2 hd1 hd2
        · exact between (.inr (.inr ⟨rfl, rfl⟩)) h2 hhigh hd2 hd3
    · rwa [Curve.target_high hlow hhigh]
  · rwa [Curve.target_low hlow]

/-! ### One panel -/

section
variable {r : PanelRecord} (h : PanelSound r)
include h

theorem PanelSound.withPendingSettings (n : Option PanelSettings) : PanelSound { r with pendingSettings := n } :=
  ⟨h.cap, h.target, h.disabled, h.curve, h.pendingCurve, h.thermal, h.pendingThermal⟩

theorem PanelSound.withAmbient (n : Nat) : PanelSound { r with lastAmbient := n } :=
  ⟨h.cap, h.target, h.disabled, h.curve, h.pendingCurve, h.thermal, h.pendingThermal⟩

theorem PanelSound.withPendingCurve {c : Curve} (hc : c.valid = true) : PanelSound { r with pendingCurve := some c } :=
  ⟨h.cap, h.target, h.disabled, h.curve, fun _ e => Option.some.inj e ▸ hc, h.thermal, h.pendingThermal⟩

theorem PanelSound.withPendingThermal {t : ThermalSettings} (ht : t.valid = true) :
    PanelSound { r with pendingThermal := some t } :=
  ⟨h.cap, h.target, h.disabled, h.curve, h.pendingCurve, h.thermal, fun _ e => Option.some.inj e ▸ ht⟩

/-- R155: a restart raises a cap of 0. -/
theorem PanelSound.restart (hst : r.thermalState = .cooledWait) : PanelSound { r with thermalState := .normal } := by
  have hcap : r.cap = 0 := by simp only [PanelRecord.cap, hst]
  exact ⟨(h.cap.trans hcap.le).trans (Nat.zero_le _), h.target, h.disabled, h.curve, h.pendingCurve, h.thermal,
    h.pendingThermal⟩

theorem PanelSound.inForce_valid : r.inForce.valid = true := by
  unfold PanelRecord.inForce
  cases hp : r.pendingThermal with
  | none => exact h.thermal
  | some t => exact h.pendingThermal t hp

theorem PanelSound.afterCode (n : Nat) : PanelSound (r.afterCode n) where
  cap := by
    rw [PanelRecord.cap_eq]
    exact Nat.min_le_right ..
  target := h.target
  disabled hoff := by
    obtain ⟨happlied, htarget⟩ := h.disabled hoff
    have hforce : r.dutyInForce = 0 := by
      unfold PanelRecord.dutyInForce
      rw [happlied, Nat.zero_min, ite_self]
    refine ⟨?_, htarget⟩
    show min (min r.dutyInForce _) _ = 0
    rw [hforce, Nat.zero_min, Nat.zero_min]
  curve := h.curve
  pendingCurve := h.pendingCurve
  thermal := h.inForce_valid
  pendingThermal _ e := nomatch e

/-- R146: settings installed; a disable zeroes both duties. -/
theorem PanelSound.settled : PanelSound r.settled where
  cap := by
    show (if r.goesOff then 0 else r.applied) ≤ r.cap
    split
    · exact Nat.zero_le _
    · exact h.cap
  target := by
    show (if r.goesOff then 0 else r.target) ≤ 1000
    split
    · exact Nat.zero_le _
    · exact h.target
  disabled hoff := by
    show (if r.goesOff then 0 else r.applied) = 0 ∧ (if r.goesOff then 0 else r.target) = 0
    by_cases hg : r.goesOff = true
    · rw [if_pos hg, if_pos hg]
      exact ⟨rfl, rfl⟩
    · rw [if_neg hg, if_neg hg]
      have hnext : r.next.enable = false := hoff
      rw [PanelRecord.goesOff, hnext, Bool.not_false, Bool.and_true, Bool.not_eq_true] at hg
      exact h.disabled hg
  curve := h.curve
  pendingCurve := h.pendingCurve
  thermal := h.thermal
  pendingThermal := h.pendingThermal

theorem PanelSound.curveInForce_valid : (r.pendingCurve.getD r.curve).valid = true := by
  cases hp : r.pendingCurve with
  | none => exact h.curve
  | some c => exact h.pendingCurve c hp

/-- R149 to R151: a frame start moves the duty of an enabled panel within its cap, and leaves that of a disabled one. -/
theorem PanelSound.frameStart : PanelSound r.frameStart := by
  have hcurve := h.curveInForce_valid
  cases he : r.installed.enable with
  | true =>
    obtain ⟨htarget, happlied⟩ := PanelRecord.frameStart_enabled he
    have hcap : r.frameStart.applied ≤ r.cap := happlied ▸ moveDuty_le_cap
    have htarget : r.frameStart.target ≤ 1000 := htarget ▸ Curve.target_le hcurve _
    rw [PanelRecord.frameStart_eq]
    exact ⟨hcap, htarget, fun hoff => absurd (he.symm.trans hoff) (by decide), hcurve, (fun _ e => nomatch e), h.thermal,
      h.pendingThermal⟩
  | false =>
    rw [PanelRecord.frameStart_disabled he]
    exact ⟨h.cap, h.target, h.disabled, hcurve, (fun _ e => nomatch e), h.thermal, h.pendingThermal⟩

end

/-! ### The panel unit -/

/-- The promises on every panel. -/
def PanelUnit.Sound (u : PanelUnit) : Prop := ∀ p : Fin 4, PanelSound u.panels[p]

section
variable {u : PanelUnit} (h : u.Sound)
include h

theorem PanelUnit.Sound.setPanel {p : Fin 4} {r : PanelRecord} (hr : PanelSound r) : (u.setPanel p r).Sound := fun q => by
  by_cases hq : q = p
  · subst hq
    exact (Vector.getElem_set_self (xs := u.panels) (x := r) q.isLt).symm ▸ hr
  · have hne : p.val ≠ q.val := fun e => hq (Fin.ext e.symm)
    exact (Vector.getElem_set_ne (xs := u.panels) (x := r) p.isLt q.isLt hne).symm ▸ h q

theorem PanelUnit.Sound.frameStart : u.frameStart.Sound := fun p => u.panels_frameStart p ▸ (h p).frameStart

theorem PanelUnit.Sound.started (panelFirst : Bool) : (u.started panelFirst).Sound := fun p => by
  rw [PanelUnit.panels_started]
  cases panelFirst with
  | true => exact (h p).frameStart.settled
  | false => exact (h p).settled.frameStart

end

end Sys2Proof.Machine
end

section
/-! SUPPORT. StepKeepsPanelsAndLink: what the promises on the link speak of, the receiver byte by byte, and the requests. -/

namespace Sys2Proof.Machine

/-! ### The line -/

/-- The unit address and the receiver. -/
def State.hearing (s : State) : Nat × Receiver := (s.link.unit, s.link.receiver)

/-- What the promises on the link speak of: the unit address, the receiver and the answer held. -/
def State.line (s : State) : (Nat × Receiver) × Option Answer := (s.hearing, s.link.answer)

theorem State.line_eq_iff {s t : State} : t.line = s.line ↔
    t.link.unit = s.link.unit ∧ t.link.receiver = s.link.receiver ∧ t.link.answer = s.link.answer := by
  simp only [State.line, State.hearing, Prod.mk.injEq, and_assoc]

theorem State.hearing_of_line {s t : State} (h : t.line = s.line) : t.hearing = s.hearing := congrArg Prod.fst h

theorem ReadsBodies.line {s t : State} (h : ReadsBodies s t) : t.line = s.line := by
  rw [h.eq]
  rfl

theorem Reports.line {s t : State} (h : Reports s t) : t.line = s.line := h.readsBodies.line

theorem Checks.line {s t : State} (h : Checks s t) : t.line = s.line := by
  rw [h.eq]
  rfl

/-! ### The promises on the link -/

theorem LinkSound.congr {s t : State} (h : LinkSound s.link) (e : t.line = s.line) : LinkSound t.link := by
  obtain ⟨hunit, hreceiver, hanswer⟩ := State.line_eq_iff.1 e
  exact ⟨hunit ▸ h.unit, hreceiver ▸ h.assembling, hreceiver ▸ h.lengthByte, hreceiver ▸ hanswer ▸ h.answer⟩

/-- With no frame in assembly only the unit address is promised. -/
theorem LinkSound.of_unit {l : PosLink} (hunit : 1 ≤ l.unit ∧ l.unit ≤ 31) (hr : ∀ b, l.receiver ≠ .assembling b) :
    LinkSound l :=
  ⟨hunit, fun b e => absurd e (hr b), fun b e => absurd e (hr b), fun b e => absurd e (hr b)⟩

/-- A receiver that assembles no frame may hold any answer. -/
theorem LinkSound.rests {s t : State} (h : LinkSound s.link) {r : Receiver} (e : t.hearing = (s.link.unit, r))
    (hr : ∀ b, r ≠ .assembling b) : LinkSound t.link := by
  obtain ⟨hunit, hreceiver⟩ := Prod.mk.inj e
  exact .of_unit (hunit ▸ h.unit) (hreceiver ▸ hr)

/-! ### Panels and link together -/

/-- `t` meets the promises on the panels and on the link that `s` meets. -/
structure Upholds (s t : State) : Prop where
  panel : s.panel.Sound → t.panel.Sound
  link : LinkSound s.link → LinkSound t.link

theorem Upholds.of_same {s t : State} (hp : t.panel = s.panel) (hl : t.line = s.line) : Upholds s t :=
  ⟨fun h => hp ▸ h, fun h => h.congr hl⟩

theorem Upholds.refl (s : State) : Upholds s s := .of_same rfl rfl

theorem Upholds.trans {s t u : State} (a : Upholds s t) (b : Upholds t u) : Upholds s u :=
  ⟨fun h => b.panel (a.panel h), fun h => b.link (a.link h)⟩

theorem Upholds.of_display {s t : State} (hd : t.display = s.display) (hl : t.line = s.line) : Upholds s t :=
  .of_same (State.display_eq_iff.1 hd).2 hl

theorem ReadsBodies.upholds {s t : State} (h : ReadsBodies s t) : Upholds s t := .of_display h.display h.line

/-! ### Owners of requests -/

section
variable (s : State)

theorem stageEntry_line (e : StagedEntry) : (stageEntry e s).1.line = s.line := by
  unfold stageEntry
  dsimp only
  repeat' split
  all_goals rfl

theorem stagingOwners_line (l : List Byte) :
    (itemStageOwner l s).1.line = s.line ∧ (itemRemoveOwner l s).1.line = s.line ∧
      (promoStageOwner l s).1.line = s.line ∧ (rulesStageOwner l s).1.line = s.line := by
  unfold itemStageOwner itemRemoveOwner promoStageOwner rulesStageOwner
  refine ⟨?_, ?_, ?_, ?_⟩
  case refine_3 =>
    repeat' split
    case h_1 => exact stageEntry_line ..
    all_goals rfl
  all_goals
    split
    · exact stageEntry_line ..
    · rfl

theorem commitOwners_line (l : List Byte) :
    (commitOwner l s).1.line = s.line ∧ (applyOwner s).1.line = s.line ∧ (commitCancelOwner s).1.line = s.line := by
  unfold commitOwner applyOwner commitCancelOwner
  refine ⟨?_, ?_, ?_⟩
  all_goals
    repeat' split
    all_goals rfl

theorem daypartOwners_line (l : List Byte) :
    (availSetOwner l s).1.line = s.line ∧ (scheduleSetOwner l s).1.line = s.line ∧
      (daypartForceOwner l s).1.line = s.line ∧ (timeSetOwner l s).1.line = s.line := by
  unfold availSetOwner scheduleSetOwner daypartForceOwner timeSetOwner
  refine ⟨?_, ?_, ?_, ?_⟩
  all_goals split <;> rfl

theorem itemReadOwner_line (l : List Byte) : (itemReadOwner l s).1.line = s.line := by
  unfold itemReadOwner
  dsimp only
  repeat' split
  case h_1 | isTrue => rfl
  all_goals exact (s.readBody_reads _).line

theorem suspendClearOwner_line (l : List Byte) : (suspendClearOwner l s).1.line = s.line := by
  unfold suspendClearOwner
  dsimp only
  repeat' split
  case h_4 => exact (s.unsuspend_reports _).line
  all_goals rfl

theorem checkTestOwner_line : (checkTestOwner s).1.line = s.line := by
  unfold checkTestOwner
  split <;> rfl

/-- No owner of a request reaches the receiver or the answer held. -/
theorem owner_line {kind : Byte} {l : List Byte} {r : Request} (hr : requestOf kind l = some r) :
    (r.owner s).1.line = s.line := by
  obtain ⟨hitem, hremove, hpromo, hrules⟩ := stagingOwners_line s l
  obtain ⟨hcommit, happly, hcancel⟩ := commitOwners_line s l
  obtain ⟨havail, hschedule, hforce, htime⟩ := daypartOwners_line s l
  unfold requestOf at hr
  split at hr
  case h_2 => cases hr; exact hitem
  case h_3 => cases hr; exact hremove
  case h_4 => cases hr; exact hpromo
  case h_5 => cases hr; exact hrules
  case h_7 => cases hr; exact hcommit
  case h_8 => cases hr; exact happly
  case h_9 => cases hr; exact hcancel
  case h_10 => cases hr; exact havail
  case h_11 => cases hr; exact hschedule
  case h_12 => cases hr; exact hforce
  case h_13 => cases hr; exact htime
  case h_14 => cases hr; exact itemReadOwner_line s l
  case h_16 => cases hr; exact suspendClearOwner_line s l
  case h_18 => cases hr; exact checkTestOwner_line s
  case h_19 => cases hr
  case h_1 | h_6 | h_15 | h_17 => cases hr; rfl

/-! ### Frames taken (R158 to R160) -/

theorem State.take_hearing (a : Addressing) {r : Request} (hr : (r.owner s).1.line = s.line) :
    (s.take a r).hearing = s.hearing := by
  have howner := State.hearing_of_line hr
  unfold State.take
  cases a with
  | addressed =>
    dsimp only
    repeat' split
    case h_1 | h_2 => exact howner
    all_goals rfl
  | broadcast =>
    dsimp only
    split
    · rfl
    · exact howner

theorem State.takeKind_hearing (a : Addressing) (kind : Byte) (l : List Byte) :
    (s.takeKind a kind l).hearing = s.hearing := by
  unfold State.takeKind
  split
  · rename_i r hr
    exact s.take_hearing a (owner_line s hr)
  · unfold State.takeUnknown
    repeat' split
    all_goals rfl

theorem State.acceptFrame_hearing (frame : List Byte) : (s.acceptFrame frame).hearing = s.hearing := by
  unfold State.acceptFrame
  split
  · exact s.takeKind_hearing ..
  · rfl

/-- A frame taken leaves the receiver in WAIT_IDLE, whatever answer is held then. -/
theorem Upholds.onFrame {f : State → State} (hd : ∀ t, (f t).display = t.display) (hh : ∀ t, (f t).hearing = t.hearing) :
    Upholds s (s.onFrame f) := by
  refine ⟨fun h => (State.display_eq_iff.1 (s.onFrame_display hd)).2 ▸ h, fun h => ?_⟩
  unfold State.onFrame
  split
  · exact h
  · refine h.rests (r := .waitIdle) ((hh s.frameEnd).trans ?_) nofun
    rw [State.hearing, State.frameEnd_unit, State.frameEnd_receiver]

theorem Upholds.acceptFrame (frame : List Byte) : Upholds s (s.onFrame fun t => t.acceptFrame frame) :=
  .onFrame s (fun t => t.acceptFrame_display frame) fun t => t.acceptFrame_hearing frame

variable {s}

theorem Upholds.request {t : State} {c : Instr} {k : Nat} {a : Addressing} {l : List Byte} (hr : requestRow k a l = some c)
    (e : exec c s = .next t) : Upholds s t := by
  obtain ⟨r, hrow⟩ := requestRow_request hr
  rw [hrow.row] at e
  cases e
  exact .onFrame s (fun t => t.take_display a (owner_display t hrow.request))
    fun t => t.take_hearing a (owner_line t hrow.request)

end

/-! ### The receiver byte by byte (R157) -/

/-- A frame short of whole that a byte does not complete stays short of whole. -/
theorem frame_grows {bytes : List Byte} {b : Byte} (h : bytes.length < 5 ∨ bytes.length < byteAt bytes 2 + 5)
    (hc : ¬ frameComplete (bytes ++ [b]) = true) :
    (bytes ++ [b]).length < 5 ∨ (bytes ++ [b]).length < byteAt (bytes ++ [b]) 2 + 5 := by
  simp only [frameComplete, Bool.and_eq_true, decide_eq_true_eq, List.length_append, List.length_singleton] at hc ⊢
  by_cases h3 : 2 < bytes.length
  · rw [byteAt_append_left h3] at hc ⊢
    omega
  · omega

section
variable {s : State}

theorem State.withdrawAnswer_unit (s : State) : s.withdrawAnswer.link.unit = s.link.unit := s.frameEnd_unit

theorem LinkSound.beginFrame (h : LinkSound s.link) (hs : s.sending = false) : LinkSound s.beginFrame.link where
  unit := s.withdrawAnswer_unit.symm ▸ h.unit
  assembling b e := by
    cases e
    exact .inl (by decide)
  lengthByte b e := by
    cases e
    intro h3
    exact absurd h3 (by decide)
  answer _ _ := State.frameEnd_answer hs

theorem LinkSound.assembleByte (h : LinkSound s.link) {bytes : List Byte} (hr : s.link.receiver = .assembling bytes)
    (b : Byte) : LinkSound (s.assembleByte (bytes ++ [b])).link := by
  unfold State.assembleByte
  split
  · exact h.rests rfl nofun
  · rename_i hlong
    split
    · exact (Upholds.acceptFrame s _).link h
    · rename_i hwhole
      refine ⟨h.unit, fun x e => ?_, fun x e h3 => ?_, fun x e => h.answer bytes hr⟩
      · obtain rfl := Receiver.assembling.inj e
        exact frame_grows (h.assembling bytes hr) hwhole
      · obtain rfl := Receiver.assembling.inj e
        rw [List.length_append, List.length_singleton] at h3 hlong
        by_cases h2 : bytes.length = 2
        · omega
        · rw [byteAt_append_left (by omega)]
          exact h.lengthByte bytes hr (by omega)

theorem LinkSound.receiveByte (h : LinkSound s.link) (hs : s.sending = false) (b : Byte) (framingError : Bool) :
    LinkSound (s.receiveByte b framingError).link := by
  unfold State.receiveByte
  split
  · exact h
  · split
    · exact h.beginFrame hs
    · exact h.rests rfl nofun
  · rename_i bytes hr
    split
    · exact h.rests rfl nofun
    · exact h.assembleByte hr b

end

end Sys2Proof.Machine
end

section
/-! SUPPORT. StepKeepsPanelsAndLink: the content commands, the frame job, the array and the load under the promises. -/

namespace Sys2Proof.Machine

/-! ### Owners of content commands -/

section
variable (s : State)

@[simp] theorem assetOwners_line : (∀ f, (assetOpenOwner f s).state.line = s.line) ∧ ∀ h,
    (assetCloseOwner h s).state.line = s.line ∧ (assetAbortOwner h s).state.line = s.line ∧
      (assetFreeOwner h s).state.line = s.line ∧ (assetQueryOwner h s).state.line = s.line := by
  unfold assetOpenOwner assetCloseOwner assetAbortOwner assetFreeOwner assetQueryOwner
  refine ⟨fun f => ?_, fun h => ⟨?_, ?_, ?_, ?_⟩⟩
  all_goals
    repeat' split
    all_goals rfl

@[simp] theorem sceneOwners_line : (∀ f, (sceneBeginOwner f s).state.line = s.line) ∧
    (∀ f, (layerAddOwner f s).state.line = s.line) ∧
    (∀ p, (sceneSubmitOwner p s).state.line = s.line ∧ (sceneDiscardOwner p s).state.line = s.line) ∧
    ∀ f, (styleSetOwner f s).state.line = s.line := by
  unfold sceneBeginOwner layerAddOwner sceneSubmitOwner sceneDiscardOwner styleSetOwner
  dsimp only
  refine ⟨fun f => ?_, fun f => ?_, fun p => ⟨?_, ?_⟩, fun f => ?_⟩
  all_goals
    repeat' split
    all_goals rfl

@[simp] theorem itemQueryOwner_line (c : Nat) : (itemQueryOwner c s).state.line = s.line := by
  unfold itemQueryOwner
  dsimp only
  repeat' split
  case isTrue | h_1 => rfl
  all_goals exact (s.readBody_reads _).line

@[simp] theorem checkTestCommand_line : (checkTestCommand s).state.line = s.line := by
  unfold checkTestCommand
  split <;> rfl

end

/-- An owner of content commands that keeps the promises on the panels and the link. -/
def UpheldBy (owner : State → CommandResult) : Prop := ∀ s, Upholds s (owner s).state

section
variable {s : State}

theorem UpheldBy.of_display {owner : State → CommandResult} (hd : ∀ s, (owner s).state.display = s.display)
    (hl : ∀ s, (owner s).state.line = s.line) : UpheldBy owner := fun s => .of_display (hd s) (hl s)

/-- A panel record written that is sound where the old one was. -/
theorem Upholds.setPanel {p : Fin 4} {r : PanelRecord} (hr : PanelSound s.panel.panels[p] → PanelSound r) :
    Upholds s (s.setPanel p r) := ⟨fun h => h.setPanel (hr (h p)), id⟩

theorem UpheldBy.panelSet (p e r : Byte) : UpheldBy (panelSetOwner p e r) := fun s => by
  unfold panelSetOwner
  split
  · exact .setPanel fun h => h.withPendingSettings _
  · exact .refl s

theorem UpheldBy.curveSet (f : CurveForm) : UpheldBy (curveSetOwner f) := fun s => by
  unfold curveSetOwner
  split
  · exact .refl s
  · split
    · rename_i hvalid
      exact .setPanel fun h => h.withPendingCurve hvalid
    · exact .refl s

theorem UpheldBy.thermalSet (f : ThermalForm) : UpheldBy (thermalSetOwner f) := fun s => by
  unfold thermalSetOwner
  dsimp only
  split
  · split
    · rename_i hvalid
      exact .setPanel fun h => h.withPendingThermal hvalid
    · exact .refl s
  · exact .refl s

theorem UpheldBy.backlightRestart (p : Byte) : UpheldBy (backlightRestartOwner p) := fun s => by
  unfold backlightRestartOwner
  split
  · exact .refl s
  · split
    · rename_i hwaits
      exact (Upholds.setPanel fun h => h.restart hwaits).trans (.of_same rfl rfl)
    all_goals exact .refl s

theorem UpheldBy.frameRateSet (r : Byte) : UpheldBy (frameRateSetOwner r) := fun s => by
  unfold frameRateSetOwner
  split <;> exact .of_same rfl rfl

theorem UpheldBy.takeCommand {owner : State → CommandResult} (h : UpheldBy owner) (s : State) (code : Byte)
    (go : BitVec 32) : Upholds s (s.takeCommand code go owner) := by
  unfold State.takeCommand CommandResult.complete
  dsimp only
  split
  · exact .of_same rfl rfl
  · exact ⟨(h (s.tagged go)).panel, (h (s.tagged go)).link⟩

/-! ### Content commands and the content window (R166, R167) -/

theorem Upholds.runRecord (s : State) (go : BitVec 32) : Upholds s (s.runRecord go) := by
  unfold State.runRecord
  dsimp only
  split
  case h_11 => exact (UpheldBy.panelSet _ _ _).takeCommand ..
  case h_12 => exact (UpheldBy.curveSet _).takeCommand ..
  case h_13 => exact (UpheldBy.thermalSet _).takeCommand ..
  case h_14 => exact (UpheldBy.backlightRestart _).takeCommand ..
  case h_15 => exact (UpheldBy.frameRateSet _).takeCommand ..
  case h_17 | h_19 => exact (UpheldBy.of_display (fun _ => rfl) fun _ => rfl).takeCommand ..
  all_goals exact (UpheldBy.of_display (fun t => by simp) fun t => by simp).takeCommand ..

theorem Upholds.command {t : State} {c : Instr} {r : CommandRow} (hr : commandRow c = some r) (e : exec c s = .next t) :
    Upholds s t := by
  have row : ∀ {owner : State → CommandResult} (_ : UpheldBy owner) (l : List (Nat × List Byte)) (code : Byte)
      (go : BitVec 32), Upholds s ((s.writeRecord l).takeCommand code go owner) := fun ho l code go => by
    have hrecord : Upholds s (s.writeRecord l) := .of_same rfl rfl
    exact hrecord.trans (ho.takeCommand (s.writeRecord l) code go)
  unfold commandRow at hr
  split at hr
  case h_11 => cases e; exact row (.panelSet _ _ _) ..
  case h_12 => cases e; exact row (.curveSet _) ..
  case h_13 => cases e; exact row (.thermalSet _) ..
  case h_14 => cases e; exact row (.backlightRestart _) ..
  case h_15 => cases e; exact row (.frameRateSet _) ..
  case h_17 => cases e; exact row (.of_display (fun _ => rfl) fun _ => rfl) ..
  case h_19 => cases hr
  all_goals
    cases e
    exact row (.of_display (fun t => by simp) fun t => by simp) ..

theorem Upholds.apertureWrite (s : State) (o : Nat) (l : List Byte) : Upholds s (s.apertureWrite o l) := by
  refine .of_display (s.apertureWrite_display o l) ?_
  unfold State.apertureWrite
  dsimp only
  repeat' split
  all_goals rfl

theorem Upholds.windowWrite (s : State) (o : Nat) (l : List Byte) : Upholds s (s.windowWrite o l) := by
  unfold State.windowWrite State.controlWrite
  repeat' split
  · exact .apertureWrite s o l
  · exact .runRecord s _
  all_goals exact .of_same rfl rfl

/-! ### The frame job -/

theorem Checks.upholds {t : State} (h : Checks s t) : Upholds s t := by
  refine .of_same ?_ h.line
  rw [h.eq]

section
variable (s : State)

theorem State.setJob_checks (j : Job) : Checks s (s.setJob j) := ⟨rfl⟩

theorem State.visibility_reads (l : Layer) : ReadsBodies s (s.visibility l).1 := by
  unfold State.visibility
  repeat' split
  case h_2 => exact s.readBody_reads _
  all_goals exact .refl s

theorem State.drawTile_checks (p : Fin 4) (k : Nat) (l : Layer) (code : Nat) (style : Fin 16) (dimmed : Bool) (dim : Byte)
    (d : PriceDecision) (glyphs : Option (List Nat)) : Checks s (s.drawTile p k l code style dimmed dim d glyphs) := by
  rw [State.drawTile_eq]
  exact (s.tileFlagged_reports _ _).readsBodies.checks.trans ⟨rfl⟩

theorem State.drawPrice_checks (p : Fin 4) (k : Nat) (l : Layer) (style : Fin 16) (dimmed : Bool) (dim : Byte)
    (u : ComposeUpset) : Checks s (s.drawPrice p k l style dimmed dim u) := by
  unfold State.drawPrice
  repeat' split
  case h_2 => exact s.drawTile_checks ..
  all_goals exact ⟨rfl⟩

theorem State.drawLayer_checks (p : Fin 4) (k : Nat) (l : Layer) (dimmed : Bool) (dim : Byte) (u : ComposeUpset) :
    Checks s (s.drawLayer p k l dimmed dim u) := by
  unfold State.drawLayer
  split
  · exact ⟨rfl⟩
  · exact ⟨rfl⟩
  · exact s.drawPrice_checks ..

theorem State.drawFault_checks (p : Fin 4) (k : Nat) (l : Layer) (dimmed : Bool) (dim : Byte) :
    Checks s (s.drawFault p k l dimmed dim) := by
  unfold State.drawFault
  split
  · exact s.drawTile_checks ..
  all_goals exact ⟨rfl⟩

theorem State.composeAt_checks (p : Fin 4) (k : Nat) (u : ComposeUpset) : Checks s (s.composeAt p k u) := by
  unfold State.composeAt
  split
  · exact ⟨rfl⟩
  · rename_i l dim _
    have hv := (s.visibility_reads l).checks
    unfold State.composeLayer
    split <;> rename_i e <;> rw [e] at hv
    · exact hv
    · exact hv.trans (State.drawLayer_checks ..)
    · exact hv.trans (State.drawFault_checks ..)

theorem State.patchAt_checks (i : Nat) (r : ShownRecord) : Checks s (s.patchAt i r) := by
  unfold State.patchAt
  rw [State.drawPatch_eq]
  split <;> exact ⟨rfl⟩

end

/-! ### The frame start (R117 to R121, R147) -/

theorem Upholds.frameStart {t : State} {panelFirst : Bool} (e : exec (.frameStart panelFirst) s = .next t) : Upholds s t := by
  cases hl : s.nva.loading with
  | true =>
    rw [execFrameStart_loading hl] at e
    cases e
    exact ⟨fun h => h.frameStart, id⟩
  | false =>
    by_cases hj : s.engine.job = .idle
    · obtain ⟨_, u, hexec, -, hbegins, -⟩ := frameStart_begins hl hj panelFirst
      rw [hexec] at e
      cases e
      refine ⟨fun h => h.started panelFirst, fun h => h.congr (s := s) ?_⟩
      have hline : u.line = s.line := by
        rw [State.line_eq_iff, hbegins.link]
        exact ⟨rfl, rfl, rfl⟩
      exact hline
    · rw [execFrameStart_late hl hj] at e
      cases e
      exact ⟨fun h => h.frameStart, id⟩

/-! ### The commit check (R33, R161) -/

/-- An answer that becomes ready is held only while no frame is in assembly. -/
theorem LinkSound.commitAnswer (h : LinkSound s.link) (payload : List Byte) : LinkSound (s.commitAnswer payload).link := by
  unfold State.commitAnswer
  dsimp only
  generalize hnewer : (s.link.answer.isSome || _) = newer
  cases newer with
  | true => exact h
  | false =>
    refine .of_unit h.unit fun b e => ?_
    have hassembling : s.link.receiver = .assembling b := e
    simp only [hassembling, Bool.or_true] at hnewer
    cases hnewer

theorem Upholds.finishCheck (s : State) (c : CommitRecord) : Upholds s (s.finishCheck c) :=
  ⟨fun h => (State.display_eq_iff.1 (s.finishCheck_display c)).2 ▸ h, fun h =>
    LinkSound.commitAnswer (s := { s with stager := s.stager.afterCheck c _ }) h _⟩

/-! ### The start-up load and the resets -/

theorem State.loadWith_line (s : State) (k : SlotId) (e : LoadEffect) : (s.loadWith k e).line = s.line := by
  have hinstall : (s.loadInstall k e.record).line = s.line := by
    rw [State.loadInstall_eq]
    rfl
  have hlog : ((s.loadInstall k e.record).loadLog k e.fault).line = s.line := by
    unfold State.loadLog
    cases e.fault with
    | none => exact hinstall
    | some kind => exact (State.logFault_reads _ _).line.trans hinstall
  unfold State.loadWith State.loadMark
  split <;> exact hlog

theorem State.loadAll_line (s : State) (e : SlotId → LoadEffect) (l : List SlotId) : (s.loadAll e l).line = s.line :=
  List.foldlRecOn l _ (motive := fun t : State => t.line = s.line) rfl fun t ht k _ => (t.loadWith_line k _).trans ht

theorem Upholds.load (s : State) (slots : List (SlotId × NvSlot)) (journal : Option Journal) :
    Upholds s (s.loadStart slots journal).loadFold.endLoad := by
  refine .of_display (s.load_display slots journal) ?_
  have hjournal : (s.loadStart slots journal).loadJournal.line = s.line := (State.loadJournal_reads _).line
  have hend : ∀ t : State, t.endLoad.line = t.line := fun _ => rfl
  rw [hend, State.loadFold_eq]
  exact (State.loadAll_line ..).trans hjournal

theorem Upholds.discardAllBuilding (s : State) : Upholds s s.discardAllBuilding :=
  .of_display s.discardAllBuilding_display
    (List.foldlRecOn _ State.discardBuilding (motive := fun t => t.line = s.line) rfl fun t ht p _ =>
      (rfl : (t.discardBuilding p).line = t.line).trans ht)

theorem afterReset_upheld (straps : BitVec 5) (large : Bool) (array : List (SlotId × NvSlot)) (journal : Journal)
    (memory : List Host.Cell) : (State.afterReset straps large array journal memory).panel.Sound ∧
      LinkSound (State.afterReset straps large array journal memory).link := by
  refine ⟨fun p => ?_, .of_unit ?_ fun b e => nomatch e⟩
  · rw [afterReset_panels]
    exact PanelRecord.standard_sound
  · show 1 ≤ (if straps = 0 then 1 else straps.toNat) ∧ (if straps = 0 then 1 else straps.toNat) ≤ 31
    split
    · decide
    · rename_i hzero
      have hpos : straps.toNat ≠ 0 := fun hn => hzero (BitVec.eq_of_toNat_eq hn)
      omega

/-! ### Sensors (R148) -/

theorem Upholds.conversion {t : State} {code : BitVec 10} (e : exec (.sensorConversionCompletion code) s = .next t) :
    Upholds s t := by
  cases hc : s.panel.conversion with
  | none =>
    rw [execSensorConversionCompletion_none hc] at e
    cases e
    exact .refl s
  | some c =>
    rw [execSensorConversionCompletion_some hc] at e
    cases e
    have hdone : Upholds s { s with panel := { s.panel with conversion := none } } := ⟨id, id⟩
    split
    · exact hdone
    · split
      · rw [State.thermistorRead_eq]
        exact hdone.trans ⟨fun h => h.setPanel ((h _).afterCode _), id⟩
      · exact hdone.trans (.setPanel fun h => h.withAmbient _)

end

end Sys2Proof.Machine
end

section
/-! PROOF. StepKeepsPanelsAndLink: the promises over every step. -/

namespace Sys2Proof.Machine

section
variable {s t : State}

/-- Every command keeps the promises on the panels and on the link: those of the panel unit and of the link by their own rules,
the others leave both alone. -/
theorem Upholds.exec {c : Instr} (e : exec c s = .next t) : Upholds s t := by
  cases c
  -- The resets and the load.
  case powerOnReset straps large =>
    cases e
    obtain ⟨hpanels, hlink⟩ := afterReset_upheld straps large s.arrayAtReset s.nva.journal s.assets.memory
    exact ⟨fun _ => hpanels, fun _ => hlink⟩
  case pcieLinkReset =>
    cases e
    have hassets : Upholds s { s with assets := s.assets.linkReset } := .of_same rfl rfl
    exact (hassets.trans (.discardAllBuilding _)).trans (.of_same rfl rfl)
  case loadCompletion slots journal =>
    rw [Machine.exec, execLoadCompletion_eq] at e
    cases e
    split
    · exact .load s slots journal
    · exact .refl s
  -- The POS link.
  case lineByte b framingError =>
    cases e
    cases hs : s.sending with
    | true => exact .refl s
    | false =>
      exact ⟨fun h => (State.display_eq_iff.1 (s.receiveByte_display b framingError)).2 ▸ h,
        fun h => h.receiveByte hs b framingError⟩
  case idlePeriodExpiry | frameGapExpiry =>
    cases e
    repeat' split
    case h_1 => exact ⟨id, fun h => h.rests rfl nofun⟩
    all_goals exact .refl s
  case frameDropped frame => cases e; exact .acceptFrame s frame
  case unknownKind a kind l =>
    cases e
    exact .onFrame s (fun t => t.takeKind_display a kind l) fun t => t.takeKind_hearing a kind l
  case answerBegin =>
    cases e
    split
    · rename_i a ha
      split
      · exact .refl s
      · refine ⟨id, fun h => .of_unit h.unit fun b hb => ?_⟩
        cases ha.symm.trans (h.answer b hb)
    · exact .refl s
  case answerEnd =>
    cases e
    repeat' split
    case isTrue => exact ⟨id, fun h => h.rests rfl nofun⟩
    all_goals exact .refl s
  case status a l => exact .request (k := 0x01) (a := a) (l := l) rfl e
  case itemStage a l => exact .request (k := 0x02) (a := a) (l := l) rfl e
  case itemRemove a l => exact .request (k := 0x03) (a := a) (l := l) rfl e
  case promoStage a l => exact .request (k := 0x04) (a := a) (l := l) rfl e
  case rulesStage a l => exact .request (k := 0x05) (a := a) (l := l) rfl e
  case stageAbort a l => exact .request (k := 0x06) (a := a) (l := l) rfl e
  case commit a l => exact .request (k := 0x07) (a := a) (l := l) rfl e
  case apply a l => exact .request (k := 0x08) (a := a) (l := l) rfl e
  case commitCancel a l => exact .request (k := 0x09) (a := a) (l := l) rfl e
  case availSet a l => exact .request (k := 0x0A) (a := a) (l := l) rfl e
  case scheduleSet a l => exact .request (k := 0x0B) (a := a) (l := l) rfl e
  case daypartForce a l => exact .request (k := 0x0C) (a := a) (l := l) rfl e
  case timeSet a l => exact .request (k := 0x0D) (a := a) (l := l) rfl e
  case itemRead a l => exact .request (k := 0x0E) (a := a) (l := l) rfl e
  case suspendedList a l => exact .request (k := 0x0F) (a := a) (l := l) rfl e
  case suspendClear a l => exact .request (k := 0x10) (a := a) (l := l) rfl e
  case nvaReport a l => exact .request (k := 0x11) (a := a) (l := l) rfl e
  case checkTest path =>
    cases path with
    | posLink a l => exact .request (k := 0x12) (a := a) (l := l) rfl e
    | contentPort go => exact .command rfl e
  case commitCheckCompletion l =>
    cases e
    repeat' split
    case isTrue =>
      exact ((State.upsets_reads l s).trans (State.readBodies_reads _ _)).upholds.trans (.finishCheck _ _)
    all_goals exact .refl s
  -- The panel unit and the frame job.
  case frameStart panelFirst => exact .frameStart e
  case sensorConversionCompletion code => exact .conversion e
  case composeLayer u =>
    cases e
    split
    · exact (((State.upsets_reads u.bodies s).checks.trans (State.composeAt_checks ..)).trans (State.setJob_checks ..)).upholds
    all_goals exact .refl s
  case checkRecord l stuck =>
    cases e
    repeat' split
    case h_1 => exact ((State.upsets_reads l s).checks.trans (State.checkAt_leaves ..).checks).upholds
    all_goals exact .refl s
  case patchRecord =>
    cases e
    repeat' split
    case h_1 => exact ((s.patchAt_checks ..).trans (State.setJob_checks ..)).upholds
    all_goals exact .refl s
  -- The content port.
  case assetOpen | assetClose | assetAbort | assetFree | assetQuery | sceneBegin | layerAdd | sceneSubmit | sceneDiscard
      | styleSet | panelSet | curveSet | thermalSet | backlightRestart | frameRateSet | itemQuery | statusQuery =>
    exact .command rfl e
  case unknownCommand go code =>
    cases e
    have hrecord : Upholds s (s.writeRecord [(0, [code])]) := .of_same rfl rfl
    exact hrecord.trans (.runRecord _ go)
  case registerWrite o l => cases e; exact .windowWrite s _ _
  case apertureWrite o l => cases e; exact .apertureWrite s _ _
  -- The array.
  case slotWriteBegin l =>
    cases e
    split
    · exact ((State.upsets_reads l s).trans (State.beginWrite_reads ..)).upholds
    · exact .refl s
  case slotWriteCompletion found =>
    cases e
    split
    · exact (s.completeWrite_reads ..).upholds
    all_goals exact .refl s
  case repairReadCompletion found =>
    cases e
    split
    · exact (s.completeRepair_reads ..).upholds
    all_goals exact .refl s
  -- Every other row leaves the panels, the receiver and the answer alone.
  case composePanelFill | composeStageEnd | checkStageEnd | jobCompletion | holdExpiry | repairReadStart =>
    cases e
    repeat' split
    all_goals exact .of_same rfl rfl
  case secondTick | summaryWordRead | loadFaultRecordRead | messageEnable => cases e; exact .of_same rfl rfl

end

/-- Settles O58: a duty moves under its cap at frame starts and thermistor codes, settings wait only when in range, and an answer
is held only when no frame is in assembly. -/
theorem stepKeepsPanelsAndLink : Obligations.StepKeepsPanelsAndLink := by
  unfold Obligations.StepKeepsPanelsAndLink
  intro s t e
  unfold step at e
  split at e
  · cases e
    exact ⟨id, id⟩
  · have h : Upholds s.popped t := .exec e
    exact ⟨h.panel, h.link⟩

end Sys2Proof.Machine
end

section
/-! PROOF. ReceiverMovesByByteAndQuiet: what a byte and a quiet line make of each state of the receiver. -/

namespace Sys2Proof.Machine

section
variable {s : State}

/-! ### A byte received (R157) -/

theorem execLineByte_sending (h : s.sending = true) (b : Byte) (framingError : Bool) :
    exec (.lineByte b framingError) s = .next s := congrArg Host.Outcome.next (if_pos h)

theorem execLineByte_heard (h : s.sending = false) (b : Byte) (framingError : Bool) :
    exec (.lineByte b framingError) s = .next (s.receiveByte b framingError) :=
  congrArg Host.Outcome.next (if_neg (by simp [h]))

theorem State.receiveByte_waitIdle (h : s.link.receiver = .waitIdle) (b : Byte) (framingError : Bool) :
    s.receiveByte b framingError = s := by
  simp only [State.receiveByte, h]

theorem State.receiveByte_ready (h : s.link.receiver = .ready) (b : Byte) (framingError : Bool) :
    s.receiveByte b framingError = if b = startByte ∧ !framingError then s.beginFrame else s.setReceiver .waitIdle := by
  simp only [State.receiveByte, h]

theorem State.receiveByte_assembling {bytes : List Byte} (h : s.link.receiver = .assembling bytes) (b : Byte)
    (framingError : Bool) : s.receiveByte b framingError =
      if framingError then s.setReceiver .waitIdle else s.assembleByte (bytes ++ [b]) := by
  simp only [State.receiveByte, h]

/-! ### A byte of the frame in assembly, by where it stands (R157) -/

section
variable {bytes : List Byte}

theorem frameComplete_iff : frameComplete bytes = true ↔ 5 ≤ bytes.length ∧ bytes.length = byteAt bytes 2 + 5 := by
  simp only [frameComplete, Bool.and_eq_true, decide_eq_true_eq]

theorem State.assembleByte_tooLong (hl : bytes.length = 3) (h : 64 < byteAt bytes 2) :
    s.assembleByte bytes = s.setReceiver .waitIdle := if_pos ⟨hl, h⟩

/-- A byte that neither gives a length over 64 nor completes the frame is kept. -/
theorem State.assembleByte_kept (h3 : bytes.length = 3 → byteAt bytes 2 ≤ 64)
    (hc : ¬ (5 ≤ bytes.length ∧ bytes.length = byteAt bytes 2 + 5)) :
    s.assembleByte bytes = s.setReceiver (.assembling bytes) :=
  (if_neg fun ⟨hl, h⟩ => absurd (h3 hl) (Nat.not_le.2 h)).trans (if_neg (mt frameComplete_iff.1 hc))

theorem State.assembleByte_completes (h : byteAt bytes 2 ≤ 64) (hc : bytes.length = byteAt bytes 2 + 5) :
    s.assembleByte bytes = s.onFrame (fun t => t.acceptFrame bytes) :=
  (if_neg fun ⟨_, hlong⟩ => absurd h (Nat.not_le.2 hlong)).trans (if_pos (frameComplete_iff.2 ⟨by omega, hc⟩))

end

/-! ### A quiet line (R157) -/

theorem execIdlePeriodExpiry_due (hs : s.sending = false) (h : s.link.receiver = .waitIdle) :
    exec .idlePeriodExpiry s = .next (s.setReceiver .ready) := by
  simp only [exec, execIdlePeriodExpiry, hs, h, Bool.false_eq_true, if_false]

theorem execIdlePeriodExpiry_notDue (h : s.sending = true ∨ s.link.receiver ≠ .waitIdle) :
    exec .idlePeriodExpiry s = .next s := by
  refine congrArg Host.Outcome.next ?_
  split
  · rfl
  · rename_i hs
    split
    · rename_i hr
      exact absurd hr (h.resolve_left hs)
    · rfl
    · rfl

theorem execFrameGapExpiry_due {bytes : List Byte} (hs : s.sending = false) (h : s.link.receiver = .assembling bytes) :
    exec .frameGapExpiry s = .next (s.setReceiver .ready) := by
  simp only [exec, execFrameGapExpiry, hs, h, Bool.false_eq_true, if_false]

theorem execFrameGapExpiry_notDue (h : s.sending = true ∨ ∀ bytes, s.link.receiver ≠ .assembling bytes) :
    exec .frameGapExpiry s = .next s := by
  refine congrArg Host.Outcome.next ?_
  split
  · rfl
  · rename_i hs
    split
    · rename_i bytes hr
      exact absurd hr (h.resolve_left hs bytes)
    · rfl
    · rfl

end

/-- The byte that gives a frame its length is the third after the start byte. -/
theorem byteAt_append_last {bytes : List Byte} {i : Nat} (h : bytes.length = i) (b : Byte) :
    byteAt (bytes ++ [b]) i = b.toNat := by
  subst h
  exact byteAt_append_right bytes [b] 0

/-- Settles O5: a byte by the receiver's state and, in a frame, by where it stands; then the two expiries. -/
theorem receiverMovesByByteAndQuiet : Obligations.ReceiverMovesByByteAndQuiet := by
  unfold Obligations.ReceiverMovesByByteAndQuiet
  refine ⟨fun s b fe => ⟨fun hs => execLineByte_sending hs b fe, fun hs => ?_⟩, fun s => ⟨execIdlePeriodExpiry_due,
    execIdlePeriodExpiry_notDue, fun _ => execFrameGapExpiry_due, execFrameGapExpiry_notDue⟩⟩
  rw [execLineByte_heard hs]
  refine ⟨fun hr => ?_, fun hr hb hfe => ?_, fun hr h => ?_, fun bytes hr => ?_⟩
  · rw [State.receiveByte_waitIdle hr]
  · rw [State.receiveByte_ready hr, if_pos ⟨hb, by rw [hfe]; rfl⟩]
    rfl
  · rw [State.receiveByte_ready hr, if_neg]
    rintro ⟨hb, hfe⟩
    exact h.elim (absurd hb) fun htrue => by simp [htrue] at hfe
  · rw [State.receiveByte_assembling hr]
    refine ⟨fun hfe => by rw [if_pos hfe], fun hfe hl hlong => ?_, fun hfe h => ?_⟩ <;>
      rw [hfe, if_neg Bool.false_ne_true]
    · rw [State.assembleByte_tooLong (by simp [hl]) (by rwa [byteAt_append_last hl])]
    · rw [State.assembleByte_kept] <;> simp only [List.length_append, List.length_singleton]
      · intro h3
        rw [byteAt_append_last (by omega)]
        omega
      · rintro ⟨h5, hc⟩
        rw [byteAt_append_left (by omega)] at hc
        omega

end Sys2Proof.Machine
end

section
/-! SUPPORT. Frames by the acceptance test of R158, and requests by the tests of R159: those that reach no owner. -/

namespace Sys2Proof.Machine

/-! ### The acceptance test (R158) -/

theorem State.onFrame_heard {s : State} (h : s.sending = false) (f : State → State) : s.onFrame f = f s.frameEnd :=
  if_neg (by simp [h])

theorem crcAgrees_iff {frame : List Byte} : crcAgrees frame = true ↔
    (crc16 (frame.take (3 + byteAt frame 2))).toNat = beAt frame (3 + byteAt frame 2) 2 := decide_eq_true_iff

theorem accepts_passed {frame : List Byte} (hcrc : crcAgrees frame = true) (hkind : byteAt frame 1 < 128) (unit : Nat) :
    accepts unit frame = frameAddressing unit frame := by
  simp only [accepts, hcrc, hkind, decide_true, Bool.and_self, if_true]

theorem accepts_none {unit : Nat} {frame : List Byte}
    (h : ¬ crcAgrees frame = true ∨ 128 ≤ byteAt frame 1 ∨ (byteAt frame 0 ≠ unit ∧ byteAt frame 0 ≠ 0)) :
    accepts unit frame = none := by
  rcases h with hcrc | hkind | ⟨hunit, hbroadcast⟩
  · simp [accepts, hcrc]
  · simp [accepts, hkind]
  · simp [accepts, frameAddressing, hunit, hbroadcast]

/-- R158: an accepted frame is taken by its kind. -/
theorem State.acceptFrame_accepted {s : State} {frame : List Byte} {a : Addressing} (h : accepts s.link.unit frame = some a) :
    s.acceptFrame frame = s.takeKind a (frame.getD 1 0) (framePayload frame) := by
  simp only [State.acceptFrame, h]

theorem State.acceptFrame_dropped {s : State} {frame : List Byte} (h : accepts s.link.unit frame = none) :
    s.acceptFrame frame = s := by
  simp only [State.acceptFrame, h]

/-! ### Kinds (Table 12-2) -/

theorem knownKind_iff {kind : Byte} : knownKind kind = true ↔ 1 ≤ kind.toNat ∧ kind.toNat ≤ 0x12 := by
  simp only [knownKind, Bool.and_eq_true, decide_eq_true_eq]

/-- Table 12-2: no request has a kind outside 01h..12h. -/
theorem knownKind_of_requestOf {kind : Byte} {payload : List Byte} {r : Request} (h : requestOf kind payload = some r) :
    knownKind kind = true := by
  rw [knownKind_iff]
  unfold requestOf at h
  split at h
  case h_19 => cases h
  all_goals omega

theorem requestOf_unknown {kind : Byte} (h : knownKind kind = false) (payload : List Byte) : requestOf kind payload = none :=
  Option.eq_none_iff_forall_ne_some.2 fun _ hr => Bool.false_ne_true (h.symm.trans (knownKind_of_requestOf hr))

/-- R159, R160: a frame of a kind that no request has. -/
theorem State.takeKind_unknown (s : State) {kind : Byte} (h : knownKind kind = false) (a : Addressing)
    (payload : List Byte) : s.takeKind a kind payload = match a with
      | .broadcast => s
      | .addressed => s.holdAnswer kind [if s.nva.loading || s.checking then 0x01 else 0x03] := by
  simp only [State.takeKind, requestOf_unknown h]
  cases a with
  | broadcast => rfl
  | addressed =>
    unfold State.takeUnknown
    cases s.nva.loading <;> cases s.checking <;> rfl

theorem State.takeKind_known (s : State) {kind : Byte} {payload : List Byte} {r : Request}
    (h : requestOf kind payload = some r) (a : Addressing) : s.takeKind a kind payload = s.take a r := by
  simp only [State.takeKind, h]

/-- Settles O7: the acceptance test drops the frame, and an unknown kind meets BUSY before BAD_KIND when addressed. -/
theorem framesThatReachNoOwner : Obligations.FramesThatReachNoOwner := by
  unfold Obligations.FramesThatReachNoOwner
  refine ⟨fun s frame hs h => congrArg Host.Outcome.next ?_, fun s kind payload hs hk _ =>
    ⟨congrArg Host.Outcome.next ?_, congrArg Host.Outcome.next ?_⟩⟩
  · rw [State.onFrame_heard hs, State.acceptFrame_dropped (accepts_none ?_)]
    rwa [crcAgrees_iff, State.frameEnd_unit]
  · rw [State.onFrame_heard hs, State.takeKind_unknown _ hk]
  · rw [State.onFrame_heard hs, State.takeKind_unknown _ hk, State.frameEnd_nva, State.frameEnd_checking]

/-- Settles O9: every row is its request taken from a frame, and the tests of R159 come before the request's owner. -/
theorem requestTestsBeforeOwner : Obligations.RequestTestsBeforeOwner := by
  unfold Obligations.RequestTestsBeforeOwner
  refine ⟨fun s k payload i hi => ?_, fun s k payload i hi ⟨hs, hl, hc⟩ hf => ?_⟩ <;>
    obtain ⟨r, hr⟩ := requestRow_request hi <;>
    rw [hr.row, State.onFrame_addressed, hr.kind]
  · refine ⟨fun hs => by rw [if_pos hs], fun hs hbusy => ?_⟩
    rw [if_neg (by simp [hs]), if_pos (Bool.or_eq_true _ _ ▸ hbusy)]
  · rw [hr.length, hf, hl, hc, hs]
    rfl

end Sys2Proof.Machine
end

section
/-! PROOF. FrameBytesTakeRequest: the fields of a request's frame, and its bytes received one by one. -/

namespace Sys2Proof.Machine

/-! ### The frame of a request (Table 12-1) -/

/-- Table 12-1: a request's frame from its address byte to its low CRC byte, as the receiver assembles it. -/
def assembledFrame (address kind : Byte) (payload : List Byte) : List Byte := (frameBytes address kind payload).tail

theorem frameBytes_eq (address kind : Byte) (payload : List Byte) :
    frameBytes address kind payload = startByte :: assembledFrame address kind payload := rfl

/-- A request's frame is laid out as an answer's is. -/
theorem frameBytes_eq_answerFrame (address kind : Byte) (payload : List Byte) :
    frameBytes address kind payload = answerFrame address.toNat ⟨kind, payload, false⟩ := by
  unfold answerFrame
  rw [byteOf_toNat_self]
  rfl

theorem beAt_cons_succ (b : Byte) (l : List Byte) (i n : Nat) : beAt (b :: l) (i + 1) n = beAt l i n := by
  induction n with
  | zero => rfl
  | succ n ih => rw [beAt, ih, Nat.add_right_comm, byteAt_cons_succ, beAt]

/-- A request's frame read back. -/
theorem assembledFrame_read (address kind : Byte) {payload : List Byte} (h : payload.length ≤ 64) :
    let frame := assembledFrame address kind payload
    frame.length = byteAt frame 2 + 5 ∧ byteAt frame 2 ≤ 64 ∧ byteAt frame 0 = address.toNat ∧ frame.getD 1 0 = kind ∧
      framePayload frame = payload ∧ crcAgrees frame = true := by
  intro frame
  obtain ⟨hlen, -, haddress, -, hcount, hpayload, hcrc⟩ := answerFrame_read address.toNat ⟨kind, payload, false⟩
  rw [← frameBytes_eq_answerFrame, frameBytes_eq] at hlen haddress hcount hpayload hcrc
  have hcount : byteAt frame 2 = payload.length := hcount (by simp only; omega)
  have hlen : frame.length = payload.length + 5 := Nat.succ.inj hlen
  have hcrc : beAt frame (3 + payload.length) 2 = (crc16 (frame.take (3 + payload.length))).toNat := by
    rw [← beAt_cons_succ startByte, Nat.add_right_comm]
    exact hcrc
  refine ⟨by omega, by omega, haddress address.isLt, rfl, ?_, ?_⟩
  · rw [framePayload, hcount]
    exact hpayload
  · rw [crcAgrees_iff, hcount, hcrc]

/-- R158: the address byte of a request names its addressing at a unit with a legal address. -/
theorem frameAddressing_addressByte {unit : Nat} (hlow : 1 ≤ unit) (hhigh : unit ≤ 31) {a : Addressing} {frame : List Byte}
    (h : byteAt frame 0 = (addressByte unit a).toNat) : frameAddressing unit frame = some a := by
  cases a with
  | addressed =>
    have hunit : byteAt frame 0 = unit := h.trans (byteOf_of_lt (by omega))
    rw [frameAddressing, if_pos hunit]
  | broadcast =>
    have hzero : byteAt frame 0 = 0 := h
    rw [frameAddressing, if_neg (by omega), if_pos hzero]

/-- R158: the frame of a request is accepted and taken. -/
theorem State.acceptFrame_request {s : State} (hlow : 1 ≤ s.link.unit) (hhigh : s.link.unit ≤ 31) (a : Addressing)
    {kind : Byte} {payload : List Byte} {r : Request} (hr : requestOf kind payload = some r) (hlen : payload.length ≤ 64) :
    s.acceptFrame (assembledFrame (addressByte s.link.unit a) kind payload) = s.take a r := by
  obtain ⟨-, -, haddress, hkind, hpayload, hcrc⟩ := assembledFrame_read (addressByte s.link.unit a) kind hlen
  have hknown := (knownKind_iff.1 (knownKind_of_requestOf hr)).2
  have hsmall : byteAt (assembledFrame (addressByte s.link.unit a) kind payload) 1 < 128 := by
    rw [byteAt, hkind]
    omega
  have haccepts := (accepts_passed hcrc hsmall s.link.unit).trans (frameAddressing_addressByte hlow hhigh haddress)
  rw [State.acceptFrame_accepted haccepts, hkind, hpayload, State.takeKind_known s hr]

/-! ### The bytes of a frame one by one (R157) -/

theorem State.after_cons {s t : State} {c : Instr} (h : exec c s = .next t) (rest : List Instr) :
    s.after (c :: rest) = t.after rest := by
  simp only [State.after, h]

section
variable {s : State}

theorem State.sending_of_no_answer (h : s.link.answer = none) : s.sending = false := by
  simp only [State.sending, h]

/-- R157: a byte of a frame in assembly while no answer is held. -/
theorem execLineByte_assembling (h : s.link.answer = none) (bytes : List Byte) (b : Byte) :
    exec (.lineByte b false) (s.setReceiver (.assembling bytes)) =
      .next ((s.setReceiver (.assembling bytes)).assembleByte (bytes ++ [b])) := by
  have hanswer : (s.setReceiver (.assembling bytes)).link.answer = none := h
  rw [execLineByte_heard (State.sending_of_no_answer hanswer), State.receiveByte_assembling rfl, if_neg Bool.false_ne_true]

/-- R157: with no answer held, the end of a frame in assembly is the receiver in WAIT_IDLE. -/
theorem State.onFrame_assembled (h : s.link.answer = none) (bytes : List Byte) (f : State → State) :
    (s.setReceiver (.assembling bytes)).onFrame f = f (s.setReceiver .waitIdle) := by
  have hanswer : (s.setReceiver (.assembling bytes)).link.answer = none := h
  rw [State.onFrame_heard (State.sending_of_no_answer hanswer), State.frameEnd, State.withdrawAnswer_kept (.inl hanswer)]
  rfl

/-- R157: from any part of a frame, the bytes that complete it end in the frame accepted or dropped. -/
theorem State.after_frame_rest (h : s.link.answer = none) {frame : List Byte} (hlength : byteAt frame 2 ≤ 64)
    (hwhole : frame.length = byteAt frame 2 + 5) (b : Byte) (rest bytes : List Byte) (hframe : bytes ++ b :: rest = frame) :
    (s.setReceiver (.assembling bytes)).after ((b :: rest).map (.lineByte · false)) =
      some ((s.setReceiver .waitIdle).acceptFrame frame) := by
  induction rest generalizing b bytes with
  | nil =>
    subst hframe
    rw [List.map_cons, State.after_cons (execLineByte_assembling h bytes b), State.assembleByte_completes hlength hwhole,
      State.onFrame_assembled h]
    rfl
  | cons c rest ih =>
    have hsplit : (bytes ++ [b]) ++ c :: rest = frame := (List.append_assoc ..).trans hframe
    have hbyte : 2 < (bytes ++ [b]).length → byteAt (bytes ++ [b]) 2 = byteAt frame 2 := fun hl => by
      rw [← hsplit, byteAt_append_left hl]
    have hshort : (bytes ++ [b]).length < frame.length := by
      rw [← hsplit, List.length_append (as := bytes ++ [b]), List.length_cons]
      omega
    rw [List.map_cons, State.after_cons (execLineByte_assembling h bytes b),
      State.assembleByte_kept (fun h3 => hbyte (by omega) ▸ hlength) fun ⟨h5, hc⟩ => by
        rw [hbyte (by omega)] at hc
        omega]
    exact ih c (bytes ++ [b]) hsplit

end

/-- Settles O6: the start byte withdraws an answer not begun, and the frame assembled is accepted as the request it spells. -/
theorem frameBytesTakeRequest : Obligations.FrameBytesTakeRequest := by
  unfold Obligations.FrameBytesTakeRequest
  intro s k a payload i hi hlen hs hready hlow hhigh
  obtain ⟨r, hr⟩ := requestRow_request hi
  refine ⟨s.frameEnd.take a r, (hr.row s).trans (congrArg Host.Outcome.next (State.onFrame_heard hs _)), ?_⟩
  obtain ⟨hwhole, hlength, -⟩ := assembledFrame_read (addressByte s.link.unit a) (byteOf k) hlen
  have hbegin : exec (.lineByte startByte false) s = .next s.beginFrame :=
    (execLineByte_heard hs startByte false).trans
      (congrArg Host.Outcome.next ((State.receiveByte_ready hready startByte false).trans (if_pos ⟨rfl, rfl⟩)))
  have htaken := s.frameEnd.acceptFrame_request (by rwa [State.frameEnd_unit]) (by rwa [State.frameEnd_unit]) a hr.request hlen
  rw [State.frameEnd_unit] at htaken
  rw [frameBytes_eq, List.map_cons, State.after_cons hbegin, ← htaken]
  exact State.after_frame_rest (State.frameEnd_answer hs) hlength hwhole _ _ [] rfl

end Sys2Proof.Machine
end

section
/-! PROOF. StatusReportsAndClears: ATTN by the flags of the summary, and the bytes of the answer. -/

namespace Sys2Proof.Machine

/-! ### ATTN (R164) -/

theorem PosFlag.mem_all (f : PosFlag) : f ∈ PosFlag.all := by cases f <;> decide

theorem State.attnLow_iff (s : State) : s.attnLow = true ↔ ∃ f, s.posFlag f = true :=
  List.any_eq_true.trans ⟨fun ⟨f, _, h⟩ => ⟨f, h⟩, fun ⟨f, h⟩ => ⟨f, f.mem_all, h⟩⟩

theorem State.attnLow_congr {s t : State} (h : t.link.summary = s.link.summary) : t.attnLow = s.attnLow :=
  congrArg PosFlag.all.any (funext (State.posFlag_congr h))

theorem State.attnLow_clear {s : State} (h : s.link.summary = 0) : s.attnLow = false := by
  rw [← Bool.not_eq_true, State.attnLow_iff]
  rintro ⟨f, hf⟩
  simp [State.posFlag, h] at hf

/-- R97, R110: a PCIe link reset leaves the POS link. -/
theorem execPcieLinkReset_link (s : State) : ∃ t, exec .pcieLinkReset s = .next t ∧ t.link = s.link :=
  ⟨_, rfl, (congrArg State.link ({ s with assets := s.assets.linkReset } : State).discardAllBuilding_leaves.1 :)⟩

/-! ### The fields of the answer (Table 12-5) -/

/-- The minute that STATUS reports, FFFFh while the time is unset. -/
def minuteReported (o : Option TimeOfDay) : Nat := (o.map TimeOfDay.minute).getD 0xFFFF

/-- The second that STATUS reports, a free value while the time is unset (log entry 11). -/
def secondReported (o : Option TimeOfDay) : Byte := (o.map fun t => byteOf t.second).getD Config.unsetSecond

theorem timeBytes_eq (o : Option TimeOfDay) : timeBytes o = beBytes 2 (minuteReported o) ++ [secondReported o] := by
  cases o <;> rfl

/-- The answer of STATUS byte by byte. -/
theorem statusFields_eq (s : State) : statusFields s =
    [s.link.summary, commitByte s.stager.commit, byteOf (s.stager.commitNumber.toNat / 256),
      byteOf s.stager.commitNumber.toNat, s.stager.lastOutcome.byte, byteOf s.stager.staging.length,
      byteOf s.daypart.live.val, forceByte s.daypart.force, byteOf (minuteReported s.daypart.time / 256),
      byteOf (minuteReported s.daypart.time), secondReported s.daypart.time, loadByte s.nva.loading,
      byteOf (s.checker.suspended.length / 256), byteOf s.checker.suspended.length, testByte s.checker] := by
  rw [statusFields, timeBytes_eq]
  rfl

/-- Fixing a hold expiry leaves the commit state that is reported. -/
theorem commitByte_fixExpiry (st : Stager) : commitByte st.fixExpiry.commit = commitByte st.commit := by
  by_cases h : ∃ c f, st.commit = some c ∧ c.state = .held f
  · obtain ⟨c, f, hc, hs⟩ := h
    simp only [Stager.fixExpiry_held hc hs, hc, commitByte, hs]
  · rw [Stager.fixExpiry_other fun c f hc hs => h ⟨c, f, hc, hs⟩]

/-- The end of the request's frame changes nothing that STATUS reports. -/
theorem statusFields_frameEnd (s : State) : statusFields s.frameEnd = statusFields s := by
  have hcommit : commitByte s.frameEnd.stager.commit = commitByte s.stager.commit := by
    rcases s.frameEnd_stager with h | h <;> rw [h]
    exact commitByte_fixExpiry s.stager
  simp only [statusFields, hcommit, State.frameEnd_summary, State.frameEnd_commitNumber, State.frameEnd_lastOutcome,
    State.frameEnd_staging, State.frameEnd_daypart, State.frameEnd_nva, State.frameEnd_checker]

/-- A big-endian number of two bytes. -/
theorem beAt_bytes {l : List Byte} {i v : Nat} (hv : v < 65536) (hhigh : byteAt l i = (byteOf (v / 256)).toNat)
    (hlow : byteAt l (i + 1) = (byteOf v).toNat) : beAt l i 2 = v := by
  rw [beAt_two, hhigh, hlow, byteOf_toNat, byteOf_toNat, two_bytes hv]

/-- The last byte of the answer: the latch and the arming below the last result. -/
theorem testByte_toNat (c : Checker) :
    (testByte c).toNat = 2 ^ 4 * c.lastResult.code + bitsOf [c.latch, c.armed] := by
  have hcode : c.lastResult.code ≤ 2 := by cases c.lastResult <;> decide
  have hbits : bitsOf [c.latch, c.armed] = (if c.latch then 1 else 0) + (if c.armed then 2 else 0) := by
    cases c.armed <;> rfl
  have hlt : bitsOf [c.latch, c.armed] < 2 ^ 2 := bitsOf_lt _
  rw [testByte, ← hbits, byteOf_of_lt (by omega), Nat.add_comm]
  rfl

theorem testByte_read (c : Checker) : (testByte c).toNat.testBit 0 = c.latch ∧ (testByte c).toNat.testBit 1 = c.armed ∧
    (testByte c).toNat / 16 = c.lastResult.code := by
  have hlt : bitsOf [c.latch, c.armed] < 2 ^ 4 :=
    (show bitsOf [c.latch, c.armed] < 2 ^ 2 from bitsOf_lt _).trans (by decide)
  have hbit : ∀ i < 4, (testByte c).toNat.testBit i = [c.latch, c.armed].getD i false := fun i hi => by
    rw [testByte_toNat, Nat.testBit_two_pow_mul_add _ hlt, if_pos hi, testBit_bitsOf]
  refine ⟨hbit 0 (by decide), hbit 1 (by decide), ?_⟩
  rw [testByte_toNat]
  omega

/-- R159, R162, R163: a STATUS that passes its tests is answered, and the summary is then clear. -/
theorem exec_status {s : State} (h : s.TakesRequests) : exec (.status .addressed []) s =
    ({ s.frameEnd with link := { s.frameEnd.link with summary := 0 } }).answers 0x01 (0x00 :: statusFields s) := by
  rw [← statusFields_frameEnd]
  exact congrArg Host.Outcome.next (h.handed (r := statusRequest []) rfl rfl)

/-- Settles O11: ATTN by the summary, and each field of the answer by its byte. -/
theorem statusReportsAndClears : Obligations.StatusReportsAndClears := by
  unfold Obligations.StatusReportsAndClears
  refine ⟨State.attnLow_iff, fun s hs => ⟨_, exec_status hs, State.attnLow_clear rfl⟩,
    fun s f => ⟨s.attnLow_raisePos f, fun g => (s.posFlag_raisePos f g).trans (Bool.or_comm ..), rfl⟩,
    ⟨State.attnLow_clear rfl, fun s => ?_⟩, fun s hs hstaging hsuspended htime => ?_⟩
  · obtain ⟨t, ht, hlink⟩ := execPcieLinkReset_link s
    exact ⟨t, ht, State.attnLow_congr (congrArg PosLink.summary hlink)⟩
  refine ⟨_, exec_status hs, ?_⟩
  obtain ⟨-, hloaded, -⟩ := hs
  obtain ⟨hlatch, harmed, hresult⟩ := testByte_read s.checker
  rw [statusFields_eq]
  refine ⟨rfl, rfl, rfl, ?_, beAt_bytes s.stager.commitNumber.isLt rfl rfl, ?_, byteOf_of_lt (by omega),
    byteOf_of_lt (by omega), ?_, fun hnone => ?_, fun m hm => ?_, ?_, beAt_bytes (by omega) rfl rfl, hlatch, harmed,
    hresult.trans ?_⟩
  · show (commitByte s.stager.commit).toNat = _
    cases s.stager.commit with
    | none => rfl
    | some c =>
      simp only [commitByte]
      cases c.state <;> rfl
  · show s.stager.lastOutcome.byte.toNat = _
    cases s.stager.lastOutcome <;> rfl
  · show (forceByte s.daypart.force).toNat = _
    cases s.daypart.force with
    | none => rfl
    | some d => exact byteOf_of_lt (by omega)
  · rw [hnone]
    exact beAt_bytes (by decide) rfl rfl
  · obtain ⟨hminute, hsecond⟩ := htime m hm
    rw [hm]
    exact ⟨beAt_bytes (by omega) rfl rfl, byteOf_of_lt (by omega)⟩
  · show (loadByte s.nva.loading).toNat = 1
    rw [hloaded]
    rfl
  · cases s.checker.lastResult <;> rfl

end Sys2Proof.Machine
end

section
/-! SUPPORT. The command record: its bytes read back after a write, the fields of each command as the go word takes them, and
what the owner of a command may leave. -/

namespace Sys2Proof.Machine

/-! ### The record after a write (R166) -/

theorem storeRecord_getElem (l : List Byte) (r : Vector Byte 64) (o : Nat) {k : Nat} (hk : k < 64) :
    (storeRecord r o l)[k] = if o ≤ k ∧ k < o + l.length then l.getD (k - o) 0 else r[k] := by
  induction l generalizing r o with
  | nil => simp [storeRecord]
  | cons b rest ih =>
    rw [storeRecord, ih, Vector.getElem_setIfInBounds]
    rcases Nat.lt_trichotomy k o with hlt | rfl | hgt
    · rw [if_neg (by omega), if_neg (by omega), if_neg (by omega)]
    · simp
    · obtain ⟨j, rfl⟩ : ∃ j, k = o + 1 + j := ⟨k - (o + 1), by omega⟩
      have hj : o + 1 + j - o = j + 1 := by omega
      simp only [hj, List.getD_cons_succ, List.length_cons, Nat.add_sub_cancel_left]
      by_cases h : j < rest.length
      · rw [if_pos (by omega), if_pos (by omega)]
      · rw [if_neg (by omega), if_neg (by omega), if_neg (by omega)]

theorem rec8_storeRecord (l : List Byte) (r : Vector Byte 64) (o : Nat) {k : Nat} (hk : k < 64) :
    rec8 (storeRecord r o l) k = if o ≤ k ∧ k < o + l.length then l.getD (k - o) 0 else rec8 r k := by
  have hget : ∀ v : Vector Byte 64, rec8 v k = v[k] := fun v => by simp [rec8, hk]
  rw [hget, hget, storeRecord_getElem l r o hk]

/-- A pair of bytes reads back. -/
theorem two_read (v : BitVec 16) : (v >>> 8).setWidth 8 ++ v.setWidth 8 = v := by
  ext i hi
  rw [BitVec.getElem_append]
  split
  · rw [BitVec.getElem_setWidth, BitVec.getLsbD_eq_getElem]
  · rw [BitVec.getElem_setWidth, BitVec.getLsbD_ushiftRight, Nat.add_sub_cancel' (by omega), BitVec.getLsbD_eq_getElem]

section
variable (s : State)

/-! ### Commands by their record (Table 12-6) -/

theorem OpenForm.ofRecord_written (c : Byte) (f : OpenForm) :
    OpenForm.ofRecord (s.writeRecord ((0, [c]) :: f.fields)).port.record = f := by
  simp [OpenForm.ofRecord, OpenForm.fields, rec16, two, rec8_storeRecord, two_read]

theorem SceneForm.ofRecord_written (c : Byte) (f : SceneForm) :
    SceneForm.ofRecord (s.writeRecord ((0, [c]) :: f.fields)).port.record = f := by
  simp [SceneForm.ofRecord, SceneForm.fields, rec8_storeRecord]

theorem LayerForm.ofRecord_written (c : Byte) (f : LayerForm) :
    LayerForm.ofRecord (s.writeRecord ((0, [c]) :: f.fields)).port.record = f := by
  simp [LayerForm.ofRecord, LayerForm.fields, rec16, two, rec8_storeRecord, two_read]

theorem StyleForm.ofRecord_written (c : Byte) (f : StyleForm) :
    StyleForm.ofRecord (s.writeRecord ((0, [c]) :: f.fields)).port.record = f := by
  simp [StyleForm.ofRecord, StyleForm.fields, rec16, two, rec8_storeRecord, two_read]

theorem CurveForm.ofRecord_written (c : Byte) (f : CurveForm) :
    CurveForm.ofRecord (s.writeRecord ((0, [c]) :: f.fields)).port.record = f := by
  have hvec : ∀ v : Vector (BitVec 16) 4, #v[v[0], v[1], v[2], v[3]] = v := fun v => by
    ext i hi
    interval_cases i <;> rfl
  simp [CurveForm.ofRecord, CurveForm.fields, rec16, two, rec8_storeRecord, two_read, hvec]

theorem ThermalForm.ofRecord_written (c : Byte) (f : ThermalForm) :
    ThermalForm.ofRecord (s.writeRecord ((0, [c]) :: f.fields)).port.record = f := by
  simp [ThermalForm.ofRecord, ThermalForm.fields, rec16, two, rec8_storeRecord, two_read]

theorem rec16_written (c : Byte) (v : BitVec 16) : rec16 (s.writeRecord [(0, [c]), (4, two v)]).port.record 4 = v := by
  simp [rec16, two, rec8_storeRecord, two_read]

theorem rec8_written (c b : Byte) : rec8 (s.writeRecord [(0, [c]), (4, [b])]).port.record 4 = b := by
  simp [rec8_storeRecord]

theorem rec8_written_panelSet (c p e m : Byte) : rec8 (s.writeRecord [(0, [c]), (4, [p, e, m])]).port.record 4 = p ∧
    rec8 (s.writeRecord [(0, [c]), (4, [p, e, m])]).port.record 5 = e ∧
    rec8 (s.writeRecord [(0, [c]), (4, [p, e, m])]).port.record 6 = m := by
  simp [rec8_storeRecord]

end

/-- The code that a command row writes is the code that the go word reads. -/
theorem commandRow_code {i : Instr} {r : CommandRow} (h : commandRow i = some r) (s : State) :
    rec8 (s.writeRecord ((0, [r.code]) :: r.fields)).port.record 0 = r.code := by
  have hoff : ∀ e ∈ r.fields, 0 < e.1 := by
    unfold commandRow at h
    split at h
    case h_19 => cases h
    all_goals
      cases h
      simp [OpenForm.fields, SceneForm.fields, LayerForm.fields, StyleForm.fields, CurveForm.fields, ThermalForm.fields]
  refine List.foldlRecOn r.fields _ (motive := fun v => rec8 v 0 = r.code) (rec8_storeRecord _ _ _ (by decide))
    fun v hv e he => ?_
  have hpos := hoff e he
  rw [rec8_storeRecord _ _ _ (by decide), if_neg (by omega), hv]

/-- R167: a content command does what its go word does over the record it writes. -/
theorem commandRow_runRecord {i : Instr} {r : CommandRow} (h : commandRow i = some r) (s : State) :
    exec i s = .next ((s.writeRecord ((0, [r.code]) :: r.fields)).runRecord r.go) := by
  have hcode := commandRow_code h s
  unfold State.runRecord
  dsimp only
  rw [hcode]
  unfold commandRow at h
  split at h <;> cases h
  all_goals dsimp only
  case h_1 => rw [OpenForm.ofRecord_written]; rfl
  case h_6 => rw [SceneForm.ofRecord_written]; rfl
  case h_7 => rw [LayerForm.ofRecord_written]; rfl
  case h_10 => rw [StyleForm.ofRecord_written]; rfl
  case h_11 go p e m =>
    obtain ⟨hp, he, hm⟩ := rec8_written_panelSet s 0x30 p e m
    rw [hp, he, hm]
    rfl
  case h_12 => rw [CurveForm.ofRecord_written]; rfl
  case h_13 => rw [ThermalForm.ofRecord_written]; rfl
  case h_2 | h_3 | h_4 | h_5 | h_16 => rw [rec16_written]; rfl
  case h_8 | h_9 | h_14 | h_15 => rw [rec8_written]; rfl
  case h_17 | h_18 => rfl

/-! ### Owners of content commands (R168) -/

/-- What an owner may make of a command in a state: a refusal changes nothing, and neither the go word's tag nor the waiting
commands ever change. -/
structure CommandResult.Leaves (o : CommandResult) (s : State) : Prop where
  refused : o.status ≠ .ok → o.state = s
  goTag : o.state.port.goTag = s.port.goTag
  pending : o.state.pending = s.pending

section
variable {s t : State}

theorem CommandResult.Leaves.same {o : CommandResult} (h : o.state = s) : o.Leaves s :=
  ⟨fun _ => h, by rw [h], by rw [h]⟩

theorem CommandResult.Leaves.ok {o : CommandResult} (hst : o.status = .ok) (ht : o.state.port.goTag = s.port.goTag)
    (hp : o.state.pending = s.pending) : o.Leaves s := ⟨fun hne => absurd hst hne, ht, hp⟩

theorem ReadsBodies.commandLeaves (h : ReadsBodies s t) (answer : List Byte) : CommandResult.Leaves ⟨t, .ok, answer⟩ s := by
  rw [h.eq]
  exact .ok rfl rfl rfl

end

section
variable (s : State)

theorem assetOpenOwner_leaves (f : OpenForm) : (assetOpenOwner f s).Leaves s := by
  unfold assetOpenOwner
  repeat' split
  case h_2.isFalse => exact .ok rfl rfl rfl
  all_goals exact .same rfl

theorem assetCloseOwner_leaves (h : Nat) : (assetCloseOwner h s).Leaves s := by
  unfold assetCloseOwner
  split
  · exact .same rfl
  · split
    · split
      · exact .same rfl
      · exact .ok rfl rfl rfl
    all_goals exact .same rfl

theorem assetAbortOwner_leaves (h : Nat) : (assetAbortOwner h s).Leaves s := by
  unfold assetAbortOwner
  split
  · exact .same rfl
  · split
    · exact .ok rfl rfl rfl
    all_goals exact .same rfl

theorem assetFreeOwner_leaves (h : Nat) : (assetFreeOwner h s).Leaves s := by
  unfold assetFreeOwner
  split
  · exact .same rfl
  · split
    · exact .same rfl
    · exact .ok rfl rfl rfl

theorem assetQueryOwner_leaves (h : Nat) : (assetQueryOwner h s).Leaves s := by
  unfold assetQueryOwner
  repeat' split
  all_goals exact .same rfl

theorem sceneBeginOwner_leaves (f : SceneForm) : (sceneBeginOwner f s).Leaves s := by
  unfold sceneBeginOwner
  split
  · exact .ok rfl rfl rfl
  · exact .same rfl

theorem layerAddOwner_leaves (f : LayerForm) : (layerAddOwner f s).Leaves s := by
  unfold layerAddOwner
  repeat' split
  case isFalse.isFalse => exact .ok rfl rfl rfl
  all_goals exact .same rfl

theorem sceneSubmitOwner_leaves (p : Byte) : (sceneSubmitOwner p s).Leaves s := by
  unfold sceneSubmitOwner
  dsimp only
  split
  · exact .same rfl
  · split
    · exact .same rfl
    · exact .ok rfl rfl rfl

theorem sceneDiscardOwner_leaves (p : Byte) : (sceneDiscardOwner p s).Leaves s := by
  unfold sceneDiscardOwner
  split
  · exact .same rfl
  · split
    · exact .same rfl
    · exact .ok rfl rfl rfl

theorem styleSetOwner_leaves (f : StyleForm) : (styleSetOwner f s).Leaves s := by
  unfold styleSetOwner
  split
  · split
    · exact .same rfl
    · split
      · exact .same rfl
      · exact .ok rfl rfl rfl
  · exact .same rfl

theorem panelSetOwner_leaves (p e r : Byte) : (panelSetOwner p e r s).Leaves s := by
  unfold panelSetOwner
  split
  · exact .ok rfl rfl rfl
  · exact .same rfl

theorem curveSetOwner_leaves (f : CurveForm) : (curveSetOwner f s).Leaves s := by
  unfold curveSetOwner
  repeat' split
  case isTrue => exact .ok rfl rfl rfl
  all_goals exact .same rfl

theorem thermalSetOwner_leaves (f : ThermalForm) : (thermalSetOwner f s).Leaves s := by
  unfold thermalSetOwner
  dsimp only
  repeat' split
  case isTrue => exact .ok rfl rfl rfl
  all_goals exact .same rfl

theorem backlightRestartOwner_leaves (p : Byte) : (backlightRestartOwner p s).Leaves s := by
  unfold backlightRestartOwner
  split
  · exact .same rfl
  · split
    · exact .ok rfl rfl rfl
    all_goals exact .same rfl

theorem frameRateSetOwner_leaves (r : Byte) : (frameRateSetOwner r s).Leaves s := by
  unfold frameRateSetOwner
  split
  · exact .same rfl
  · exact .ok rfl rfl rfl

theorem itemQueryOwner_leaves (c : Nat) : (itemQueryOwner c s).Leaves s := by
  unfold itemQueryOwner
  dsimp only
  split
  · exact .same rfl
  · split
    · exact .same rfl
    · split <;> exact (s.readBody_reads _).commandLeaves _

theorem checkTestCommand_leaves : (checkTestCommand s).Leaves s := by
  unfold checkTestCommand
  split
  · exact .same rfl
  · exact .ok rfl rfl rfl

/-- A go-word write takes the command whose code the record holds, from an owner whose refusals change nothing. -/
theorem State.runRecord_owner (go : BitVec 32) : ∃ owner : State → CommandResult, (∀ t, (owner t).Leaves t) ∧
    s.runRecord go = s.takeCommand (rec8 s.port.record 0) go owner := by
  have row : ∀ {c : Byte} {owner : State → CommandResult}, (rec8 s.port.record 0).toNat = c.toNat →
      (∀ t, (owner t).Leaves t) → ∃ owner' : State → CommandResult, (∀ t, (owner' t).Leaves t) ∧
        s.takeCommand c go owner = s.takeCommand (rec8 s.port.record 0) go owner' := fun hc ho =>
    ⟨_, ho, by rw [BitVec.eq_of_toNat_eq hc]⟩
  unfold State.runRecord
  dsimp only
  split <;> rename_i hc
  case h_1 => exact row hc fun t => assetOpenOwner_leaves t _
  case h_2 => exact row hc fun t => assetCloseOwner_leaves t _
  case h_3 => exact row hc fun t => assetAbortOwner_leaves t _
  case h_4 => exact row hc fun t => assetFreeOwner_leaves t _
  case h_5 => exact row hc fun t => assetQueryOwner_leaves t _
  case h_6 => exact row hc fun t => sceneBeginOwner_leaves t _
  case h_7 => exact row hc fun t => layerAddOwner_leaves t _
  case h_8 => exact row hc fun t => sceneSubmitOwner_leaves t _
  case h_9 => exact row hc fun t => sceneDiscardOwner_leaves t _
  case h_10 => exact row hc fun t => styleSetOwner_leaves t _
  case h_11 => exact row hc fun t => panelSetOwner_leaves t _ _ _
  case h_12 => exact row hc fun t => curveSetOwner_leaves t _
  case h_13 => exact row hc fun t => thermalSetOwner_leaves t _
  case h_14 => exact row hc fun t => backlightRestartOwner_leaves t _
  case h_15 => exact row hc fun t => frameRateSetOwner_leaves t _
  case h_16 => exact row hc fun t => itemQueryOwner_leaves t _
  case h_17 => exact row hc fun _ => .same rfl
  case h_18 => exact row hc checkTestCommand_leaves
  case h_19 => exact row rfl fun _ => .same rfl

end

end Sys2Proof.Machine
end

section
/-! PROOF. GoWordTakesCommand: where a write of the control area goes, and how a command that a go word takes ends. -/

namespace Sys2Proof.Machine

/-! ### Writes of the control area (R166) -/

section
variable (s : State) {o : BitVec 27} {data : List Byte}

theorem execRegisterWrite_misfit (ho : controlBase ≤ o.toNat) (h : ¬ accessFits o.toNat data.length = true) :
    exec (.registerWrite o data) s = .next s := by
  rw [exec, execRegisterWrite, State.windowWrite, if_neg (Nat.not_lt.2 ho), if_neg h]

theorem execRegisterWrite_control (ho : controlBase ≤ o.toNat) (h : accessFits o.toNat data.length = true) :
    exec (.registerWrite o data) s = .next (s.controlWrite (o.toNat - controlBase) data) := by
  rw [exec, execRegisterWrite, State.windowWrite, if_neg (Nat.not_lt.2 ho), if_pos h]

theorem execRegisterWrite_go (h : data.length = 4 ∨ data.length = 8) :
    exec (.registerWrite 0x4000010 data) s = .next (s.runRecord (BitVec.ofNat 32 (leAt data 0 4))) := by
  have hfits : accessFits (0x4000010 : BitVec 27).toNat data.length = true :=
    accessFits_iff.2 ⟨h, by rcases h with h | h <;> rw [h] <;> decide⟩
  have hoff : (0x4000010 : BitVec 27).toNat - controlBase = 0x10 := by decide
  rw [execRegisterWrite_control s (by decide) hfits, hoff, State.controlWrite, if_pos rfl]

end

theorem leAt_append_left {front : List Byte} (h : front.length = 4) (back : List Byte) :
    leAt (front ++ back) 0 4 = leAt front 0 4 := by
  simp only [leAt_four]
  repeat rw [byteAt_append_left (by omega)]

theorem leAt_leBytes_four {v : Nat} (h : v < 4294967296) : leAt (leBytes 4 v) 0 4 = v := by
  rw [leAt_four]
  repeat rw [byteAt_leBytes (by decide)]
  omega

/-- The go word reads back from its bytes. -/
theorem ofNat_leAt_go (go : BitVec 32) : BitVec.ofNat 32 (leAt (leBytes 4 go.toNat) 0 4) = go := by
  rw [leAt_leBytes_four go.isLt, BitVec.ofNat_toNat, BitVec.setWidth_eq]

/-! ### How a command ends (R167, R168) -/

section
variable {s : State} {i : Instr} {r : CommandRow}

/-- The one command that the start-up load lets through is STATUS_QUERY. -/
theorem commandRow_statusQuery (h : commandRow i = some r) (hc : r.code = 0x41) : i = .statusQuery r.go := by
  unfold commandRow at h
  split at h <;> cases h
  case h_17 => rfl
  all_goals
    dsimp only at hc
    exact absurd hc (by decide)

theorem State.takeCommand_leaves {owner : State → CommandResult} (ho : ∀ t, (owner t).Leaves t) (s : State) (code : Byte)
    (go : BitVec 32) : ∃ o : CommandResult, o.Leaves (s.tagged go) ∧
      s.takeCommand code go owner = o.state.completed code go o.status o.answer := by
  unfold State.takeCommand CommandResult.complete
  dsimp only
  split
  · exact ⟨refuse (s.tagged go) .loading, .same rfl, rfl⟩
  · exact ⟨owner (s.tagged go), ho _, rfl⟩

theorem commandRow_taken (h : commandRow i = some r) (s : State) : ∃ owner : State → CommandResult,
    (∀ t, (owner t).Leaves t) ∧
    exec i s = .next ((s.writeRecord ((0, [r.code]) :: r.fields)).takeCommand r.code r.go owner) := by
  obtain ⟨owner, ho, hrun⟩ := State.runRecord_owner (s.writeRecord ((0, [r.code]) :: r.fields)) r.go
  exact ⟨owner, ho, by rw [commandRow_runRecord h, hrun, commandRow_code h]⟩

theorem State.completed_cmdDone (t : State) (code : Byte) (go : BitVec 32) (st : ContentStatus) (answer : List Byte) :
    (t.completed code go st answer).contentFlag .cmdDone = true :=
  (ContentPort.raise_getLsbD _ _ _).trans (Bool.or_true _)

end

/-- Settles O52: the record reads back as the row's fields, so the go word over it runs the row, and the owner of the command
decides what is left but for a refusal. -/
theorem goWordTakesCommand : Obligations.GoWordTakesCommand := by
  unfold Obligations.GoWordTakesCommand
  intro s i r h
  have hrun := commandRow_runRecord h s
  obtain ⟨owner, howner, htaken⟩ := commandRow_taken h s
  have hgo : (leBytes 4 r.go.toNat).length = 4 := leBytes_length ..
  refine ⟨?_, fun high hhigh => ?_, fun low high hlow hhigh => ?_, fun hl hi => ?_, ?_⟩
  · rw [execRegisterWrite_go _ (.inl hgo), ofNat_leAt_go, hrun]
  · rw [execRegisterWrite_go _ (.inr (by rw [List.length_append, hgo, hhigh])), leAt_append_left hgo, ofNat_leAt_go, hrun]
  · rw [execRegisterWrite_go _ (.inr (by rw [List.length_append, hlow, hhigh])), execRegisterWrite_go _ (.inl hlow),
      leAt_append_left hlow]
  · have hloading : (s.writeRecord ((0, [r.code]) :: r.fields)).nva.loading = true := hl
    refine ⟨r, h, htaken.trans (congrArg Host.Outcome.next ?_)⟩
    exact State.takeCommand_loading hloading (mt (commandRow_statusQuery h) hi) r.go owner
  · obtain ⟨o, hleaves, htake⟩ :=
      State.takeCommand_leaves howner (s.writeRecord ((0, [r.code]) :: r.fields)) r.code r.go
    exact ⟨o.state, o.status, o.answer, htaken.trans (congrArg Host.Outcome.next htake), hleaves.refused,
      hleaves.goTag, rfl, State.completed_cmdDone ..⟩

end Sys2Proof.Machine
end

section
/-! PROOF. PortWritesAndFlagEvents: writes of the command record and beside it, an unknown code, and the flag events. -/

namespace Sys2Proof.Machine

section
variable (s : State)

/-- R166: the control area holds its go word and its command record where writes act. -/
theorem State.controlWrite_ignored {o : Nat} (hgo : o ≠ 0x10) (h : o < 0x20 ∨ 0x60 ≤ o) (data : List Byte) :
    s.controlWrite o data = s := by
  rw [State.controlWrite, if_neg hgo, if_neg (by omega)]

theorem State.controlWrite_record {o : Nat} (h : 0x20 ≤ o) (h' : o < 0x60) (data : List Byte) :
    s.controlWrite o data = { s with port := { s.port with record := storeRecord s.port.record (o - 0x20) data } } := by
  rw [State.controlWrite, if_neg (by omega), if_pos ⟨h, h'⟩]
  rfl

/-- R167: a go word over a record with a code that Table 12-6 does not list. -/
theorem State.runRecord_unknown (go : BitVec 32) (h : (rec8 s.port.record 0).toNat ∉ commandCodes) :
    s.runRecord go = takeUnknownCommand (rec8 s.port.record 0) go s := by
  unfold State.runRecord
  dsimp only
  split
  case h_19 => rfl
  all_goals
    rename_i hc
    exact absurd (hc ▸ by decide) h

theorem takeUnknownCommand_eq {code : Byte} (h : code ≠ 0x41) (go : BitVec 32) : takeUnknownCommand code go s =
    (s.tagged go).completed code go (if s.nva.loading then .loading else .badCommand) [] := by
  unfold takeUnknownCommand
  cases hl : s.nva.loading with
  | true => exact State.takeCommand_loading hl h go _
  | false => exact State.takeCommand_owner (.inl hl) go _

end

/-- Settles O53: a write by its place in the control area, an unknown code by its branch of the go word, and a flag event by the
interrupt's two conditions. -/
theorem portWritesAndFlagEvents : Obligations.PortWritesAndFlagEvents := by
  unfold Obligations.PortWritesAndFlagEvents
  have hbase : controlBase = 0x4000000 := rfl
  refine ⟨fun s => ⟨fun o data hlen hmod => ⟨fun hlow hhigh => ?_, fun hlow hgo hout => ?_⟩, fun o data ho hmis => ?_,
    fun go code hcode => ?_, fun on => rfl⟩, fun p f => ⟨?_, fun ha hm => ?_, fun hnot => ?_, rfl, rfl, rfl, rfl⟩⟩
  · refine ⟨_, ?_, fun k => storeRecord_getElem data s.port.record (o.toNat - 0x4000020) k.isLt⟩
    rw [execRegisterWrite_control s (by omega) (accessFits_iff.2 ⟨hlen, hmod⟩),
      State.controlWrite_record s (by omega) (by omega), Nat.sub_sub]
    rfl
  · rw [execRegisterWrite_control s hlow (accessFits_iff.2 ⟨hlen, hmod⟩),
      State.controlWrite_ignored s (by omega) (by omega)]
  · refine execRegisterWrite_misfit s ho fun hfits => ?_
    obtain ⟨hlen, hmod⟩ := accessFits_iff.1 hfits
    rcases hmis with hmis | hmis
    · omega
    · exact hmis hmod
  · have hread : rec8 (s.writeRecord [(0, [code])]).port.record 0 = code := rec8_storeRecord _ _ _ (by decide)
    have hne : code ≠ 0x41 := fun h => hcode (h ▸ by decide)
    show Host.Outcome.next ((s.writeRecord [(0, [code])]).runRecord go) = _
    rw [State.runRecord_unknown _ go (hread.symm ▸ hcode), hread, takeUnknownCommand_eq _ hne]
    rfl
  · rw [ContentPort.raise_summary, BitVec.twoPow]
  · simp [ContentPort.raise, ha, hm]
  · rcases hnot with h | h <;> simp [ContentPort.raise, h]

end Sys2Proof.Machine
end

section
/-! PROOF. EveryCommandCompletes: no request, content command or event touches the waiting commands, and every row answers a
next state. -/

namespace Sys2Proof.Machine

section
variable {s t : State}

/-! ### Operations that change named blocks -/

theorem Checks.pending (h : Checks s t) : t.pending = s.pending := by rw [h.eq]

theorem ReadsBodies.pending (h : ReadsBodies s t) : t.pending = s.pending := h.checks.pending

theorem Loads.pending (h : Loads s t) : t.pending = s.pending := by rw [h.eq]

end

section
variable (s : State)

/-! ### Owners of requests -/

theorem stageEntry_pending (e : StagedEntry) : (stageEntry e s).1.pending = s.pending := by
  unfold stageEntry
  dsimp only
  repeat' split
  all_goals rfl

theorem stagingOwners_pending (l : List Byte) :
    (itemStageOwner l s).1.pending = s.pending ∧ (itemRemoveOwner l s).1.pending = s.pending ∧
      (promoStageOwner l s).1.pending = s.pending ∧ (rulesStageOwner l s).1.pending = s.pending := by
  unfold itemStageOwner itemRemoveOwner promoStageOwner rulesStageOwner
  refine ⟨?_, ?_, ?_, ?_⟩
  · split
    · exact stageEntry_pending ..
    · rfl
  · split
    · exact stageEntry_pending ..
    · rfl
  · repeat' split
    case h_1 => exact stageEntry_pending ..
    all_goals rfl
  · split
    · exact stageEntry_pending ..
    · rfl

theorem commitOwners_pending (l : List Byte) : (commitOwner l s).1.pending = s.pending ∧
    (applyOwner s).1.pending = s.pending ∧ (commitCancelOwner s).1.pending = s.pending := by
  unfold commitOwner applyOwner commitCancelOwner
  refine ⟨?_, ?_, ?_⟩
  all_goals
    repeat' split
    all_goals rfl

theorem daypartOwners_pending (l : List Byte) :
    (availSetOwner l s).1.pending = s.pending ∧ (scheduleSetOwner l s).1.pending = s.pending ∧
      (daypartForceOwner l s).1.pending = s.pending ∧ (timeSetOwner l s).1.pending = s.pending := by
  unfold availSetOwner scheduleSetOwner daypartForceOwner timeSetOwner
  refine ⟨?_, ?_, ?_, ?_⟩
  all_goals split <;> rfl

theorem itemReadOwner_pending (l : List Byte) : (itemReadOwner l s).1.pending = s.pending := by
  unfold itemReadOwner
  dsimp only
  repeat' split
  case h_1 | isTrue => rfl
  all_goals exact (s.readBody_reads _).pending

theorem suspendClearOwner_pending (l : List Byte) : (suspendClearOwner l s).1.pending = s.pending := by
  unfold suspendClearOwner
  dsimp only
  repeat' split
  case h_4 => exact (s.unsuspend_reports _).readsBodies.pending
  all_goals rfl

theorem checkTestOwner_pending : (checkTestOwner s).1.pending = s.pending := by
  unfold checkTestOwner
  split <;> rfl

/-- No owner of a request reaches the waiting commands. -/
theorem owner_pending {kind : Byte} {l : List Byte} {r : Request} (hr : requestOf kind l = some r) :
    (r.owner s).1.pending = s.pending := by
  obtain ⟨hitem, hremove, hpromo, hrules⟩ := stagingOwners_pending s l
  obtain ⟨hcommit, happly, hcancel⟩ := commitOwners_pending s l
  obtain ⟨havail, hschedule, hforce, htime⟩ := daypartOwners_pending s l
  unfold requestOf at hr
  split at hr <;> cases hr
  case h_2 => exact hitem
  case h_3 => exact hremove
  case h_4 => exact hpromo
  case h_5 => exact hrules
  case h_7 => exact hcommit
  case h_8 => exact happly
  case h_9 => exact hcancel
  case h_10 => exact havail
  case h_11 => exact hschedule
  case h_12 => exact hforce
  case h_13 => exact htime
  case h_14 => exact itemReadOwner_pending s l
  case h_16 => exact suspendClearOwner_pending s l
  case h_18 => exact checkTestOwner_pending s
  case h_1 | h_6 | h_15 | h_17 => rfl

/-! ### Frames on the POS link -/

theorem State.take_pending (a : Addressing) {r : Request} (hr : (r.owner s).1.pending = s.pending) :
    (s.take a r).pending = s.pending := by
  unfold State.take
  cases a with
  | addressed =>
    dsimp only
    repeat' split
    case h_1 | h_2 => exact hr
    all_goals rfl
  | broadcast =>
    dsimp only
    split
    · rfl
    · exact hr

theorem State.takeKind_pending (a : Addressing) (kind : Byte) (l : List Byte) :
    (s.takeKind a kind l).pending = s.pending := by
  unfold State.takeKind
  split
  · rename_i r hr
    exact s.take_pending a (owner_pending s hr)
  · unfold State.takeUnknown
    repeat' split
    all_goals rfl

theorem State.acceptFrame_pending (frame : List Byte) : (s.acceptFrame frame).pending = s.pending := by
  unfold State.acceptFrame
  split
  · exact s.takeKind_pending ..
  · rfl

theorem State.onFrame_pending {f : State → State} (hf : ∀ t, (f t).pending = t.pending) :
    (s.onFrame f).pending = s.pending := by
  unfold State.onFrame
  split
  · rfl
  · exact (hf _).trans s.frameEnd_pending

theorem State.receiveByte_pending (b : Byte) (fe : Bool) : (s.receiveByte b fe).pending = s.pending := by
  unfold State.receiveByte State.assembleByte
  repeat' split
  case h_2.isTrue => exact s.withdrawAnswer_pending
  case h_3.isFalse.isFalse.isTrue => exact s.onFrame_pending fun t => t.acceptFrame_pending _
  all_goals rfl

/-! ### Content commands and the content window -/

theorem State.takeCommand_pending {owner : State → CommandResult} (ho : ∀ t, (owner t).Leaves t) (code : Byte)
    (go : BitVec 32) : (s.takeCommand code go owner).pending = s.pending := by
  obtain ⟨o, hleaves, htake⟩ := State.takeCommand_leaves ho s code go
  rw [htake]
  exact hleaves.pending

theorem State.runRecord_pending (go : BitVec 32) : (s.runRecord go).pending = s.pending := by
  obtain ⟨owner, ho, hrun⟩ := s.runRecord_owner go
  rw [hrun, State.takeCommand_pending s ho]

theorem State.apertureWrite_pending (o : Nat) (l : List Byte) : (s.apertureWrite o l).pending = s.pending := by
  unfold State.apertureWrite
  dsimp only
  repeat' split
  all_goals rfl

theorem State.windowWrite_pending (o : Nat) (l : List Byte) : (s.windowWrite o l).pending = s.pending := by
  unfold State.windowWrite State.controlWrite
  repeat' split
  · exact s.apertureWrite_pending o l
  · exact s.runRecord_pending _
  all_goals rfl

/-! ### The commit check, the load and the link reset -/

theorem State.finishCheck_pending (c : CommitRecord) : (s.finishCheck c).pending = s.pending := by
  unfold State.finishCheck State.commitAnswer
  dsimp only
  repeat' split
  all_goals rfl

theorem State.load_pending (slots : List (SlotId × NvSlot)) (journal : Option Journal) :
    (s.loadStart slots journal).loadFold.endLoad.pending = s.pending := by
  have h : Loads (s.loadStart slots journal) (s.loadStart slots journal).loadFold := by
    rw [State.loadFold_eq]
    exact (State.loadJournal_loads _).trans (State.loadAll_loads ..)
  generalize (s.loadStart slots journal).loadFold = u at *
  exact h.pending

theorem State.discardAllBuilding_pending : s.discardAllBuilding.pending = s.pending :=
  List.foldlRecOn _ State.discardBuilding (motive := fun t => t.pending = s.pending) rfl fun t ht p _ =>
    (rfl : (t.discardBuilding p).pending = t.pending).trans ht

end

/-! ### Every row -/

section
variable {s t : State} {c : Instr}

theorem request_pending {k : Nat} {a : Addressing} {l : List Byte} (hr : requestRow k a l = some c)
    (e : exec c s = .next t) : t.pending = s.pending := by
  obtain ⟨r, hrow⟩ := requestRow_request hr
  rw [hrow.row] at e
  cases e
  exact s.onFrame_pending fun t => t.take_pending a (owner_pending t hrow.request)

theorem command_pending {r : CommandRow} (hr : commandRow c = some r) (e : exec c s = .next t) : t.pending = s.pending := by
  rw [commandRow_runRecord hr] at e
  cases e
  exact State.runRecord_pending _ r.go

theorem frameStart_pending {panelFirst : Bool} (e : exec (.frameStart panelFirst) s = .next t) : t.pending = s.pending := by
  cases hl : s.nva.loading with
  | true =>
    rw [execFrameStart_loading hl] at e
    cases e
    rfl
  | false =>
    by_cases hj : s.engine.job = .idle
    · obtain ⟨_, u, hexec, -, hbegins, -⟩ := frameStart_begins hl hj panelFirst
      rw [hexec] at e
      cases e
      exact hbegins.pending
    · rw [execFrameStart_late hl hj] at e
      cases e
      rfl

theorem conversion_pending {code : BitVec 10} (e : exec (.sensorConversionCompletion code) s = .next t) :
    t.pending = s.pending := by
  cases hc : s.panel.conversion with
  | none =>
    rw [execSensorConversionCompletion_none hc] at e
    cases e
    rfl
  | some c =>
    rw [execSensorConversionCompletion_some hc, State.thermistorRead_eq] at e
    cases e
    repeat' split
    all_goals rfl

/-- No row touches the waiting commands. -/
theorem exec_pending (e : exec c s = .next t) : t.pending = s.pending := by
  cases c
  -- The resets and the load.
  case powerOnReset => cases e; rfl
  case pcieLinkReset => cases e; exact State.discardAllBuilding_pending _
  case loadCompletion slots journal =>
    rw [exec, execLoadCompletion_eq] at e
    cases e
    split
    · exact s.load_pending slots journal
    · rfl
  -- The POS link.
  case lineByte b fe =>
    cases e
    split
    · rfl
    · exact s.receiveByte_pending b fe
  case frameDropped frame => cases e; exact s.onFrame_pending fun t => t.acceptFrame_pending frame
  case unknownKind a kind l => cases e; exact s.onFrame_pending fun t => t.takeKind_pending a kind l
  case status a l => exact request_pending (k := 0x01) (a := a) (l := l) rfl e
  case itemStage a l => exact request_pending (k := 0x02) (a := a) (l := l) rfl e
  case itemRemove a l => exact request_pending (k := 0x03) (a := a) (l := l) rfl e
  case promoStage a l => exact request_pending (k := 0x04) (a := a) (l := l) rfl e
  case rulesStage a l => exact request_pending (k := 0x05) (a := a) (l := l) rfl e
  case stageAbort a l => exact request_pending (k := 0x06) (a := a) (l := l) rfl e
  case commit a l => exact request_pending (k := 0x07) (a := a) (l := l) rfl e
  case apply a l => exact request_pending (k := 0x08) (a := a) (l := l) rfl e
  case commitCancel a l => exact request_pending (k := 0x09) (a := a) (l := l) rfl e
  case availSet a l => exact request_pending (k := 0x0A) (a := a) (l := l) rfl e
  case scheduleSet a l => exact request_pending (k := 0x0B) (a := a) (l := l) rfl e
  case daypartForce a l => exact request_pending (k := 0x0C) (a := a) (l := l) rfl e
  case timeSet a l => exact request_pending (k := 0x0D) (a := a) (l := l) rfl e
  case itemRead a l => exact request_pending (k := 0x0E) (a := a) (l := l) rfl e
  case suspendedList a l => exact request_pending (k := 0x0F) (a := a) (l := l) rfl e
  case suspendClear a l => exact request_pending (k := 0x10) (a := a) (l := l) rfl e
  case nvaReport a l => exact request_pending (k := 0x11) (a := a) (l := l) rfl e
  case checkTest path =>
    cases path with
    | posLink a l => exact request_pending (k := 0x12) (a := a) (l := l) rfl e
    | contentPort go => exact command_pending rfl e
  -- The frame job.
  case commitCheckCompletion l =>
    cases e
    repeat' split
    case isTrue =>
      exact (State.finishCheck_pending _ _).trans ((State.upsets_reads l s).trans (State.readBodies_reads _ _)).pending
    all_goals rfl
  case frameStart panelFirst => exact frameStart_pending e
  case sensorConversionCompletion code => exact conversion_pending e
  case composeLayer u =>
    cases e
    split
    · exact ((State.upsets_reads u.bodies s).checks.trans (State.composeAt_checks ..)).pending
    all_goals rfl
  case checkRecord l stuck =>
    cases e
    repeat' split
    case h_1 => exact ((State.upsets_reads l s).checks.trans (State.checkAt_leaves ..).checks).pending
    all_goals rfl
  case patchRecord =>
    cases e
    repeat' split
    case h_1 => exact (s.patchAt_checks ..).pending
    all_goals rfl
  -- The content port.
  case assetOpen | assetClose | assetAbort | assetFree | assetQuery | sceneBegin | layerAdd | sceneSubmit | sceneDiscard
      | styleSet | panelSet | curveSet | thermalSet | backlightRestart | frameRateSet | itemQuery | statusQuery =>
    exact command_pending rfl e
  case unknownCommand go code => cases e; exact State.runRecord_pending _ go
  case registerWrite o l => cases e; exact s.windowWrite_pending ..
  case apertureWrite o l => cases e; exact s.apertureWrite_pending ..
  -- The array.
  case slotWriteBegin l =>
    cases e
    split
    · exact ((State.upsets_reads l s).trans (State.beginWrite_reads ..)).pending
    · rfl
  case slotWriteCompletion found =>
    cases e
    split
    · exact (s.completeWrite_reads ..).pending
    all_goals rfl
  case repairReadCompletion found =>
    cases e
    split
    · exact (s.completeRepair_reads ..).pending
    all_goals rfl
  -- Rows that name every field they change.
  case idlePeriodExpiry | frameGapExpiry | answerBegin | answerEnd | holdExpiry | repairReadStart | composePanelFill
      | composeStageEnd | checkStageEnd | jobCompletion =>
    cases e
    repeat' split
    all_goals rfl
  case secondTick | summaryWordRead | loadFaultRecordRead | messageEnable => cases e; rfl

/-- Every row answers a next state. -/
theorem exec_next (c : Instr) (s : State) : ∃ t, exec c s = .next t := by
  cases c <;> exact ⟨_, rfl⟩

end

/-- Settles O2: every row answers a next state, and no row touches the waiting commands. -/
theorem everyCommandCompletes : Obligations.EveryCommandCompletes := by
  unfold Obligations.EveryCommandCompletes
  intro c s
  obtain ⟨t, e⟩ := exec_next c s
  exact ⟨t, e, exec_pending e⟩

/-- A command put at the front of the queue and taken off again leaves the state. -/
theorem State.popped_pushed (s : State) (c : Instr) : (s.pushed c).popped = s := rfl

/-- Settles O1: the command pushed is the front command, and what is popped is the queue's rest. -/
theorem stepRunsFrontCommand : Obligations.StepRunsFrontCommand := by
  unfold Obligations.StepRunsFrontCommand
  intro c s
  rw [step, State.pushed_pending]
  exact congrArg (exec c) (s.popped_pushed c)

end Sys2Proof.Machine
end
